-- ==== Sys2Proof/Word.lean ====
section
/-! DEFINITION. The word types of the US-664 and their plainest arithmetic. -/

namespace Sys2Proof

/-- One byte of a frame. -/
abbrev Byte := BitVec 8

/-- One 16-bit register or descriptor word. -/
abbrev Word := BitVec 16

/-- One 32-bit word: an epoch, a fuse word, a host frame. -/
abbrev DWord := BitVec 32

/-- An instant or a length in lane ticks of 6.25 ns (R335). -/
abbrev Ticks := Nat

/-- A pitch, P0 to P7 (chapter 00, Nicknames). -/
abbrev Pitch := Fin 8

/-- A motor lane, LANE_0 to LANE_5. -/
abbrev LaneIx := Fin 6

/-- A phase of a lane: 0, 1, 2 for U, V, W. -/
abbrev PhaseIx := Fin 3

/-- A wheel tracker, WHEEL_0 to WHEEL_3; also a WIN pin and a WS supply. -/
abbrev TrkIx := Fin 4

/-- An analogue input, AIN_0 to AIN_7. -/
abbrev AinIx := Fin 8

/-- A temperature sensor index (R542): 0 to 7 die, 8 to 13 NTC. -/
abbrev SensorIx := Fin 14

/-- A command queue. -/
abbrev QueueIx := Fin 64

/-- A window of a tracker. -/
abbrev WinIx := Fin 16

/-- A tally. -/
abbrev TallyIx := Fin 64

/-- A counter that stays at its largest value. -/
def satInc {w : Nat} (x : BitVec w) : BitVec w :=
  if x = BitVec.allOnes w then x else x + 1

/-- A number shown in a register that saturates at its largest value. -/
def satNat (w n : Nat) : BitVec w :=
  if n < 2 ^ w then BitVec.ofNat w n else BitVec.allOnes w

/-- A number held to a range. -/
def clampInt (lo hi x : Int) : Int := max lo (min hi x)

/-- The bit of a register image that shows a flag. -/
def flagBit (b : Bool) (k : Nat) : Word := if b then BitVec.ofNat 16 (2 ^ k) else 0

/-- The bit of a nibble-wide field that shows a flag. -/
def bit01 (b : Bool) : Nat := if b then 1 else 0

/-- `n / d` rounded half away from zero; `d` is positive where it is used. -/
def roundHalfAway (n : Int) (d : Nat) : Int :=
  if n ≥ 0 then (2 * n + d) / (2 * d) else -((2 * -n + d) / (2 * d))

end Sys2Proof
end

