-- ==== Sys2Proof/Syntax.lean ====
section
/-! DEFINITION. The commands the US-664 takes: one constructor for each row of spec/opcode_table.json,
with the operands that the row's event brings from outside. -/

namespace Sys2Proof

/-- A queue descriptor of eight words (chapter 09, *Descriptor*). -/
structure Desc where
  w0 : Word
  w1 : Word
  w2 : Word
  w3 : Word
  w4 : Word
  w5 : Word
  w6 : Word
  w7 : Word
  deriving DecidableEq, Repr

/-- The door a command came through (R15, R657): a ring slot, the host doorbell, or a register path. -/
inductive Door where
  | ring
  | host
  | register
  deriving DecidableEq, Repr

/-- An accepted command: who issued it, through which door and queue, at which effective epoch (R301, R302). -/
structure Cmd where
  pitch : Pitch
  door : Door
  queue : QueueIx
  epoch : DWord
  desc : Desc
  deriving DecidableEq, Repr

/-- A ring slot (chapter 07, *Slot bytes*): the 48 header bits, the 40 payload bytes, the tag and the
CRC-32 as the reflected IEEE 802.3 value. -/
structure Frame where
  header : BitVec 48
  payload : Vector Byte 40
  tag : BitVec 64
  crc : DWord
  deriving DecidableEq, Repr

/-- A BELL frame (chapter 07, *The BELL frame*): the 48 header bits, the payload of bytes 9 to 16, most significant byte first, and the
CRC-32 in bytes 17 to 20 as the reflected IEEE 802.3 value (R203). -/
structure BellFrame where
  header : BitVec 48
  payload : BitVec 64
  crc : DWord
  deriving DecidableEq, Repr

/-- What passes a node on a pair: a slot or a BELL frame. -/
inductive Passing where
  | slot (slot : Fin 36) (frame : Frame)
  | bell (frame : BellFrame)
  deriving DecidableEq, Repr

/-- The two pairs of the ring. -/
inductive Pair where
  | a
  | b
  deriving DecidableEq, Repr

/-- The readings of two consecutive windows of 256 WATCH cycles each: the CD00 / 8 cycles counted in them (R91, R94), and the crystal
measured against WATCH in them, in kHz (R93, R653). -/
structure ClockWindows where
  root1 : Nat
  root2 : Nat
  xtal1 : Nat
  xtal2 : Nat
  deriving DecidableEq, Repr

/-- What root failure is declared on: the lock detector drops, CD00 shows no edge for 8 WATCH cycles, or two windows (R91). -/
inductive RootFault where
  | unlocked
  | stopped
  | windows (w : ClockWindows)
  deriving DecidableEq, Repr

/-- Why the PLL leaves the ring's reference (R88). -/
inductive RefLoss where
  | transitions
  | drift
  deriving DecidableEq, Repr

/-- What the boundary of a bell observes from outside: its instant, and the line input power averaged over
the bell that ends, in mW, the charging current excluded (R58, R624). -/
structure BellObs where
  at_ : Ticks
  drawMw : Nat
  deriving DecidableEq, Repr

/-- Why an on-phase ends (R336). -/
inductive PhaseEnd where
  | compare
  | periodMax
  | trip
  deriving DecidableEq, Repr

/-- The lane comparators that are routed (R384). -/
inductive Comparator where
  | peak
  | oc
  | uc
  deriving DecidableEq, Repr

/-- The external fault pins (R386). -/
inductive FaultPin where
  | flt0
  | flt1
  deriving DecidableEq, Repr

/-- The two bulk rails: VBA for lanes 0 to 2, VBB for lanes 3 to 5. -/
inductive Rail where
  | a
  | b
  deriving DecidableEq, Repr

/-- The level of a wheel sensor's current (R494). -/
inductive WsLevel where
  | open_
  | low
  | mid
  | high
  | short
  deriving DecidableEq, Repr

/-- The kinds of a half-bridge's gate fault (R465), 0x1 to 0x5. -/
inductive GateKind where
  | vdsHigh
  | vdsLow
  | vgsHigh
  | vgsLow
  | bootstrap
  deriving DecidableEq, Repr

/-- The commands, in the order of spec/opcode_table.json. `t` is the instant of the event; `raw` are the raw entropy bits sampled since
the last row that brought some, oldest first; `millivolts` is what the comparator or monitor of the row reads, its own error included (log
entry 69). -/
inductive Instr where
  -- start-up and reset
  | lit (t : Ticks)
  | powerReset (t : Ticks)
  | watchCheckReset (t : Ticks) (windows : ClockWindows)
  | monitorChallenge
  | safetyMonitorReset (t : Ticks)
  | resetRelease (t : Ticks) (holdRailUp : Bool)
  | fuseSenseDone
  | settled (t : Ticks)
  | keySlotSelect (weak : List Nat)
  | seeded (t : Ticks) (raw : List Bool)
  | seedSlow (t : Ticks)
  | healthTestFail (t : Ticks) (raw : List Bool)
  | drbgReseed (t : Ticks) (raw : List Bool)
  -- line power
  | lineGood (t : Ticks)
  | lineLossDeclared (t : Ticks)
  | holdupAbort (t : Ticks)
  | lineOvWarn (t : Ticks)
  | lineOvClear
  | lineOvStop (t : Ticks)
  | lineOvStopClear
  | holdCapMeasured (chargeMicros : Nat)
  | overdrawSet (t : Ticks)
  | overdrawClear
  -- insertion and the link
  | beyondFoldDetect
  | insertOffer (slot : Fin 36) (offer back : Frame)
  | insertRequestAtFold (slot : Fin 36) (request : Frame) (afterNanos : Nat)
  | insertGrant (slot : Fin 36) (frame : Frame)
  | insertRefuse (slot : Fin 36) (t : Ticks) (frame : Frame)
  | refuseHoldoffEnd
  | grantWaitExpiry
  | flashingOpenA (t : Ticks)
  | flashingOpenB (t : Ticks)
  | autoFold (t : Ticks)
  | foldFrame (slot : Fin 36) (frame : Frame)
  | unfold (t : Ticks)
  | carrierLoss (pair : Pair)
  | frameForward (pair : Pair) (what : Passing)
  -- bells
  | bellFrame (t : Ticks) (frame : BellFrame) (offset : Word)
  | islandBellFrame (t : Ticks) (frame : BellFrame) (offset : Word)
  | flywheelBell (obs : BellObs)
  | ridgeTimeout (t : Ticks)
  | islandBellEmit
  -- clocks
  | syntonySwitch
  | syntonyLoss (t : Ticks) (why : RefLoss)
  | clkCtrlWrite (t : Ticks) (data : Word)
  | xtalFail (t : Ticks)
  | xtalRecover
  | rootFail (t : Ticks) (why : RootFault)
  | rootRecover (t : Ticks)
  -- the boundary and the expiries
  | bellBoundary (obs : BellObs)
  | leaseExpiry (t : Ticks)
  | sessionExpiry (p : Pitch)
  -- ring requests
  | slotRequestA (slot : Fin 36) (frame : Frame)
  | slotResponseB (slot : Fin 36) (frame : Frame)
  | dataSubmit (p : Pitch) (queue : Byte) (desc : Desc)
  | dataCollect (p : Pitch) (queue : Byte) (newHead : Byte)
  | sessionOpen (slot : Fin 36) (frame : Frame)
  | ident (slot : Fin 36) (frame : Frame)
  | traceGrant (slot : Fin 36) (frame : Frame)
  | enumRoll (slot : Fin 36) (t : Ticks) (frame : Frame)
  | rollReturn (units : Word)
  | setDelay (slot : Fin 36) (frame : Frame)
  -- the host port
  | hostFrame (t : Ticks) (bits : DWord)
  | frameAbort
  | registerWrite (t : Ticks) (addr : BitVec 7) (data : Word)
  | loLatchRead (t : Ticks) (addr : BitVec 7)
  | pageSel (t : Ticks) (data : Word)
  | doorbell (t : Ticks) (data : Word)
  | cqPop (t : Ticks) (data : Word)
  | evqPop (t : Ticks) (data : Word)
  | fuseCmdProgram (t : Ticks) (data : Word)
  | fuseCmdRead (t : Ticks) (data : Word)
  | battenCommit (n : LaneIx) (t : Ticks) (data : Word)
  | flashCtrlWrite (t : Ticks) (data : Word)
  | hostPitchWrite (t : Ticks) (data : Word)
  | tallySrcWrite (t : Ticks) (data : Word)
  | thermalLimitWrite (t : Ticks) (addr : BitVec 7) (data : Word)
  | rstNAssert
  | hostLoss
  | rstNRelease
  -- descriptor opcodes at their application
  | readBlock (c : Cmd)
  | writeBatten (c : Cmd)
  | commitBatten (c : Cmd)
  | laneStart (c : Cmd)
  | laneStop (c : Cmd)
  | laneSetSpeed (c : Cmd)
  | laneReverse (c : Cmd)
  | laneReseat (c : Cmd)
  | laneCalibrate (c : Cmd)
  | laneOffstateDiag (c : Cmd)
  | laneSelftest (c : Cmd)
  | laneClearLatch (c : Cmd)
  | wheelLoadTableStage (c : Cmd)
  | wheelLoadTableSeat (c : Cmd)
  | windowArm (c : Cmd)
  | windowDisarm (c : Cmd)
  | thermalQuery (c : Cmd)
  | fuseRead (c : Cmd)
  | fuseProgramWord (c : Cmd)
  | lifecycleAdvance (c : Cmd)
  | keyRoll (c : Cmd)
  | tallySnapshot (c : Cmd)
  | traceConsentGrant (c : Cmd)
  | traceConsentRevoke (c : Cmd)
  | traceConsentCountersign (c : Cmd)
  | leaseRenew (c : Cmd)
  | benchHold (c : Cmd)
  | benchRelease (c : Cmd)
  | assign (c : Cmd)
  | reopen (c : Cmd)
  -- the fuse programmer
  | fuseWindowStart (p : Pitch)
  | fuseSupplyTimeout
  | fusePulseEnd (readback : DWord) (checkOk : Bool)
  | fuseAbort
  -- the carrier
  | carrierBoundary (n : LaneIx) (t : Ticks)
  | onPhaseEnd (n : LaneIx) (t : Ticks) (why : PhaseEnd)
  | deadTimeEnd (n : LaneIx) (k : PhaseIx) (t : Ticks)
  | valleyDetect (n : LaneIx) (t : Ticks) (millivolts : Int)
  -- commutation
  | bemfSample (n : LaneIx) (t : Ticks) (above : Bool)
  | commutation (n : LaneIx) (t : Ticks)
  | missedCrossing (n : LaneIx) (t : Ticks)
  | alignEnd (n : LaneIx) (t : Ticks)
  | profileStep (n : LaneIx) (t : Ticks)
  | restart (n : LaneIx) (t : Ticks)
  | restartCountClear (n : LaneIx)
  | brakeEnd (n : LaneIx) (t : Ticks)
  | rampStopEnd (n : LaneIx) (t : Ticks)
  | bemfTransition (n : LaneIx) (k : PhaseIx) (t : Ticks) (above : Bool)
  | coastSpeedTimeout (n : LaneIx)
  -- sense and converters
  | currentCapture (n : LaneIx) (t : Ticks)
  | comparatorAssert (n : LaneIx) (cmp : Comparator) (t : Ticks) (out : BitVec 10)
  | faultPinAssert (pin : FaultPin) (t : Ticks)
  | adcSlot (adc : Fin 2) (slot : Fin 32) (oddFrame : Bool) (code : BitVec 12)
  | offsetMeasured (n : LaneIx) (sum : Nat)
  | bulkWindowChange (rail : Rail) (low high : Bool)
  -- gate drive
  | gateFault (n : LaneIx) (k : PhaseIx) (kind : GateKind) (t : Ticks) (millivolts : Int)
  | retryResume (n : LaneIx) (t : Ticks)
  | vgdFault (t : Ticks) (overVoltage : Bool)
  | vgdRecover (t : Ticks)
  | pinInputChange (h : LaneIx) (pulse en : Bool) (t : Ticks)
  | diagStepEnd (n : LaneIx) (u v w : BitVec 10)
  | selftestEnd (n : LaneIx) (cmp : BitVec 7) (vds : BitVec 6)
  -- wheels
  | wsLevelChange (n : TrkIx) (level : WsLevel) (t : Ticks)
  | toothCommit (n : TrkIx) (t : Ticks)
  | toothWindowClose (n : TrkIx) (t : Ticks)
  | microTick (n : TrkIx) (t : Ticks)
  | standstill (n : TrkIx)
  | wsOpen (n : TrkIx)
  | wsOpenClear (n : TrkIx)
  | wsShort (n : TrkIx)
  | wsSupplyRetry (n : TrkIx)
  | wsHoldoffEnd (n : TrkIx)
  | wsShortClear (n : TrkIx)
  | sensorWarn (n : TrkIx)
  -- heat
  | thermalConversion (i : Fin 8) (raw : Int)
  | thermalSample (i : SensorIx) (t : Ticks)
  | rateUpdate (t : Ticks)
  -- trace, and the events the table adds at its end
  | tracePacketSend (t : Ticks)
  | programmingSupplySettled
  | carrierReturn (pair : Pair)
  | codeViolation
  | faultPinRelease (pin : FaultPin)
  deriving DecidableEq, Repr

end Sys2Proof
end

