-- ==== Sys2Proof/Machine/Crypto.lean ====
section
/-! DEFINITION. The codes of the wire: CRC-8 (R290), CRC-32 (R203), AES-256 with CMAC, GCM and the counter-mode KDF
(R205, R268, R269), and the CTR_DRBG (R266), all on byte lists, first byte first. -/

namespace Sys2Proof.Machine

/-- The bytes of a number, most significant first. -/
def bytesOf : Nat → Nat → List Byte
  | 0, _ => []
  | k + 1, x => BitVec.ofNat 8 (x / 256 ^ k) :: bytesOf k x

/-- The number a byte list spells, most significant first. -/
def natOfBytes (bs : List Byte) : Nat := bs.foldl (fun a b => 256 * a + b.toNat) 0

/-- One bit of the CRC-8 register (R290). -/
def crc8Bit (r : Byte) : Byte := if r.msb then (r <<< 1) ^^^ 0x2F else r <<< 1

/-- One byte into the CRC-8 register. -/
def crc8Byte (r b : Byte) : Byte :=
  crc8Bit (crc8Bit (crc8Bit (crc8Bit (crc8Bit (crc8Bit (crc8Bit (crc8Bit (r ^^^ b))))))))

/-- The CRC-8 of R290: polynomial 0x2F, initial value 0xFF, no reflection, no final XOR. -/
def crc8 (bs : List Byte) : Byte := bs.foldl crc8Byte 0xFF

/-- One bit of the reflected CRC-32 register. -/
def crc32Bit (r : DWord) : DWord := if r.getLsbD 0 then (r >>> 1) ^^^ 0xEDB88320 else r >>> 1

/-- One byte into the CRC-32 register. -/
def crc32Byte (r : DWord) (b : Byte) : DWord :=
  crc32Bit (crc32Bit (crc32Bit (crc32Bit (crc32Bit (crc32Bit (crc32Bit (crc32Bit (r ^^^ b.setWidth 32))))))))

/-- The IEEE 802.3 frame check sequence (R203). -/
def crc32 (bs : List Byte) : DWord := ~~~ (bs.foldl crc32Byte 0xFFFFFFFF)

/-- Doubling in the field of AES. -/
def xtime (b : Byte) : Byte := if b.msb then (b <<< 1) ^^^ 0x1B else b <<< 1

/-- Multiplication in the field of AES: the low `k` bits of `b`. -/
def gmulBits (a b : Byte) : Nat → Byte
  | 0 => 0
  | k + 1 => (if b.getLsbD 0 then a else 0) ^^^ gmulBits (xtime a) (b >>> 1) k

/-- Multiplication in the field of AES. -/
def gmul (a b : Byte) : Byte := gmulBits a b 8

/-- The inverse in the field of AES, 0 for 0: x to the 254. -/
def ginv (x : Byte) : Byte :=
  let x2 := gmul x x
  let x4 := gmul x2 x2
  let x8 := gmul x4 x4
  let x16 := gmul x8 x8
  let x32 := gmul x16 x16
  let x64 := gmul x32 x32
  let x128 := gmul x64 x64
  gmul x128 (gmul x64 (gmul x32 (gmul x16 (gmul x8 (gmul x4 x2)))))

/-- The AES substitution of one byte. -/
def subByte (x : Byte) : Byte :=
  let y := ginv x
  y ^^^ y.rotateLeft 1 ^^^ y.rotateLeft 2 ^^^ y.rotateLeft 3 ^^^ y.rotateLeft 4 ^^^ 0x63

/-- The substitution box, computed once. -/
def sbox : Array Byte := ((List.range 256).map fun i => subByte (BitVec.ofNat 8 i)).toArray

/-- The substitution by table. -/
def sub (x : Byte) : Byte := sbox.getD x.toNat 0

/-- Bytewise exclusive or. -/
def xorBytes (a b : List Byte) : List Byte := List.zipWith (· ^^^ ·) a b

/-- The expanded words of an AES-256 key, newest first; `k` words to add. -/
def expandKey : Nat → Nat → Byte → List (List Byte) → List (List Byte)
  | 0, _, _, ws => ws
  | k + 1, i, rcon, ws =>
    let temp := ws.headD []
    let old := ws.getD 7 []
    let temp' :=
      if i % 8 = 0 then
        match temp with
        | [a, b, c, d] => [sub b ^^^ rcon, sub c, sub d, sub a]
        | _ => temp
      else if i % 8 = 4 then temp.map sub
      else temp
    expandKey k (i + 1) (if i % 8 = 0 then xtime rcon else rcon) (xorBytes old temp' :: ws)

/-- A byte list cut into pieces of `n`, `k` of them. -/
def pieces (n : Nat) : Nat → List Byte → List (List Byte)
  | 0, _ => []
  | k + 1, bs => bs.take n :: pieces n k (bs.drop n)

/-- The 15 round keys of an AES-256 key of 32 bytes. -/
def roundKeys (key : List Byte) : List (List Byte) :=
  let ws := (expandKey 52 8 0x01 (pieces 4 8 key).reverse).reverse
  (pieces 16 15 ws.flatten)

/-- ShiftRows on the 16 bytes of a block. -/
def shiftRows (b : List Byte) : List Byte :=
  [0, 5, 10, 15, 4, 9, 14, 3, 8, 13, 2, 7, 12, 1, 6, 11].map fun i => b.getD i 0

/-- MixColumns on one column. -/
def mixColumn : List Byte → List Byte
  | [a, b, c, d] =>
    [xtime a ^^^ (xtime b ^^^ b) ^^^ c ^^^ d, a ^^^ xtime b ^^^ (xtime c ^^^ c) ^^^ d,
     a ^^^ b ^^^ xtime c ^^^ (xtime d ^^^ d), (xtime a ^^^ a) ^^^ b ^^^ c ^^^ xtime d]
  | x => x

/-- The AES rounds after the first key: all but the last mix their columns. -/
def aesRounds : List (List Byte) → List Byte → List Byte
  | [], b => b
  | [k], b => xorBytes (shiftRows (b.map sub)) k
  | k :: ks, b => aesRounds ks (xorBytes ((pieces 4 4 (shiftRows (b.map sub))).map mixColumn).flatten k)

/-- AES-256 of one 16-byte block. -/
def aes256 (key block : List Byte) : List Byte :=
  match roundKeys key with
  | [] => block
  | k :: ks => aesRounds ks (xorBytes block k)

/-- A 128-bit block shifted left by one with the CMAC feedback. -/
def cmacDouble (b : List Byte) : List Byte :=
  let x := natOfBytes b
  let y := (2 * x) % 2 ^ 128
  bytesOf 16 (if x ≥ 2 ^ 127 then y ^^^ 0x87 else y)

/-- The CBC chain of CMAC over the blocks before the last. -/
def cmacChain (key : List Byte) : Nat → List Byte → List Byte → List Byte × List Byte
  | 0, acc, m => (acc, m)
  | k + 1, acc, m => cmacChain key k (aes256 key (xorBytes acc (m.take 16))) (m.drop 16)

/-- AES-CMAC (NIST SP 800-38B), 16 bytes. -/
def aesCmac (key m : List Byte) : List Byte :=
  let k1 := cmacDouble (aes256 key (bytesOf 16 0))
  let k2 := cmacDouble k1
  let n := (m.length + 15) / 16
  let r := cmacChain key (n - 1) (bytesOf 16 0) m
  let last :=
    if m ≠ [] ∧ m.length % 16 = 0 then xorBytes r.2 k1
    else xorBytes ((r.2 ++ 0x80 :: List.replicate 15 0).take 16) k2
  aes256 key (xorBytes r.1 last)

/-- One bit of the GHASH product: `x` the multiplier's bits left, `z` the sum, `v` the shifted operand. -/
def ghashBits : Nat → BitVec 128 → BitVec 128 → BitVec 128 → BitVec 128
  | 0, _, z, _ => z
  | k + 1, x, z, v =>
    ghashBits k (x <<< 1) (if x.msb then z ^^^ v else z)
      (if v.getLsbD 0 then (v >>> 1) ^^^ (0xE1#128 <<< 120) else v >>> 1)

/-- The product of GHASH. -/
def ghashMul (x y : BitVec 128) : BitVec 128 := ghashBits 128 x 0 y

/-- GHASH over `k` blocks, the last padded with zeros. -/
def ghash (h : BitVec 128) : Nat → BitVec 128 → List Byte → BitVec 128
  | 0, acc, _ => acc
  | k + 1, acc, bs =>
    let blk := BitVec.ofNat 128 (natOfBytes ((bs ++ List.replicate 16 0).take 16))
    ghash h k (ghashMul (acc ^^^ blk) h) (bs.drop 16)

/-- The counter-mode stream of GCM over `k` blocks. -/
def gcmStream (key iv : List Byte) : Nat → Nat → List Byte → List Byte
  | 0, _, _ => []
  | k + 1, ctr, bs =>
    xorBytes (bs.take 16) (aes256 key (iv ++ bytesOf 4 ctr)) ++ gcmStream key iv k (ctr + 1) (bs.drop 16)

/-- AES-256-GCM encryption and decryption of a text with a 96-bit IV (NIST SP 800-38D). -/
def gcmCrypt (key iv text : List Byte) : List Byte :=
  gcmStream key iv ((text.length + 15) / 16) 2 text

/-- The full GCM tag over the additional data and the ciphertext. -/
def gcmTag (key iv aad cipher : List Byte) : List Byte :=
  let h := BitVec.ofNat 128 (natOfBytes (aes256 key (bytesOf 16 0)))
  let a := ghash h ((aad.length + 15) / 16) 0 aad
  let c := ghash h ((cipher.length + 15) / 16) a cipher
  let l := ghash h 1 c (bytesOf 8 (8 * aad.length) ++ bytesOf 8 (8 * cipher.length))
  xorBytes (bytesOf 16 l.toNat) (aes256 key (iv ++ bytesOf 4 1))

/-- The derivation function of SP 800-90A for AES-256: 48 bytes of seed from an input (R266). -/
def ctrDf (input : List Byte) : List Byte :=
  let text := bytesOf 4 input.length ++ bytesOf 4 48 ++ input ++ [0x80]
  let text := text ++ List.replicate ((16 - text.length % 16) % 16) 0
  let key := (List.range 32).map (BitVec.ofNat 8)
  let part (i : Nat) : List Byte :=
    (cmacChain key (text.length / 16 + 1) (bytesOf 16 0) (bytesOf 4 i ++ bytesOf 12 0 ++ text)).1
  let temp := part 0 ++ part 1 ++ part 2
  let x1 := aes256 (temp.take 32) ((temp.drop 32).take 16)
  let x2 := aes256 (temp.take 32) x1
  x1 ++ x2 ++ aes256 (temp.take 32) x2

/-- The bytes of a 256-bit key: byte 0 is bits [255:248] (R647). -/
def keyBytes (k : BitVec 256) : List Byte := bytesOf 32 k.toNat

/-- The counter-mode KDF of SP 800-108 with AES-CMAC, run twice (chapter 08, *Opening a session*); `input` is the
PRF input without its leading counter. -/
def kdf (k : BitVec 256) (input : List Byte) : BitVec 256 :=
  BitVec.ofNat 256 (natOfBytes (aesCmac (keyBytes k) (0x01 :: input) ++ aesCmac (keyBytes k) (0x02 :: input)))

/-- "US6-OPEN", "US6-SESSION" and "US6-ROLL" in ASCII, each with its 0x00 (R269). -/
def labelOpen : List Byte := [0x55, 0x53, 0x36, 0x2D, 0x4F, 0x50, 0x45, 0x4E, 0x00]

/-- The label of a session key. -/
def labelSession : List Byte := [0x55, 0x53, 0x36, 0x2D, 0x53, 0x45, 0x53, 0x53, 0x49, 0x4F, 0x4E, 0x00]

/-- The label of a rolled key. -/
def labelRoll : List Byte := [0x55, 0x53, 0x36, 0x2D, 0x52, 0x4F, 0x4C, 0x4C, 0x00]

/-- The open key K_o of pitch `p` with active slot `s` (R269). -/
def openKey (k : BitVec 256) (serial : BitVec 64) (p s : Nat) : BitVec 256 :=
  kdf k (labelOpen ++ bytesOf 8 serial.toNat ++ bytesOf 1 p ++ bytesOf 1 s ++ [0x01, 0x00])

/-- The session key K_s (R269). -/
def sessionKey (k : BitVec 256) (serial : BitVec 64) (p s : Nat) (epoch : DWord) (np nn : List Byte) : BitVec 256 :=
  kdf k (labelSession ++ bytesOf 8 serial.toNat ++ bytesOf 1 p ++ bytesOf 1 s ++ bytesOf 4 epoch.toNat
    ++ np ++ nn ++ [0x01, 0x00])

/-- The rolled key (R269). -/
def rolledKey (k : BitVec 256) (serial : BitVec 64) (p s : Nat) (sp sn : BitVec 64) : BitVec 256 :=
  kdf k (labelRoll ++ bytesOf 8 serial.toNat ++ bytesOf 1 p ++ bytesOf 1 s ++ bytesOf 8 sp.toNat ++ bytesOf 8 sn.toNat
    ++ [0x01, 0x00])

/-- The validity word of slot `s` of pitch `p` holding key `k` (chapter 05, *Key slot layout*). -/
def validityWord (k : BitVec 256) (serial : BitVec 64) (p s : Nat) : DWord :=
  let mac := natOfBytes ((aesCmac (keyBytes k) (bytesOf 8 serial.toNat ++ bytesOf 1 p ++ bytesOf 1 s)).take 3)
  BitVec.ofNat 32 (mac * 256 + 0xA0 + s)

end Sys2Proof.Machine
end

