-- ==== Sys2Proof/Config.lean ====
section
/-! DEFINITION. What one part fixes and the spec leaves open, as constants without a body, and the figures
of the US-664 that several chapters share. -/

namespace Sys2Proof.Config

/-- The seed material made of a tested pool, its raw bits oldest first, at the `k`-th seeding since device reset (R266). The spec states
neither how raw bits become bytes nor the nonce, the personalisation string and the additional input of the standard, so no value
follows: a free value (log entry 3). -/
opaque seedMaterial (k : Nat) (pool : List Bool) : List (BitVec 8)

/-- The wheel's ticks of 12.5 ns hold two lane ticks. -/
def wheelTick : Nat := 2

/-- Lane ticks in 1 us. -/
def ticksPerUs : Nat := 160

/-- Lane ticks in 1 ms. -/
def ticksPerMs : Nat := 160000

/-- The base accounting term of R52, in mW. -/
def baseMw : Nat := 900

/-- The wheel-sensor accounting term of R52, in mW. -/
def sensorMw : Nat := 400

/-- T_CLOSE, 165 degrees, in 1/16 K (R556). -/
def tClose : Int := 165 * 16

/-- MEAS_MIN, 320 ticks (chapter 13, *Open windings while running*). -/
def measMin : Nat := 320

/-- The VGS level below which an on command has failed, in mV (R465). -/
def vgsOn : Int := 7000

/-- The VGS level above which an off command has failed, in mV (R465). -/
def vgsOff : Int := 1500

/-- The bootstrap's falling level, in mV (R465). -/
def bootstrapLow : Int := 8000

/-- The 20 us from a reset to LIT, in lane ticks (R164, R183). -/
def resetTicks : Nat := 3200

/-- The time from SETTLED to SEED_SLOW, in ms (R174). -/
def seedSlowMs : Nat := 60

/-- The life of a session in bells (R273). -/
def sessionBells : Nat := 2147483648

/-- Identical raw bits in a row that fail the repetition-count test (R264). -/
def rctCutoff : Nat := 41

/-- The window of the adaptive-proportion test, in raw bits, and the occurrences of its first bit that fail it (R264). -/
def aptWindow : Nat := 1024

/-- The cutoff of the adaptive-proportion test (R264). -/
def aptCutoff : Nat := 795

/-- Raw bits tested before the first seed, and after every failure (R264, R265). -/
def startupBits : Nat := 4096

/-- Raw bits of a pool (R265). -/
def poolBits : Nat := 1024

/-- Bells after a seeding at which a fresh pool begins to be gathered, so that it is complete before the 4096 bells of R266 have passed
(log entry 40). -/
def reseedBells : Nat := 4092

/-- The retry window of R470, in bells. -/
def retryWindow : Nat := 10000

/-- What a supply channel's register shows, 10 mV per LSB, for an ADC code (R655): the spec states no divider for these
channels, so no value follows: a free value (log entry 24). Channels: 0 VBA, 1 VBB, 2 VGD, 3 VHOLD, 4 LINE_P. -/
opaque supplyReading (channel : Nat) (code : BitVec 12) : BitVec 16

/-- The temperature in 1/16 K of an NTC whose formula (R543) gives nothing that 16 bits at 1/16 K can hold, for the ADC
code and NTC_CFG: the spec states no result there: a free value (log entry 26). -/
opaque ntcBeyond (code : BitVec 12) (cfg : BitVec 16) : Int

/-- RX_LEVEL of pair A (0) or B (1) after the `bell`-th boundary, 10 mV per LSB: a measured amplitude that no command brings: a
free value (log entry 31). -/
opaque rxLevel (pair bell : Nat) : BitVec 8

/-- DEST, PITCH and SEQ in the header of a REQUEST answering an OFFER in slot `slot`, in their places; the other bits are not used. The spec
states none of the three: a free value (log entry 32). -/
opaque requestHeader (slot : Nat) : BitVec 48

/-- What the slope trim of a die sensor makes of a raw conversion in 1/16 K: the spec gives the trim no scale: a free value (R542; log
entry 52). -/
opaque dieSlope (slope : BitVec 8) (raw : Int) : Int

end Sys2Proof.Config
end

