-- ==== Sys2Proof/Machine/State.lean ====
section
/-! DEFINITION. The state of the US-664: every register, queue, store, counter and mode the spec gives it,
as plain data, with the queue of commands that wait. A field's default is its reset value. -/

namespace Sys2Proof.Machine

/-- Why a command has no meaning. Only `exec`'s arms raise it, for a row without a meaning; it is safe, since
a run ends there. -/
inductive Refusal where
  /-- Raised by an arm of `exec` whose row has no meaning yet; safe. -/
  | notModelled (mnemonic : String)
  deriving DecidableEq, Repr

/-- The faults that end a run. The US-664's own faults (trip, retry, latch, closure, device reset: R582 to R584) are
effects on the state, so no constructor is needed and no row raises one. -/
inductive Fault
  deriving DecidableEq, Repr

/-- The bits of a W1C register that were set last, and the instant: a W1C write of the same CD17 cycle leaves them set (R641). -/
structure Fresh where
  at_ : Ticks := 0
  bits : Word := 0
  deriving DecidableEq, Repr

/-! ### Commands in flight -/

/-- A command that was applied, with its order index (R307); `mute` once an ASSIGN with FORCE took its queue group, so that it
gets no completion (R256). -/
structure Applied where
  cmd : Cmd
  order : Nat
  mute : Bool := false
  deriving DecidableEq, Repr

/-- A completion that waits for its boundary (R310, R311): `due` is the number of the boundary. -/
structure Done where
  what : Applied
  status : Byte
  r0 : Word
  r1 : Word
  r2 : Word
  r3 : Word
  due : Nat
  deriving DecidableEq, Repr

/-- What a command completes with at once: its status and four result words (chapter 09). -/
structure Result where
  status : Byte
  r0 : Word := 0
  r1 : Word := 0
  r2 : Word := 0
  r3 : Word := 0
  deriving DecidableEq, Repr

/-- A completion or event entry of eight words (chapter 09). -/
structure Entry where
  w0 : Word
  w1 : Word
  w2 : Word
  w3 : Word
  w4 : Word
  w5 : Word
  w6 : Word
  w7 : Word
  deriving DecidableEq, Repr

/-- A queue entry and tag held from acceptance until the completion's consumption takes effect (R304).
`tag`, `seq` name it; `queue` is its queue, `pitch` its submitter. -/
structure Held where
  pitch : Pitch
  queue : QueueIx
  seq : BitVec 7
  tag : BitVec 9
  deriving DecidableEq, Repr

/-- A queue's completion ring: entries that wait, oldest first; the 8-bit head; entries whose consumption
was asked in this bell (R315). -/
structure Ring where
  entries : List Entry := []
  head : Byte := 0
  pops : Nat := 0
  deriving DecidableEq, Repr

/-- A pitch's event FIFO of 16 entries, with EVQ_LOST (R312, R313). -/
structure EventFifo where
  entries : List Entry := []
  head : Byte := 0
  lost : Byte := 0
  fresh : Fresh := {}
  pops : Nat := 0
  deriving DecidableEq, Repr

/-- A report on its way to a pitch's FIFO at the next boundary (R312). -/
structure EventOut where
  pitch : Pitch
  entry : Entry
  deriving DecidableEq, Repr

/-- One ledger entry (R318). -/
structure LedgerEntry where
  w0 : Word
  w1 : Word
  w2 : Word
  w3 : Word
  deriving DecidableEq, Repr

/-- A pitch's ledger: the newest 256 entries, newest first, and how many were ever written (R319). -/
structure Ledger where
  newest : List LedgerEntry := []
  written : Nat := 0
  deriving DecidableEq, Repr

/-! ### Device, power, clocks -/

/-- The power states of R164. -/
inductive Power where
  | dark
  | lit
  | sensed
  | settled
  | joined
  | seeded
  | market
  deriving DecidableEq, Repr

/-- Page 0x0: state ladder, reset cause and closure (chapters 06 and 16). -/
structure Device where
  /-- DEV_STATE.STATE (R164, R165); `market` is OPEN. -/
  power : Power := .dark
  /-- The 20 us after a WATCH-check or safety-monitor reset run (R183). -/
  resetWait : Bool := false
  /-- The instant at which the device entered reset (R164, R183). -/
  resetAt : Ticks := 0
  seedSlow : Bool := false
  devEvent : Word := 0
  fresh : Fresh := {}
  /-- RESET_CAUSE (R182). -/
  resetCause : Word := 1
  seedTime : Word := 0
  settledAt : Ticks := 0
  /-- A monitor challenge is out (R179). -/
  challenge : Bool := false
  /-- DEV_STATE.CLOSED: the market is closed. -/
  closed : Bool := false
  /-- CLOSE_STATUS.ARISEN: bit c - 1 for cause c (R585). -/
  arisen : BitVec 4 := 0
  closeFirst : BitVec 3 := 0
  closeEpoch : DWord := 0
  closeCount : Word := 0
  /-- A REOPEN that passed opens the market at the next boundary (R594). -/
  reopenNext : Bool := false
  deriving DecidableEq, Repr

/-- Page 0x1, 0x00 to 0x0B (chapter 03), with VGD_STATUS (chapter 13). -/
structure PowerLine where
  lineOk : Bool := false
  lineOv : Bool := false
  overdraw : Bool := false
  holdOk : Bool := false
  vgdOk : Bool := false
  wsDenied : BitVec 4 := 0
  /-- The over-voltage stop asserts as a latch source (R658). -/
  ovStop : Bool := false
  /-- The VGD buck runs (R48, R50, R656). -/
  buckOn : Bool := false
  vgdUv : Bool := true
  vgdOv : Bool := false
  pwrEvent : Word := 0
  fresh : Fresh := {}
  granted : BitVec 2 := 0
  request : BitVec 2 := 0
  lineV : Word := 0
  vholdV : Word := 0
  vgdV : Word := 0
  lineMeas : Word := 0
  holdCap : Word := 0
  holdTime : Word := 0
  /-- A boundary has computed t_h since LIT (R66). -/
  thComputed : Bool := false
  /-- Averages of the last bells, newest first, at most 8, in mW (R64). -/
  draws : List Nat := []
  overRun : Nat := 0
  underRun : Nat := 0
  insertEn : Bool := false
  /-- An orderly stop for line loss is under way and R69 may cut it short. -/
  orderly : Bool := false
  deriving DecidableEq, Repr

/-- Page 0x1, 0x20 to 0x23 (chapter 04). -/
structure Clock where
  pllLock : Bool := false
  refRing : Bool := false
  xtalOk : Bool := false
  ringRefOk : Bool := false
  rootOk : Bool := false
  runThrough : Bool := false
  /-- The instant at which the domains took WATCH, while `runThrough` (R90). -/
  watchAt : Ticks := 0
  watchOk : Bool := true
  clkEvent : Word := 0
  fresh : Fresh := {}
  syntonyEn : Bool := true
  refOffset : Word := 0
  /-- Received bells in a row with the recovered clock in range (R87). -/
  syntonyRun : Nat := 0
  deriving DecidableEq, Repr

/-- Who sent the bell whose boundary is to come. -/
inductive BellKind where
  | head
  | island
  | own
  deriving DecidableEq, Repr

/-- Page 0x1, 0x24 to 0x29: epochs and the bell (chapter 04). -/
structure Bell where
  epoch : DWord := 0
  bellOk : Bool := false
  island : Bool := false
  ridge : Bool := false
  flywheel : Bool := false
  aligned : Bool := false
  alignFail : Bool := false
  bellEvent : Word := 0
  fresh : Fresh := {}
  bellDelay : Word := 0
  bellMissed : Word := 0
  /-- Flywheel bells in a row (R107). -/
  flyRun : Nat := 0
  /-- The bell received or begun whose boundary is to come. -/
  next : Option (DWord × BellKind) := none
  /-- An epoch jump was received (R112); it acts at the next boundary. -/
  jump : Bool := false
  /-- The last ROLL changed the address and no SET_DELAY came since (R235). -/
  alignHeld : Bool := false
  /-- Boundaries made since device reset. -/
  bellNo : Nat := 0
  /-- A boundary was made since JOINED (R321, and the first epoch is no jump). -/
  seen : Bool := false
  /-- Instant of the last boundary (R533, R608). -/
  boundaryAt : Ticks := 0
  deriving DecidableEq, Repr

/-! ### Ring, pitches, host -/

/-- A taken GRANT: class and insertion epoch (R219). -/
structure Grant where
  cls : BitVec 2
  epoch : DWord
  deriving DecidableEq, Repr

/-- A response that waits for its slot to return on pair B (R209); `old` once the next cycle has opened. -/
structure Reply where
  slot : Fin 36
  frame : Frame
  old : Bool := false
  deriving DecidableEq, Repr

/-- What the node sent in a slot of an outgoing pair. -/
structure Sent where
  slot : Nat
  frame : Frame
  deriving DecidableEq, Repr

/-- Page 0x2 and the ring port (chapter 07). -/
structure RingPort where
  carrierA : Bool := false
  carrierB : Bool := false
  addrValid : Bool := false
  folded : Bool := false
  beyondFold : Bool := false
  /-- RING_STATUS.INSERTED: the flashing is open. -/
  inserted : Bool := false
  /-- The pair A and pair B switches of the flashing stand open (R220). -/
  aOpen : Bool := false
  bOpen : Bool := false
  ringAddr : BitVec 7 := 0
  ringGen : Word := 0
  ringRt : Word := 0
  rxA : Byte := 0
  rxB : Byte := 0
  ringEvent : Word := 0
  fresh : Fresh := {}
  crcA : Word := 0
  crcB : Word := 0
  code : Word := 0
  carrierTally : Word := 0
  authFail : Vector Word 8 := Vector.replicate 8 0
  frontRefused : Vector Word 8 := Vector.replicate 8 0
  /-- Requests counted in this bell for each pitch (R240). -/
  counted : Vector Nat 8 := Vector.replicate 8 0
  /-- FLASH_STATUS.INSERT_PENDING: an INSERT handshake is in progress (R79). -/
  insertPending : Bool := false
  /-- Boundaries, or bells received before JOINED, since an OFFER was answered (R224). -/
  answered : Option Nat := none
  grant : Option Grant := none
  /-- Bells of refusal hold-off left (R223). -/
  holdoff : Option Nat := none
  /-- The OFFER's slot that a fold node listens for (R218). -/
  foldOffer : Option (Fin 36) := none
  /-- The epoch of a taken UNFOLD (R228). -/
  unfoldAt : Option DWord := none
  /-- The present cycle was opened by an ISLAND bell (R239). -/
  islandCycle : Bool := false
  /-- The answers whose slots are still to return (R209). -/
  replies : List Reply := []
  /-- What the node sent last on each outgoing pair: the slot, none where it left the slot idle, and the BELL frame (R199, R207, R209,
  R216, R217, R226, R238). -/
  aOut : Option Sent := none
  bOut : Option Sent := none
  bellA : Option BellFrame := none
  bellB : Option BellFrame := none
  deriving DecidableEq, Repr

/-- A ring session in force: its key and the boundary from which it is in force (R271, R273). -/
structure Session where
  key : BitVec 256
  since : Nat
  deriving DecidableEq, Repr

/-- The entropy source behind its health tests (R264, R265). -/
structure Entropy where
  /-- Start-up bits tested since reset or the last failure. -/
  startup : Nat := 0
  /-- The repetition-count test: the bit of the run in progress, and its length; 0 before the first bit. -/
  rctBit : Bool := false
  rctRun : Nat := 0
  /-- The adaptive-proportion test: the window's first bit, the bits seen in it, and those equal to the first. -/
  aptBit : Bool := false
  aptSeen : Nat := 0
  aptSame : Nat := 0
  /-- The pool gathered so far, newest first. -/
  pool : List Bool := []
  deriving DecidableEq, Repr

/-- An instance of the CTR_DRBG: its key and its counter block (R266). -/
structure Drbg where
  key : BitVec 256
  v : BitVec 128
  deriving DecidableEq, Repr

/-- What an ASSIGN names once its class and index stand (chapter 08, *Object classes*). -/
inductive AssignTo where
  | lane (n : LaneIx)
  | wheel (n : TrkIx)
  | pin (m : TrkIx)
  | ain (m : AinIx)
  | group (g : Fin 16)
  | tally (i : TallyIx)
  | tagFront (p : Pitch)
  | ringFront (p : Pitch)
  | lineFront (p : Pitch)
  | heatFront (p : Pitch)
  deriving DecidableEq, Repr

/-- An applied ASSIGN that takes force at the next boundary (R250): what it names, its value, and its FORCE bit. -/
structure Move where
  what : AssignTo
  value : Nat
  force : Bool
  deriving DecidableEq, Repr

/-- Owners: `none` is parked (R243). -/
structure Owners where
  lane : Vector (Option Pitch) 6 := Vector.replicate 6 none
  wheel : Vector (Option Pitch) 4 := Vector.replicate 4 none
  win : Vector (Option Pitch) 4 := Vector.replicate 4 none
  ain : Vector (Option Pitch) 8 := Vector.replicate 8 none
  group : Vector (Option Pitch) 16 := (Vector.replicate 16 none).set 0 (some 0)
  tally : Vector (Option Pitch) 64 := Vector.replicate 64 none
  deriving DecidableEq, Repr

/-- The frontages of each pitch (R258 to R261). -/
structure Frontages where
  tag : Vector Nat 8 := Vector.replicate 8 32
  ring : Vector Nat 8 := Vector.replicate 8 2
  line : Vector Nat 8 := Vector.replicate 8 0
  heat : Vector Nat 8 := Vector.replicate 8 0
  deriving DecidableEq, Repr

/-- Page 0x3: pitches, sessions and the DRBG (chapter 08). -/
structure Pitches where
  hostPitch : Pitch := 0
  /-- A HOST_PITCH write that takes force at the next boundary (R262). -/
  hostPitchNext : Option Pitch := none
  own : Owners := {}
  front : Frontages := {}
  session : Vector (Option Session) 8 := Vector.replicate 8 none
  /-- Session keys answered with ST_OK in this bell (R271, R272). -/
  sessionNext : Vector (Option (BitVec 256)) 8 := Vector.replicate 8 none
  /-- ASSIGNs of the present epoch, in application order (R250, R251). -/
  moves : List Move := []
  entropy : Entropy := {}
  /-- The DRBG instance, none while unseeded (R266), and the seedings made since device reset. -/
  drbg : Option Drbg := none
  seedings : Nat := 0
  /-- SEEDED was entered since device reset: a failure acts as R175 states (R267, R652). -/
  seededOnce : Bool := false
  drbgHealthy : Bool := false
  drbgReseeding : Bool := false
  drbgEvent : Word := 0
  fresh : Fresh := {}
  /-- The boundary count at the last seeding (R266). -/
  seededAt : Nat := 0
  deriving DecidableEq, Repr

/-- A lease that runs on for an earlier host pitch (R187). -/
structure OldLease where
  pitch : Pitch
  left : Nat
  deriving DecidableEq, Repr

/-- A valid access of the host port: a whole frame, or one that the row spells by its address on the selected page or by its page and
address; a frame cut short (R289); or P0's write of a register through either door, which sends no response. -/
inductive HostAccess where
  | frame (bits : DWord)
  | write (addr : BitVec 7) (data : Word)
  | read (addr : BitVec 7)
  | register (page : BitVec 4) (addr : BitVec 7) (data : Word)
  | ofP0 (page : BitVec 4) (addr : BitVec 7) (data : Word)
  | abort
  deriving DecidableEq, Repr

/-- Page 0x0, 0x04 to 0x07, the SPI port and the staging registers of page 0x4 (chapter 09). -/
structure HostPort where
  /-- RST_N is low: the port is detached (R32). -/
  rstLow : Bool := false
  /-- RST_N stayed low for 1 us; the policy acts at the next boundary (R185). -/
  hostLoss : Bool := false
  pageSel : BitVec 4 := 0
  /-- The frame that the next SDO frame carries (R291, R293). -/
  response : DWord := 0x00000069
  /-- The last frame sent on SDO. -/
  sdo : Option DWord := none
  noObject : Bool := false
  crcErr : Bool := false
  frameErr : Bool := false
  irqEn : BitVec 4 := 0
  /-- A completion, event or lease source was pending at the last boundary (R317). -/
  irqBell : Bool := false
  leaseLen : Byte := 0
  leaseLeft : Nat := 0
  /-- The lease has been set since JOINED (R321). -/
  leaseOn : Bool := false
  /-- The lease ran out and R186 has acted (HOST_STATUS.LEASE_OUT). -/
  leaseOut : Bool := false
  oldLeases : List OldLease := []
  epochHi : Option Word := none
  closeEpochHi : Option Word := none
  rdataHi : Option Word := none
  periodHi : Vector (Option Word) 4 := Vector.replicate 4 none
  desc : Vector Word 8 := Vector.replicate 8 0
  subResult : Byte := 0
  subEpoch : Word := 0
  /-- Accesses of a bell boundary's own CD17 cycle, which act after its commands (R640). -/
  waiting : List HostAccess := []
  deriving DecidableEq, Repr

/-- The selectors each pitch has of its own (R331), and its tally-HI latch. -/
structure Selectors where
  qsel : BitVec 6 := 0
  ledgerSel : Byte := 0
  winView : BitVec 6 := 0
  tallySel : BitVec 6 := 0
  tallyHi : Word := 0
  deriving DecidableEq, Repr

/-- Queues, tags, completions, events and ledgers (chapter 09). -/
structure Queues where
  /-- Accepted commands not yet applied, in the order of acceptance. -/
  accepted : List Cmd := []
  held : List Held := []
  cq : Vector Ring 64 := Vector.replicate 64 {}
  evq : Vector EventFifo 8 := Vector.replicate 8 {}
  outcomes : List Done := []
  events : List EventOut := []
  ledger : Vector Ledger 8 := Vector.replicate 8 {}
  /-- The next order index of each pitch at the present epoch (R307). -/
  orderNext : Vector Nat 8 := Vector.replicate 8 0
  sel : Vector Selectors 8 := Vector.replicate 8 {}
  /-- A bench hold is in force (R326). -/
  hold : Bool := false
  /-- BENCH_HOLD (true) or BENCH_RELEASE (false) takes force at the next boundary. -/
  holdNext : Option Bool := none
  deriving DecidableEq, Repr

/-! ### Fuses -/

/-- The content of a fuse word and whether its hidden check passes (R116). -/
structure FuseCell where
  value : DWord
  ok : Bool
  deriving DecidableEq, Repr

/-- Fuse cells by cell address, strictly rising, none of them blank: a cell not listed reads 0 and passes (R115).
Cells 0 to 2047 are the main rows, 2048 + 16 k + w word w of spare S_k, 2176 + w word w of the map row. -/
abbrev FuseMem := List (Nat × FuseCell)

/-- The life-cycle states (R123). -/
inductive LifeCycle where
  | blank
  | vendor
  | integration
  | field
  | retired
  deriving DecidableEq, Repr

/-- What an accepted fuse operation programs. -/
inductive FuseKind where
  | word (addr : BitVec 12) (value : DWord)
  | lifeCycle (next : LifeCycle)
  | keyRoll (salt : BitVec 64)
  deriving DecidableEq, Repr

/-- An accepted fuse operation that waits for its window (R141). -/
structure FuseOp where
  what : Applied
  kind : FuseKind
  deriving DecidableEq, Repr

/-- What a programming step is for: it decides what a failure leads to (R149, R151, R161). -/
inductive StepRole where
  /-- the named word in force (main row, or a spare already in force) -/
  | word
  /-- step 1 of R149 -/
  | copy
  /-- step 2 of R149 -/
  | spare
  /-- step 3 of R149 -/
  | entry
  | marker
  | lock
  /-- a copy of a DEGRADED flag (R151) -/
  | degraded
  deriving DecidableEq, Repr

/-- One word to program: the cell, the value it must read, and the role. -/
structure FuseStep where
  cell : Nat
  value : DWord
  role : StepRole
  deriving DecidableEq, Repr

/-- The stages of a fuse operation in its window. -/
inductive FusePhase where
  | supply
  | pulsing
  | ended
  deriving DecidableEq, Repr

/-- The operation in its window (R143 to R149). -/
structure FuseRun where
  op : FuseOp
  /-- The boundary count at which the window started. -/
  bell : Nat
  phase : FusePhase
  steps : List FuseStep
  /-- Pulses given to the step in progress. -/
  pulses : Nat := 0
  /-- Pulses used of R661. -/
  used : Nat := 0
  redirected : Bool := false
  /-- Map-row copies that failed in the step group in progress. -/
  mapFails : Nat := 0
  status : Byte := 0
  /-- S_n once drawn (R276). -/
  salt : Option (BitVec 64) := none
  deriving DecidableEq, Repr

/-- Page 0xE and the array (chapter 05). -/
structure Fuses where
  /-- What the cells hold. -/
  array : FuseMem := [(0x082, { value := 0x5B096846, ok := true })]
  /-- What FUSE_READ, locks and redirection read (R147, R135). -/
  image : FuseMem := [(0x082, { value := 0x5B096846, ok := true })]
  /-- Words 0x000 to 0x00F as driven onto the dedicated wires (R124, R125). -/
  trims : Vector DWord 16 := Vector.replicate 16 0
  cfg100 : DWord := 0
  cfg101 : DWord := 0
  cfg102 : DWord := 0
  lifecycle : LifeCycle := .blank
  senseDone : Bool := false
  critFail : Bool := false
  keysDone : Bool := false
  /-- The slots, as 8 p + k, whose validity word failed its last margin read (R153). -/
  weak : List Nat := []
  /-- The active key slot of each pitch (R153). -/
  keyActive : Vector (Option (Fin 8)) 8 := Vector.replicate 8 none
  fuseAddr : BitVec 12 := 0
  dataLo : Word := 0
  dataHi : Word := 0
  result : Byte := 0
  done : Bool := false
  fresh : Fresh := {}
  /-- FUSE_STATUS.BUSY as each pitch's own operations make it (R282). -/
  busy : Vector Bool 8 := Vector.replicate 8 false
  rdata : DWord := 0
  /-- Accepted operations that wait, in application order. -/
  ops : List FuseOp := []
  run : Option FuseRun := none
  deriving DecidableEq, Repr

/-! ### Lanes -/

/-- A batten: what the registers show, the set armed by a commit, the set in force (R347 to R352). -/
structure Batten (α : Type) where
  shadow : α
  armed : Option α := none
  live : α
  deriving DecidableEq, Repr

/-- CARRIER, batten 0x1 (R347). -/
structure CarrierSet where
  ctrl : Word := 0x0000
  period : Word := 0x0FA0
  periodMin : Word := 0x0FA0
  periodMax : Word := 0x3E80
  cmp : Word := 0x0000
  tOn : Word := 0x0320
  tOff : Word := 0x0320
  deadMp : Word := 0x2010
  sampleAt : Word := 0x0000
  deriving DecidableEq, Repr

/-- MASK, batten 0x2: the six rows, at the default mask. -/
structure MaskSet where
  rows : Vector Word 6 := ⟨#[0x0007, 0x0013, 0x001C, 0x000D, 0x0031, 0x0034], rfl⟩
  deriving DecidableEq, Repr

/-- SENSE, batten 0x4 (R404). -/
structure SenseSet where
  ctrl : Word := 0x0002
  ilim : Word := 0x0100
  winHi : Word := 0x0300
  winLo : Word := 0x07C0
  slope : Word := 0x0000
  leb : Word := 0x0020
  iAt : Word := 0x0040
  valleyVds : Word := 0x000A
  route : Word := 0x0089
  deriving DecidableEq, Repr

/-- COMMUT, batten 0x5 (R450). -/
structure CommutSet where
  ctrl : Word := 0x02CC
  blankMin : Word := 0x0014
  advance : Word := 0x0000
  kp : Word := 0x0100
  ki : Word := 0x0040
  accel : Word := 0x0020
  runMin : Word := 0x0320
  revLimit : Word := 0x0050
  stopBrakeTime : Word := 0x6432
  restartDelay : Word := 0x0064
  decel : Word := 0x0020
  deriving DecidableEq, Repr

/-- GATE, batten 0x6 + n on page 0xB (R490). -/
structure GateSet where
  ctrl : Word := 0x0332
  vdsCfg : Word := 0x0734
  retryCfg : Word := 0x030A
  openLevel : Word := 0x0000
  deriving DecidableEq, Repr

/-- HEAT, batten 0x1 + n on page 0xD (R579). -/
structure HeatSet where
  ntcCfg : Word := 0xAC0A
  ntcLim : Word := 0x7864
  gain : Word := 0x0000
  sw : Word := 0x0000
  deriving DecidableEq, Repr

/-- A start-up profile: 16 entries and the header (R429). -/
structure Profile where
  interval : Vector Word 16 := Vector.replicate 16 0
  step : Vector Word 16 := Vector.replicate 16 0
  hdr : Word := 0
  alignI : Word := 0
  alignTime : Word := 0
  hoLimit : Word := 0
  deriving DecidableEq, Repr

/-- A side of a half-bridge. -/
inductive Side where
  | high
  | low
  deriving DecidableEq, Repr

/-- One half-bridge behind the dead-time inserter and the minimum-pulse filter (R340 to R342). -/
structure HalfBridge where
  /-- The gate levels. -/
  high : Bool := false
  low : Bool := false
  /-- When the gate of each side last went on. -/
  highOn : Option Ticks := none
  lowOn : Option Ticks := none
  /-- When each side was last wanted, its stretch included: the other side's dead time runs from there. -/
  highOff : Ticks := 0
  lowOff : Ticks := 0
  /-- When a gate level of the half-bridge last went off. -/
  offAt : Ticks := 0
  /-- The side that waits for its dead time. -/
  wait : Option Side := none
  /-- The side wanted last. -/
  cmd : Option Side := none
  /-- Under DROP: the pulse of the wanted side began then, its end is not known, and it has not lasted MINPULSE ticks yet (R341). -/
  young : Option Ticks := none
  /-- Under STRETCH: a side that stays on, though no longer wanted, until its pulse lasts MINPULSE ticks (R341). -/
  late : Option Side := none
  /-- PIN mode: the levels of PULSE_n and EN_n taken (R460), and the trip hold of R462. -/
  pulse : Bool := false
  en : Bool := false
  tripHold : Bool := false
  deriving DecidableEq, Repr

/-- The events of a lane's synchronous task input but for the fault latch (R371): the trip of a source of ROUTE, the four ways a
commutation event arises, and the carrier boundary. -/
inductive TaskEvent where
  | trip (source : Fin 5)
  | commutation
  | missed
  | alignEnd
  | profileStep
  | boundary
  deriving DecidableEq, Repr

/-- An event that waits at the task input, and the tick it came in (R371 to R374). -/
structure TaskWait where
  event : TaskEvent
  tick : Ticks
  deriving DecidableEq, Repr

/-- Carrier and output state of a lane (page 0x5 + n, 0x00 to 0x1E). -/
structure LaneCarrier where
  set : Batten CarrierSet := { shadow := {}, live := {} }
  mask : Batten MaskSet := { shadow := {}, live := {} }
  policyShadow : Word := 0
  policy : Word := 0
  battenResult : Byte := 0
  battenDone : Bool := false
  fresh : Fresh := {}
  battenBusy : Bool := false
  row : Fin 6 := 0
  onPhase : Bool := false
  runThrough : Bool := false
  periodLast : Word := 0
  mergeCount : Word := 0
  mpCount : Word := 0
  /-- Instant of the last carrier boundary. -/
  periodStart : Ticks := 0
  /-- Instant since which the on-phase lasts without a break (chapter 13, *Open windings while running*). -/
  onSince : Ticks := 0
  /-- Instant at which the present on-phase ended. -/
  phaseEnd : Ticks := 0
  /-- A valley was detected in this off-phase (R337). -/
  valley : Bool := false
  /-- A trip ended the on-phase until the next boundary (R338). -/
  tripped : Bool := false
  /-- This period's on-phase is lengthened to MEAS_MIN (R486). -/
  probe : Bool := false
  /-- The first tick at which the task input is free (R371, R374), the events deferred, oldest first, and the tick of the
  last fault latch. -/
  taskFree : Ticks := 0
  waiting : List TaskWait := []
  latchTick : Option Ticks := none
  /-- The events that were due in the tick of the last fault latch and have not come yet: they are discarded, and count (R372). -/
  latchDue : List TaskEvent := []
  /-- The tick at which the lane's counters took WATCH, while `runThrough` (R95). -/
  watchAt : Ticks := 0
  bridges : Vector HalfBridge 3 := Vector.replicate 3 {}
  deriving DecidableEq, Repr

/-- Latch and safe levels of a lane (R361 to R370). -/
structure LaneLatch where
  latched : Bool := false
  src : Byte := 0
  /-- Safe levels forced by a bench hold, by R69 and by a root failure. -/
  safeHold : Bool := false
  safeLine : Bool := false
  safeClock : Bool := false
  /-- Since when safe levels are forced (R361). -/
  forcedAt : Ticks := 0
  deriving DecidableEq, Repr

/-- Sense state of a lane (page 0x5 + n, 0x20 to 0x3C). -/
structure LaneSense where
  set : Batten SenseSet := { shadow := {}, live := {} }
  peak : Bool := false
  oc : Bool := false
  uc : Bool := false
  ilimTh : BitVec 10 := 0x3FF
  ilimFr : BitVec 10 := 0x3FF
  ilimEff : BitVec 10 := 0x100
  derateConflict : Word := 0
  iRaw : BitVec 12 := 0
  iNet : Int := 0
  offset : Int := 0
  tripCount : Word := 0
  ocCount : Word := 0
  ucCount : Word := 0
  calReason : BitVec 3 := 0
  calMean : BitVec 12 := 0
  /-- A captured sample waits for the lane's own slot (R394), and whether it is measurable (R485). -/
  captured : Bool := false
  measurable : Bool := false
  deriving DecidableEq, Repr

/-- The states of a commutation unit (chapter 12, *Lane states*). -/
inductive LaneState where
  | stopped
  | align
  | ramp
  | handover
  | run
  | stopping
  | restartWait
  deriving DecidableEq, Repr

/-- The stop modes (R442). -/
inductive StopMode where
  | coast
  | brake
  | ramp
  deriving DecidableEq, Repr

/-- A stop under way (R442, R445, R565): mode, start, declared length, whether it is an immediate heat stop, and whether an
orderly one that R564 watches. -/
structure Stopping where
  mode : StopMode
  since : Ticks
  declaredMs : Nat
  heat : Bool := false
  orderlyHeat : Bool := false
  deriving DecidableEq, Repr

/-- Commutation state of a lane (page 0x5 + n, 0x40 to 0x78). -/
structure LaneCommut where
  set : Batten CommutSet := { shadow := {}, live := {} }
  staged : Profile := {}
  profile : Profile := {}
  seated : Bool := false
  state : LaneState := .stopped
  dir : Bool := false
  rotDir : Bool := false
  missed : BitVec 3 := 0
  restarts : BitVec 3 := 0
  speedMeas : Word := 0
  /-- The speed reference in 1/(16 x 160 000) Hz (R434); SPEED_REF shows it in 12.4 Hz. -/
  speedRef : Nat := 0
  target : Word := 0
  /-- A LANE_SET_SPEED target that waits for the next carrier boundary (R436). -/
  targetNext : Option Word := none
  iDem : BitVec 10 := 0x3FF
  /-- The loop integrator in DAC steps / (4096 x 16 x 160 000). -/
  integ : Int := 0
  /-- T60 in ticks; the register shows whole us. -/
  t60 : Ticks := 0
  blankNow : Byte := 0
  zcCount : Word := 0
  stallCount : Word := 0
  /-- The last six crossing intervals, newest first, in ticks (R418). -/
  intervals : List Ticks := []
  lastCross : Option Ticks := none
  /-- The last crossing or counted miss (R437). -/
  lastSeen : Ticks := 0
  /-- The previous row's crossing was detected, and this row's has been. -/
  crossed : Bool := false
  rowStart : Ticks := 0
  /-- The end of blanking in this row, once it has ended (R414). -/
  blankEnd : Option Ticks := none
  /-- Samples past the crossing in a row, and the first of them (R413). -/
  zcSamples : Nat := 0
  zcFirst : Ticks := 0
  /-- Consistent crossings in a row (R423), and whether this row's crossing was consistent. -/
  consistent : Nat := 0
  rowConsistent : Bool := false
  /-- Profile entry, events of it raised, and HANDOVER commutations (R422, R425). -/
  entry : Nat := 0
  raised : Nat := 0
  hoCount : Nat := 0
  /-- The interval of the last open-loop event, in ticks (R422, R423). -/
  stepTicks : Ticks := 0
  /-- Since when a RESTART_WAIT or a PIN-mode retry wait lasts (R439, R471). -/
  waitFrom : Ticks := 0
  /-- The last loop update (R434). -/
  loopAt : Ticks := 0
  /-- Coast tracking (R416): ordered transitions in a row and their direction, the last transition (its phase and
  whether it rose) and its instant. -/
  coastRun : Nat := 0
  coastDir : Bool := false
  coastLast : Option (PhaseIx × Bool) := none
  coastAt : Ticks := 0
  stopping : Option Stopping := none
  deriving DecidableEq, Repr

/-- What a lane measures or tests (R397, R430, R475, R481). -/
inductive Measure where
  | calibrate
  | reseat
  | diag (step : Fin 4)
  | selftest
  deriving DecidableEq, Repr

/-- A measurement or test in progress and the command that started it. -/
structure Measuring where
  what : Applied
  kind : Measure
  /-- The rail's voltage at the start, 100 mV per LSB (R478). -/
  vb : BitVec 10 := 0
  /-- A BEMF transition came since the start (check 6 of R397, check 8 of R475). -/
  disturbed : Bool := false
  /-- The measurement ended; `some true` where it passed and its effect waits for its boundary (R399, R431, R479,
  R482). -/
  ended : Option Bool := none
  /-- The new offset; the pass bits of a self-test, or the verdict and mask of a diagnosis; the VDS pass bits; the
  staged profile as LANE_RESEAT checked it. -/
  offset : Int := 0
  cmp : BitVec 7 := 0
  vds : BitVec 6 := 0
  profile : Profile := {}
  deriving DecidableEq, Repr

/-- A LANE_STOP that waits for STOPPED (R446), with the mode applied. -/
structure StopWait where
  what : Applied
  mode : StopMode
  deriving DecidableEq, Repr

/-- The operations in progress on a lane, and the reports that wait for STOPPED. -/
structure LaneOps where
  start : Option Applied := none
  stops : List StopWait := []
  measure : Option Measuring := none
  /-- The boundary count at which one of the five commands of check 3 of R397 last applied, and one of those but LANE_START
  (check 6 of R419). -/
  busyAt : Option Nat := none
  testAt : Option Nat := none
  /-- Stopped by line loss; its LINE_LOSS event waits for STOPPED (R70). -/
  lineLoss : Bool := false
  /-- The gate charge in force since the last LANE_START (QG_n). -/
  qgLive : BitVec 10 := 0x064
  qg : BitVec 10 := 0x064
  /-- The last BEMF transition (check 6 of R397). -/
  lastBemf : Option Ticks := none
  /-- Since when the lane is stopped (R549). -/
  stoppedAt : Ticks := 0
  deriving DecidableEq, Repr

/-- What a gate fault interrupted (R472). -/
inductive Resume where
  | pin
  | align
  | run
  | stopped
  deriving DecidableEq, Repr

/-- The four steps' readings of an off-state diagnosis, 100 mV per LSB (R476). -/
structure DiagReading where
  u : BitVec 10 := 0
  v : BitVec 10 := 0
  w : BitVec 10 := 0
  deriving DecidableEq, Repr

/-- Gate block of a lane (page 0xB). -/
structure LaneGate where
  set : Batten GateSet := { shadow := {}, live := {} }
  /-- Boundary counts of the retries, newest first (R470). -/
  retries : List Nat := []
  waiting : Bool := false
  resume : Resume := .align
  kind : BitVec 4 := 0
  hb : BitVec 2 := 0
  faultCount : Word := 0
  probeCount : Word := 0
  /-- Short on-phases since the last probe (R486), periods without a measurable capture (R488). -/
  shortPeriods : Nat := 0
  blindPeriods : Nat := 0
  /-- The present period had a measurable capture or a PEAK trip, and R488 counts it, watched since its start. -/
  periodSeen : Bool := false
  periodWatched : Bool := false
  openPhase : BitVec 3 := 0
  openUnverified : Bool := false
  /-- Measured rows without current for each phase (R485); this row was measured, and showed current. -/
  dryRows : Vector Nat 3 := Vector.replicate 3 0
  rowMeasured : Bool := false
  rowCurrent : Bool := false
  /-- The mask row whose last capture is not converted yet, after the row itself has ended (R485). -/
  lateRow : Option Word := none
  diagSel : BitVec 2 := 0
  diagResult : BitVec 7 := 0
  diagVb : BitVec 10 := 0
  /-- Readings shown, and those of the test in progress. -/
  diag : Vector DiagReading 4 := Vector.replicate 4 {}
  diagNew : Vector DiagReading 4 := Vector.replicate 4 {}
  selfCmp : BitVec 7 := 0
  selfVds : BitVec 6 := 0
  deriving DecidableEq, Repr

/-- Heat block of a lane (page 0xD). -/
structure LaneHeat where
  shadow : HeatSet := {}
  live : HeatSet := {}
  est : Nat := 0
  /-- Sum and count of I_NET squared in this bell, and whether the lane ran in it (R571). -/
  sumSq : Nat := 0
  count : Nat := 0
  ran : Bool := false
  deriving DecidableEq, Repr

/-- One motor lane. -/
structure Lane where
  car : LaneCarrier := {}
  latch : LaneLatch := {}
  sense : LaneSense := {}
  com : LaneCommut := {}
  ops : LaneOps := {}
  gate : LaneGate := {}
  heat : LaneHeat := {}
  deriving DecidableEq, Repr

/-! ### Analogue inputs, trackers, heat, observation -/

/-- A burst in progress (R536): its tracker and window, what is left, and the figures of R538. -/
structure Burst where
  tracker : TrkIx
  window : WinIx
  pitch : Pitch
  size : Nat
  left : Nat
  sum : Nat
  least : Nat
  most : Nat
  angle : Word
  deriving DecidableEq, Repr

/-- Page 0xD, 0x60 to 0x6A, and the fault pins (chapter 11). -/
structure Analogue where
  ain : Vector (BitVec 12) 8 := Vector.replicate 8 0
  vba : Word := 0
  vbb : Word := 0
  /-- BULK_STATUS: LOW_A, HIGH_A, LOW_B, HIGH_B. -/
  bulk : BitVec 4 := 0
  bulkChangedA : Bool := false
  bulkChangedB : Bool := false
  adcBad : Vector Bool 2 := Vector.replicate 2 false
  /-- A check reading of the present frame pair was off; pairs failed and passed in a row (R396). -/
  pairFail : Vector Bool 2 := Vector.replicate 2 false
  failRun : Vector Nat 2 := Vector.replicate 2 0
  passRun : Vector Nat 2 := Vector.replicate 2 0
  flt0 : Bool := false
  flt1 : Bool := false
  burst : Vector (Option Burst) 8 := Vector.replicate 8 none
  burstMissed : Vector Word 8 := Vector.replicate 8 0
  deriving DecidableEq, Repr

/-- TRACK, batten 0x1 + n on page 0xC (R539). -/
structure TrackSet where
  cls : Word := 0x5A2D
  cfg : Word := 0x08B4
  tol : Word := 0x0008
  slow : Word := 0x00C8
  still : Word := 0x00C8
  deriving DecidableEq, Repr

/-- A seated tooth table (R508). -/
structure ToothTable where
  free : Bool := false
  teeth : List Word := []
  deriving DecidableEq, Repr

/-- TRK_STATUS.SYNC. -/
inductive Sync where
  | unsync
  | confirm
  | sync
  deriving DecidableEq, Repr

/-- An angle window (R525). -/
structure Window where
  start : Word := 0
  stop : Word := 0
  cfg : Word := 0
  armed : Bool := false
  isOpen : Bool := false
  deriving DecidableEq, Repr

/-- What a tracker does in one of its ticks: it commits a tooth, from a pulse or at the close of a window, or updates the angle (R534). -/
inductive WheelEvent where
  | tooth
  | close
  | micro
  deriving DecidableEq, Repr

/-- An event of a tracker that waits for what goes before it in its tick, and its instant (R534). -/
structure WheelWait where
  event : WheelEvent
  at_ : Ticks
  deriving DecidableEq, Repr

/-- One wheel tracker (page 0xC). Instants and periods are in its ticks of 12.5 ns. -/
structure Tracker where
  shadow : TrackSet := {}
  live : TrackSet := {}
  staging : Vector Word 128 := Vector.replicate 128 0
  table : ToothTable := {}
  seated : Bool := false
  sync : Sync := .unsync
  dir : Bool := false
  dirUnknown : Bool := false
  standstill : Bool := false
  wsOpen : Bool := false
  wsShort : Bool := false
  sensorWarn : Bool := false
  angle : Word := 0
  tooth : Nat := 0
  period : BitVec 28 := 0
  toothRate : Word := 0
  synthCount : Word := 0
  syncLossCount : Word := 0
  badPulse : Word := 0
  revCount : Word := 0
  /-- WS_SUP_n is on; its hold-off runs (R497); a retry after a short is due (R499). -/
  supply : Bool := false
  holdoff : Bool := false
  retryDue : Bool := false
  level : WsLevel := .low
  /-- Start of the HIGH pulse in progress, and the end of the last one. -/
  pulseStart : Option Nat := none
  pulseEnd : Option Nat := none
  /-- Instant of the last committed tooth, and whether it was synthetic (R504, R513). -/
  lastTooth : Option Nat := none
  synth : Bool := false
  /-- The period before the last, for the gap test of R509; none after a synthetic tooth. -/
  prevPeriod : Option Nat := none
  /-- The period and spacing that predictions scale (R513). -/
  pBase : Nat := 0
  dBase : Nat := 0
  confirmed : Nat := 0
  bad : Nat := 0
  /-- The tooth expected next was judged bad before its window closed (R514). -/
  judged : Bool := false
  /-- The next tooth is taken without a window check (R522, R524). -/
  skip : Bool := false
  /-- The angle is held at the tooth of a reversal (R522). -/
  hold : Bool := false
  /-- Micro-tick reached, the 2^K and the prediction in use since the last commit (R517, R539). -/
  micro : Nat := 0
  kNow : Nat := 8
  /-- The previous angle update was made in SYNC (R528). -/
  prevSync : Bool := false
  /-- The events of a tick that wait for the commands of a bell boundary, or for the tooth, of that tick (R534). -/
  waiting : List WheelWait := []
  windows : Vector Window 16 := Vector.replicate 16 {}
  deriving DecidableEq, Repr

/-- One temperature sensor (chapter 15). Temperatures are in 1/16 K, rates in 1000/8192 K/s, which is exact for both
windows of R554. -/
structure Sensor where
  temp : Int := 0
  rate : Int := 0
  hasSample : Bool := false
  warn : Bool := false
  stop : Bool := false
  rateFlag : Bool := false
  substituted : Bool := false
  unavailable : Bool := false
  stale : Bool := false
  notEvaluated : Bool := false
  rung : BitVec 2 := 0
  /-- Conversions since the last sample. -/
  sum : Int := 0
  count : Nat := 0
  /-- The sensor's own last sample, for SENSOR_SUBSTITUTED. -/
  own : Int := 0
  breakRun : Nat := 0
  openRun : Nat := 0
  shortRun : Nat := 0
  rateHigh : Nat := 0
  rateLow : Nat := 0
  /-- Samples at the past 8 ms updates, newest first, at most 64 (R554). -/
  hist : List Int := []
  /-- The last converter code of an NTC since its last sample was above 4000, or below 40 (R545). -/
  sawOpen : Bool := false
  sawShort : Bool := false
  deriving DecidableEq, Repr

/-- Page 0xD, thermal part (chapter 15). -/
structure Thermal where
  sensor : Vector Sensor 14 :=
    ⟨#[{}, {}, {}, {}, {}, {}, {}, {}, { notEvaluated := true }, { notEvaluated := true }, { notEvaluated := true },
       { notEvaluated := true }, { notEvaluated := true }, { notEvaluated := true }], rfl⟩
  dieWarn : Byte := 0x82
  dieStop : Byte := 0x96
  dieRateLim : Byte := 0x28
  ntcRateLim : Byte := 0x05
  /-- Accepted writes that take force at the next boundary (R559). -/
  dieWarnNext : Option Byte := none
  dieStopNext : Option Byte := none
  dieRateNext : Option Byte := none
  ntcRateNext : Option Byte := none
  heatSum : Vector Nat 8 := Vector.replicate 8 0
  deriving DecidableEq, Repr

/-- One tally (R613, R615). -/
structure Tally where
  value : DWord := 0
  src : Word := 0
  deriving DecidableEq, Repr

/-- A queued trace packet: header and payload (R608), and the tick of its happening (R610). -/
structure Packet where
  words : List Word
  at_ : Ticks
  deriving DecidableEq, Repr

/-- Page 0xF (chapter 17). -/
structure Observe where
  tally : Vector Tally 64 := Vector.replicate 64 {}
  /-- Tallies that a TALLY_SNAPSHOT of the present epoch has cleared (R617), and those that a write of TALLY_SRC in it has set to 0
  (R613). -/
  cleared : List TallyIx := []
  restarted : List TallyIx := []
  grant : Vector Byte 8 := Vector.replicate 8 0
  countersign : Vector Byte 8 := Vector.replicate 8 0
  /-- Consent changes that take force at the next boundary (R603). -/
  grantNext : Vector Byte 8 := Vector.replicate 8 0
  countersignNext : Vector Byte 8 := Vector.replicate 8 0
  devQueue : List Packet := []
  queue : Vector (List Packet) 8 := Vector.replicate 8 []
  lostSince : Vector Word 8 := Vector.replicate 8 0
  lost : Vector Word 8 := Vector.replicate 8 0
  /-- The pitch whose queue is served next (R611). -/
  turn : Pitch := 0
  sent : Option Packet := none
  deriving DecidableEq, Repr

/-- The device as it stood at a bell boundary, before the commands of its epoch (R320). -/
structure Snapshot where
  dev : Device
  pwr : PowerLine
  clk : Clock
  bell : Bell
  ring : RingPort
  pit : Pitches
  host : HostPort
  q : Queues
  fuse : Fuses
  lane : Vector Lane 6
  ana : Analogue
  trk : Vector Tracker 4
  heat : Thermal
  obs : Observe
  deriving DecidableEq, Repr

/-- The whole device and the queue of commands. -/
structure State where
  /-- Commands that wait, first in, first out. -/
  pending : List Instr := []
  /-- The latest instant a command has brought. -/
  now : Ticks := 0
  dev : Device := {}
  pwr : PowerLine := {}
  clk : Clock := {}
  bell : Bell := {}
  ring : RingPort := {}
  pit : Pitches := {}
  host : HostPort := {}
  q : Queues := {}
  fuse : Fuses := {}
  lane : Vector Lane 6 := Vector.replicate 6 {}
  ana : Analogue := {}
  trk : Vector Tracker 4 := Vector.replicate 4 {}
  heat : Thermal := {}
  obs : Observe := {}
  /-- The boundary that started the present epoch (R320, R617, R644). -/
  start : Option Snapshot := none
  deriving DecidableEq, Repr

/-- The device as it stands. -/
def State.snapshot (s : State) : Snapshot :=
  { dev := s.dev, pwr := s.pwr, clk := s.clk, bell := s.bell, ring := s.ring, pit := s.pit, host := s.host, q := s.q,
    fuse := s.fuse, lane := s.lane, ana := s.ana, trk := s.trk, heat := s.heat, obs := s.obs }

/-- A snapshot read as a state, the queue of commands empty. -/
def Snapshot.state (x : Snapshot) : State :=
  { dev := x.dev, pwr := x.pwr, clk := x.clk, bell := x.bell, ring := x.ring, pit := x.pit, host := x.host, q := x.q,
    fuse := x.fuse, lane := x.lane, ana := x.ana, trk := x.trk, heat := x.heat, obs := x.obs }

/-- The device at the boundary that started the present epoch; as it stands, before the first boundary (R320, R617, R644). -/
def State.atBoundary (s : State) : State := s.start.elim s Snapshot.state

/-- The machine right after a power reset: below LIT, every register at its reset value, the command queue empty. -/
def State.reset : State := {}

end Sys2Proof.Machine
end

