-- ==== Sys2Proof/Machine/Operands.lean ====
section
/-! DEFINITION. The fields of words, descriptors and ring frames (chapters 07 and 09), and the codes the spec numbers. -/

namespace Sys2Proof.Machine

/-- Bits [lo + n - 1 : lo] of a word, as a number. -/
def bits {w : Nat} (x : BitVec w) (lo n : Nat) : Nat := x.toNat / 2 ^ lo % 2 ^ n

/-- Bit `k` of a word. -/
def bit {w : Nat} (x : BitVec w) (k : Nat) : Bool := x.getLsbD k

/-- A 16-bit word from a number. -/
def word (n : Nat) : Word := BitVec.ofNat 16 n

/-- A 16-bit word from a signed number, two's complement. -/
def sword (x : Int) : Word := BitVec.ofInt 16 x

/-- Bits [15:0] and [31:16] of a 32-bit word. -/
def lo16 (x : DWord) : Word := x.setWidth 16
/-- Bits [31:16] of a 32-bit word. -/
def hi16 (x : DWord) : Word := (x >>> 16).setWidth 16

/-- A vector changed at every place; its elements are those of `Vector.ofFn`. -/
def vmap {α β : Type} {n : Nat} (f : α → β) (v : Vector α n) : Vector β n := Vector.ofFn fun i => f v[i]

/-- A vector with one place replaced. -/
def vset {α : Type} {n : Nat} (v : Vector α n) (i : Fin n) (x : α) : Vector α n := v.set i x

/-- A vector with one place changed. -/
def vmod {α : Type} {n : Nat} (v : Vector α n) (i : Fin n) (f : α → α) : Vector α n := v.set i (f v[i])

/-! ### Status codes (R328) -/

/-- ST_OK -/
def stOk : Byte := 0x00
/-- ST_LATE -/
def stLate : Byte := 0x01
/-- ST_NO_OBJECT -/
def stNoObject : Byte := 0x02
/-- ST_BUSY -/
def stBusy : Byte := 0x03
/-- ST_INCONSISTENT -/
def stInconsistent : Byte := 0x04
/-- ST_SPEED_HIGH -/
def stSpeedHigh : Byte := 0x05
/-- ST_CAL_CONDITION -/
def stCalCondition : Byte := 0x06
/-- ST_SEED_WAIT -/
def stSeedWait : Byte := 0x07
/-- ST_FUSE_SUPPLY -/
def stFuseSupply : Byte := 0x08
/-- ST_FUSE_LOCKED -/
def stFuseLocked : Byte := 0x09
/-- ST_FUSE_VERIFY -/
def stFuseVerify : Byte := 0x0A
/-- ST_KEY_BUDGET -/
def stKeyBudget : Byte := 0x0B
/-- ST_CLOSED -/
def stClosed : Byte := 0x0C
/-- ST_TAG_FULL -/
def stTagFull : Byte := 0x0D
/-- ST_QUEUE_FULL -/
def stQueueFull : Byte := 0x0E
/-- ST_FRONTAGE -/
def stFrontage : Byte := 0x0F
/-- ST_NOT_STOPPED -/
def stNotStopped : Byte := 0x10
/-- ST_LIFECYCLE -/
def stLifecycle : Byte := 0x11

/-! ### Opcodes (R327) -/

/-- The opcodes of R327, whether or not a descriptor may carry them. -/
inductive Opcode where
  | readBlock
  | writeBatten
  | commitBatten
  | laneStart
  | laneStop
  | laneSetSpeed
  | laneReverse
  | laneReseat
  | laneCalibrate
  | laneOffstateDiag
  | laneSelftest
  | laneClearLatch
  | wheelLoadTable
  | windowArm
  | windowDisarm
  | thermalQuery
  | fuseRead
  | fuseProgramWord
  | lifecycleAdvance
  | sessionOpen
  | keyRoll
  | tallySnapshot
  | traceConsent
  | leaseRenew
  | benchHold
  | benchRelease
  | assign
  | reopen
  deriving DecidableEq, Repr

/-- The opcode number (R327). -/
def Opcode.code : Opcode → Byte
  | .readBlock => 0x01
  | .writeBatten => 0x02
  | .commitBatten => 0x03
  | .laneStart => 0x10
  | .laneStop => 0x11
  | .laneSetSpeed => 0x12
  | .laneReverse => 0x13
  | .laneReseat => 0x14
  | .laneCalibrate => 0x15
  | .laneOffstateDiag => 0x16
  | .laneSelftest => 0x17
  | .laneClearLatch => 0x18
  | .wheelLoadTable => 0x20
  | .windowArm => 0x21
  | .windowDisarm => 0x22
  | .thermalQuery => 0x30
  | .fuseRead => 0x40
  | .fuseProgramWord => 0x41
  | .lifecycleAdvance => 0x42
  | .sessionOpen => 0x50
  | .keyRoll => 0x51
  | .tallySnapshot => 0x60
  | .traceConsent => 0x61
  | .leaseRenew => 0x70
  | .benchHold => 0x71
  | .benchRelease => 0x72
  | .assign => 0x7E
  | .reopen => 0x7F

/-- Every opcode, in number order. -/
def allOpcodes : List Opcode :=
  [.readBlock, .writeBatten, .commitBatten, .laneStart, .laneStop, .laneSetSpeed, .laneReverse, .laneReseat,
   .laneCalibrate, .laneOffstateDiag, .laneSelftest, .laneClearLatch, .wheelLoadTable, .windowArm, .windowDisarm,
   .thermalQuery, .fuseRead, .fuseProgramWord, .lifecycleAdvance, .sessionOpen, .keyRoll, .tallySnapshot,
   .traceConsent, .leaseRenew, .benchHold, .benchRelease, .assign, .reopen]

/-- The opcode a number names, if any (R308). -/
def opcodeOf (b : Byte) : Option Opcode := allOpcodes.find? fun o => o.code == b

/-- A lane command, whose lane is named in FLAGS [2:0]. -/
def Opcode.isLane : Opcode → Bool
  | .laneStart | .laneStop | .laneSetSpeed | .laneReverse | .laneReseat | .laneCalibrate | .laneOffstateDiag
  | .laneSelftest | .laneClearLatch => true
  | _ => false

/-- The opcodes admitted while the market is closed (R305). -/
def Opcode.whileClosed : Opcode → Bool
  | .reopen | .readBlock | .thermalQuery | .fuseRead | .tallySnapshot | .leaseRenew => true
  | _ => false

/-- The opcodes applied during a bench hold (R326). -/
def Opcode.duringHold : Opcode → Bool
  | .benchRelease | .readBlock | .tallySnapshot | .thermalQuery => true
  | _ => false

end Sys2Proof.Machine

namespace Sys2Proof

open Sys2Proof.Machine

/-! ### Descriptors -/

/-- OPCODE, word 0 [15:8]. -/
def Desc.opcode (d : Desc) : Byte := BitVec.ofNat 8 (bits d.w0 8 8)

/-- FLAGS, word 0 [7:0]. -/
def Desc.flags (d : Desc) : Byte := BitVec.ofNat 8 (bits d.w0 0 8)

/-- SEQ, word 1 [15:9]. -/
def Desc.seq (d : Desc) : BitVec 7 := BitVec.ofNat 7 (bits d.w1 9 7)

/-- TAG, word 1 [8:0]. -/
def Desc.tag (d : Desc) : BitVec 9 := BitVec.ofNat 9 (bits d.w1 0 9)

/-- EPOCH_AT, word 2. -/
def Desc.epochAt (d : Desc) : Word := d.w2

/-- The words of a descriptor, word 0 first. -/
def Desc.words (d : Desc) : List Word := [d.w0, d.w1, d.w2, d.w3, d.w4, d.w5, d.w6, d.w7]

/-- Words 4 to 7. -/
def Desc.tail4 (d : Desc) : List Word := [d.w4, d.w5, d.w6, d.w7]

/-- A descriptor from its words. -/
def descOf (ws : List Word) : Desc :=
  ⟨ws.getD 0 0, ws.getD 1 0, ws.getD 2 0, ws.getD 3 0, ws.getD 4 0, ws.getD 5 0, ws.getD 6 0, ws.getD 7 0⟩

/-- The descriptor with its OPCODE field set. -/
def Desc.withOpcode (d : Desc) (b : Byte) : Desc := { d with w0 := b ++ d.flags }

/-- The TAG of a command; a register-path command's is 0 (R657). -/
def Cmd.tag (c : Cmd) : BitVec 9 := if c.door = .register then 0 else c.desc.tag

/-- The SEQ of a command. -/
def Cmd.seq (c : Cmd) : BitVec 7 := c.desc.seq

/-- The lane named in FLAGS [2:0], if it exists (R308). -/
def Cmd.lane (c : Cmd) : Option LaneIx :=
  let n := bits c.desc.w0 0 3
  if h : n < 6 then some ⟨n, h⟩ else none

/-- The command with its row's opcode. -/
def Cmd.withOpcode (c : Cmd) (o : Opcode) : Cmd := { c with desc := c.desc.withOpcode o.code }

/-! ### Ring frames (chapter 07, *Slot header*) -/

/-- DEST, [47:42]. -/
def Frame.dest (f : Frame) : BitVec 6 := BitVec.ofNat 6 (bits f.header 42 6)

/-- PITCH, [41:39]. -/
def Frame.pitch (f : Frame) : Pitch := ⟨bits f.header 39 3, by unfold bits; omega⟩

/-- TYPE, [38:35]. -/
def Frame.type (f : Frame) : BitVec 4 := BitVec.ofNat 4 (bits f.header 35 4)

/-- LEN, [34:29]. -/
def Frame.len (f : Frame) : Nat := bits f.header 29 6

/-- TAKEN, [28]. -/
def Frame.taken (f : Frame) : Bool := bit f.header 28

/-- RESP, [27]. -/
def Frame.resp (f : Frame) : Bool := bit f.header 27

/-- The reserved header bits, [26:16]. -/
def Frame.reserved (f : Frame) : Nat := bits f.header 16 11

/-- SEQ, [15:0]. -/
def Frame.seq (f : Frame) : Word := BitVec.ofNat 16 (bits f.header 0 16)

/-- The header with TAKEN and RESP taken as 0 (R205, R268). -/
def Frame.plainHeader (f : Frame) : BitVec 48 := f.header &&& ~~~ (0x18000000 : BitVec 48)

/-- The payload as a list. -/
def Frame.bytes (f : Frame) : List Byte := f.payload.toList

/-- A byte of a frame's payload. -/
def Frame.byte (f : Frame) (i : Nat) : Byte := f.bytes.getD i 0

/-- Bytes `i` to `i + n - 1` of a frame's payload as a number, most significant byte first. -/
def Frame.field (f : Frame) (i n : Nat) : Nat := ((f.bytes.drop i).take n).foldl (fun a b => 256 * a + b.toNat) 0

/-- A 40-byte payload from a list, the rest 0x00. -/
def payloadOf (bs : List Byte) : Vector Byte 40 := Vector.ofFn fun i => bs.getD i 0

/-- A response header: DEST, PITCH, TYPE and SEQ kept, TAKEN and RESP set, the given LEN (R209). -/
def Frame.respHeader (f : Frame) (len : Nat) : BitVec 48 :=
  (f.header &&& 0xFFF80000FFFF) ||| BitVec.ofNat 48 (len * 2 ^ 29) ||| 0x18000000

end Sys2Proof
end

