-- ==== Sys2Proof/Machine/Ops.lean ====
section
/-! DEFINITION. The named operations every family shares: access to a lane, tracker, sensor or pitch; ownership;
tallies, trace packets, events, completions and the ledger. -/

namespace Sys2Proof.Machine

/-! ### Access -/

/-- The lane `n`. -/
def State.ln (s : State) (n : LaneIx) : Lane := s.lane[n]

/-- `s` with lane `n` replaced. -/
def State.setLn (s : State) (n : LaneIx) (l : Lane) : State := { s with lane := vset s.lane n l }

/-- `s` with lane `n` changed. -/
def State.modLn (s : State) (n : LaneIx) (f : Lane → Lane) : State := s.setLn n (f (s.ln n))

/-- The tracker `n`. -/
def State.tk (s : State) (n : TrkIx) : Tracker := s.trk[n]

/-- `s` with tracker `n` replaced. -/
def State.setTk (s : State) (n : TrkIx) (x : Tracker) : State := { s with trk := vset s.trk n x }

/-- `s` with tracker `n` changed. -/
def State.modTk (s : State) (n : TrkIx) (f : Tracker → Tracker) : State := s.setTk n (f (s.tk n))

/-- The sensor `i`. -/
def State.sn (s : State) (i : SensorIx) : Sensor := s.heat.sensor[i]

/-- `s` with sensor `i` changed. -/
def State.modSn (s : State) (i : SensorIx) (f : Sensor → Sensor) : State :=
  { s with heat.sensor := vmod s.heat.sensor i f }

/-- The instant of a command becomes the present. -/
def State.tick (s : State) (t : Ticks) : State := { s with now := max s.now t }

/-- What happened at the instant `t`, learnt of at the present: it bears its own instant (R605, R610), and the present stays. -/
def State.happened (s : State) (t : Ticks) (f : State → State) : State := { f { s with now := t } with now := max s.now t }

/-- The six lanes in order. -/
def laneIxs : List LaneIx := [0, 1, 2, 3, 4, 5]

/-- The three phases in order. -/
def phaseIxs : List PhaseIx := [0, 1, 2]

/-- The four trackers in order. -/
def trkIxs : List TrkIx := [0, 1, 2, 3]

/-- The eight pitches in order. -/
def pitchIxs : List Pitch := [0, 1, 2, 3, 4, 5, 6, 7]

/-- The 14 sensors in order. -/
def sensorIxs : List SensorIx := [0, 1, 2, 3, 4, 5, 6, 7, 8, 9, 10, 11, 12, 13]

/-- An operation on every lane, LANE_0 first. -/
def State.eachLane (s : State) (f : State → LaneIx → State) : State := laneIxs.foldl f s

/-- An operation on every tracker. -/
def State.eachTrk (s : State) (f : State → TrkIx → State) : State := trkIxs.foldl f s

/-- An operation on every pitch. -/
def State.eachPitch (s : State) (f : State → Pitch → State) : State := pitchIxs.foldl f s

/-! ### Ownership, licence, state of the ladder -/

/-- LANE_LICENCE with R132: a licensed lane exists (R120). -/
def State.licensed (s : State) (n : LaneIx) : Bool :=
  bit s.fuse.cfg100 n.val && decide (s.fuse.lifecycle ≠ .retired)

/-- The owner of lane `n`, if any. -/
def State.laneOwner (s : State) (n : LaneIx) : Option Pitch := s.pit.own.lane[n]

/-- The owner of tracker `n`. -/
def State.trkOwner (s : State) (n : TrkIx) : Option Pitch := s.pit.own.wheel[n]

/-- Pitch `p` owns lane `n`, and the lane exists (R279). -/
def State.ownsLane (s : State) (p : Pitch) (n : LaneIx) : Bool :=
  decide (s.laneOwner n = some p) && s.licensed n

/-- Pitch `p` owns tracker `n`. -/
def State.ownsTrk (s : State) (p : Pitch) (n : TrkIx) : Bool := decide (s.trkOwner n = some p)

/-- The queue group of a queue. -/
def groupOf (q : QueueIx) : Fin 16 := ⟨q.val / 4, by omega⟩

/-- Pitch `p` owns queue `q`. -/
def State.ownsQueue (s : State) (p : Pitch) (q : QueueIx) : Bool :=
  decide (s.pit.own.group[groupOf q] = some p)

/-- Pitch `p` is active: it owns a queue group (chapter 08, *Objects and ownership*). -/
def Owners.active (o : Owners) (p : Pitch) : Bool := o.group.toList.any fun g => g == some p

/-- The rail of lane `n`. -/
def railOf (n : LaneIx) : Rail := if n.val < 3 then .a else .b

/-- The rank of a power state on the ladder of R164; OPEN ranks with SEEDED and above. -/
def Power.rank : Power → Nat
  | .dark => 0
  | .lit => 1
  | .sensed => 2
  | .settled => 3
  | .joined => 4
  | .seeded => 5
  | .market => 6

/-- The device is out of reset. -/
def State.alive (s : State) : Bool := decide (1 ≤ s.dev.power.rank)

/-- The device has reached SETTLED. -/
def State.atSettled (s : State) : Bool := decide (3 ≤ s.dev.power.rank)

/-- The device has reached JOINED: the market exists (chapter 06, *The state ladder*). -/
def State.atJoined (s : State) : Bool := decide (4 ≤ s.dev.power.rank)

/-- The device has reached SEEDED. -/
def State.atSeeded (s : State) : Bool := decide (5 ≤ s.dev.power.rank)

/-! ### Trace packets (chapter 17) -/

/-- The effective mask of pitch `p` (R602). -/
def Observe.effective (o : Observe) (p : Pitch) : Byte :=
  if p = 0 then o.grant[p] else o.grant[p] &&& o.countersign[p]

/-- Some effective mask is nonzero (R607, R608). -/
def Observe.active (o : Observe) : Bool := pitchIxs.any fun p => decide (o.effective p ≠ 0)

/-- The words a trace queue holds. -/
def queueWords (q : List Packet) : Nat := (q.map fun p => p.words.length).sum

/-- A packet of class `cls` naming pitch `p` at the present instant (chapter 17, *Packet header*). -/
def State.packet (s : State) (cls : Nat) (p : Nat) (payload : List Word) : Packet :=
  { words := word (cls * 2 ^ 12 + p * 2 ^ 9 + payload.length * 2 ^ 4) :: lo16 s.bell.epoch
      :: word ((s.now - s.bell.boundaryAt) / 4) :: payload
    at_ := s.now }

/-- The class of a packet. -/
def Packet.cls (k : Packet) : Nat := k.words.head?.elim 0 fun w => bits w 12 4

/-- The pitch a packet names. -/
def Packet.pitch (k : Packet) : Nat := k.words.head?.elim 0 fun w => bits w 9 3

/-- A packet goes before another: by its happening's tick, then ascending class, then ascending pitch (R610). -/
def Packet.before (k x : Packet) : Bool :=
  decide (k.at_ < x.at_ ∨ k.at_ = x.at_ ∧ (k.cls < x.cls ∨ k.cls = x.cls ∧ k.pitch < x.pitch))

/-- A packet joins a queue in the order of R610. -/
def insertPacket (k : Packet) : List Packet → List Packet
  | [] => [k]
  | x :: r => if k.before x then k :: x :: r else x :: insertPacket k r

/-- A packet of pitch `p` that found no room (R611). -/
def Observe.lose (o : Observe) (p : Pitch) (k : Nat) : Observe :=
  { o with
    lostSince := vmod o.lostSince p fun x => satNat 16 (x.toNat + k)
    lost := vmod o.lost p fun x => satNat 16 (x.toNat + k) }

/-- A packet of class 1 to 7 under the consent of pitch `p` (R606, R611). -/
def State.trace (s : State) (cls : Nat) (p : Pitch) (payload : List Word) : State :=
  if bit (s.obs.effective p) (cls - 1) then
    let k := s.packet cls p.val payload
    if queueWords s.obs.queue[p] + k.words.length ≤ 64 then
      { s with obs.queue := vmod s.obs.queue p (insertPacket k) }
    else { s with obs := s.obs.lose p 1 }
  else s

/-- A packet of the owner of an object, none while it is parked (R605). -/
def State.traceTo (s : State) (cls : Nat) (o : Option Pitch) (payload : List Word) : State :=
  match o with
  | some p => s.trace cls p payload
  | none => s

/-- A device packet of class 8 to 10 (R607, R611); `p` is the pitch it names, none for BELL. -/
def State.traceDev (s : State) (cls : Nat) (p : Option Pitch) (payload : List Word) : State :=
  let k := s.packet cls (p.elim 0 Fin.val) payload
  if queueWords s.obs.devQueue + k.words.length ≤ 16 then
    { s with obs.devQueue := insertPacket k s.obs.devQueue }
  else
    match p with
    | some p => { s with obs := s.obs.lose p 1 }
    | none => s

/-- A LANE packet (chapter 17, *LANE and WHEEL kinds*). -/
def State.traceLane (s : State) (n : LaneIx) (kind detail : Nat) (value : Word) : State :=
  s.traceTo 4 (s.laneOwner n) [word (n.val * 2 ^ 12 + kind * 2 ^ 8 + detail), value]

/-- A WHEEL packet. -/
def State.traceWheel (s : State) (n : TrkIx) (kind detail : Nat) (value : Word) : State :=
  s.traceTo 5 (s.trkOwner n) [word (n.val * 2 ^ 14 + kind * 2 ^ 10 + detail % 128), value]

/-! ### Tallies (chapter 17) -/

/-- A tally counts: its source is defined and names an object that its pitch owns (R614). -/
def State.tallyLive (s : State) (i : TallyIx) : Bool :=
  let src := s.obs.tally[i].src
  let code := bits src 8 8
  let idx := bits src 0 8
  match s.pit.own.tally[i] with
  | none => false
  | some p =>
    if 0x01 ≤ code ∧ code ≤ 0x07 then s.pit.own.lane[idx]? == some (some p)
    else if 0x10 ≤ code ∧ code ≤ 0x14 then s.pit.own.wheel[idx]? == some (some p)
    else if code = 0x20 then s.pit.own.ain[idx]? == some (some p)
    else if code = 0x30 ∨ code = 0x31 then s.pit.own.group[idx]? == some (some p)
    else decide ((code = 0x32 ∨ code = 0x33 ∨ code = 0x40) ∧ idx = 0)

/-- A happening of source `code` at object `idx` counts in every live tally of that source; `who` limits it to the
tallies of one pitch (R614, R615). -/
def State.count (s : State) (code idx : Nat) (who : Option Pitch := none) : State :=
  { s with obs.tally := Vector.ofFn fun i =>
      let t := s.obs.tally[i]
      if t.src = word (code * 256 + idx) ∧ s.tallyLive i ∧ (who = none ∨ s.pit.own.tally[i] = who) then
        { t with value := t.value + 1 }
      else t }

/-! ### Events (R312, R313) -/

/-- An event entry (chapter 09, *Event entry*) with the present epoch. -/
def State.eventEntry (s : State) (cls idx cause : Nat) (w4 w5 w6 w7 : Word) : Entry :=
  ⟨word (cls * 256 + idx), word cause, lo16 s.bell.epoch, hi16 s.bell.epoch, w4, w5, w6, w7⟩

/-- An event for pitch `p`, posted at the next boundary. -/
def State.eventFor (s : State) (p : Pitch) (cls idx cause : Nat) (w4 w5 w6 w7 : Word) : State :=
  { s with q.events := s.q.events ++ [⟨p, s.eventEntry cls idx cause w4 w5 w6 w7⟩] }

/-- An event for an object's owner; a parked object's goes nowhere. -/
def State.eventTo (s : State) (o : Option Pitch) (cls idx cause : Nat) (w4 w5 w6 w7 : Word) : State :=
  match o with
  | some p => s.eventFor p cls idx cause w4 w5 w6 w7
  | none => s

/-- An event of lane `n` for its owner (R283). -/
def State.laneEvent (s : State) (n : LaneIx) (cause : Nat) (w4 w5 w6 w7 : Word) : State :=
  s.eventTo (s.laneOwner n) 0x01 n.val cause w4 w5 w6 w7

/-- An event of tracker `n` for its owner. -/
def State.trkEvent (s : State) (n : TrkIx) (cause : Nat) (w4 w5 w6 w7 : Word) : State :=
  s.eventTo (s.trkOwner n) 0x02 n.val cause w4 w5 w6 w7

/-! ### Completions and the ledger -/

/-- The outcome of a command, posted `k` boundaries on (R310, R311). -/
def State.finishIn (s : State) (k : Nat) (a : Applied) (status : Byte) (r0 r1 r2 r3 : Word) : State :=
  { s with q.outcomes := s.q.outcomes ++ [⟨a, status, r0, r1, r2, r3, s.bell.bellNo + k⟩] }

/-- The outcome of a command, posted at the next boundary. -/
def State.finish (s : State) (a : Applied) (status : Byte) (r0 r1 r2 r3 : Word) : State :=
  s.finishIn 1 a status r0 r1 r2 r3

/-- The ledger entry of a command applied in the present epoch (R318, R319). -/
def State.ledgerWrite (s : State) (a : Applied) (status : Byte) : State :=
  let c := a.cmd
  let e : LedgerEntry :=
    ⟨lo16 s.bell.epoch, hi16 s.bell.epoch,
     word (c.desc.opcode.toNat % 128 * 2 ^ 9 + c.tag.toNat),
     word (status.toNat % 128 * 2 ^ 9 + a.order % 512)⟩
  let s := { s with q.ledger := vmod s.q.ledger c.pitch fun l =>
    { newest := (e :: l.newest).take 256, written := l.written + 1 } }
  (s.count 0x32 0 (some c.pitch)).trace 1 c.pitch [e.w0, e.w1, e.w2, e.w3]

/-! ### W1C bits of the event registers -/

/-- Bits are set at `t`, beside those set earlier in the same CD17 cycle. -/
def Fresh.set (f : Fresh) (t : Ticks) (m : Word) : Fresh :=
  if f.at_ / 2 = t / 2 then { f with bits := f.bits ||| m } else { at_ := t, bits := m }

/-- The bits set in the CD17 cycle of `t`, which a W1C write of that cycle leaves set (R641). -/
def Fresh.kept (f : Fresh) (t : Ticks) : Word := if f.at_ / 2 = t / 2 then f.bits else 0

/-- Set bits of DEV_EVENT. -/
def State.devEventSet (s : State) (m : Word) : State :=
  { s with dev := { s.dev with devEvent := s.dev.devEvent ||| m, fresh := s.dev.fresh.set s.now m } }

/-- Set bits of PWR_EVENT. -/
def State.pwrEventSet (s : State) (m : Word) : State :=
  { s with pwr := { s.pwr with pwrEvent := s.pwr.pwrEvent ||| m, fresh := s.pwr.fresh.set s.now m } }

/-- Set bits of CLK_EVENT. -/
def State.clkEventSet (s : State) (m : Word) : State :=
  { s with clk := { s.clk with clkEvent := s.clk.clkEvent ||| m, fresh := s.clk.fresh.set s.now m } }

/-- Set bits of BELL_EVENT. -/
def State.bellEventSet (s : State) (m : Word) : State :=
  { s with bell := { s.bell with bellEvent := s.bell.bellEvent ||| m, fresh := s.bell.fresh.set s.now m } }

/-- Set bits of RING_EVENT. -/
def State.ringEventSet (s : State) (m : Word) : State :=
  { s with ring := { s.ring with ringEvent := s.ring.ringEvent ||| m, fresh := s.ring.fresh.set s.now m } }

/-- A host access to what the host pitch cannot reach (R280). -/
def State.noObject (s : State) : State := { s with host.noObject := true }

end Sys2Proof.Machine
end

