-- ==== Sys2Proof/Machine/Flags.lean ====
section
/-! DEFINITION. The conditions and figures that the spec computes from the state: fields of battens, power accounting,
what holds a lane, the causes of a closure. -/

namespace Sys2Proof.Machine

/-! ### The rows that stand behind the one in progress -/

/-- The instant of a bell boundary's row. -/
def boundaryInstant : Instr → Option Ticks
  | .bellBoundary o | .flywheelBell o => some o.at_
  | _ => none

/-- The row is a descriptor opcode at its application. -/
def isCommandRow : Instr → Bool
  | .readBlock _ | .writeBatten _ | .commitBatten _ | .laneStart _ | .laneStop _ | .laneSetSpeed _ | .laneReverse _ | .laneReseat _
  | .laneCalibrate _ | .laneOffstateDiag _ | .laneSelftest _ | .laneClearLatch _ | .wheelLoadTableStage _ | .wheelLoadTableSeat _
  | .windowArm _ | .windowDisarm _ | .thermalQuery _ | .fuseRead _ | .fuseProgramWord _ | .lifecycleAdvance _ | .keyRoll _
  | .tallySnapshot _ | .traceConsentGrant _ | .traceConsentRevoke _ | .traceConsentCountersign _ | .leaseRenew _ | .benchHold _
  | .benchRelease _ | .assign _ | .reopen _ => true
  | _ => false

/-- Commands of the present epoch wait to be applied by rows of their own, before the next boundary. -/
def State.commandsWait (s : State) : Bool := (s.pending.takeWhile fun i => (boundaryInstant i).isNone).any isCommandRow

/-- The commands of a bell boundary whose instant `same` accepts are not all applied: its row is to come, or some of its commands are. -/
def State.boundaryOpen (s : State) (same : Ticks → Bool) : Bool :=
  (s.pending.any fun i => (boundaryInstant i).any same) || (s.bell.seen && same s.bell.boundaryAt && s.commandsWait)

/-! ### Fields of the CARRIER batten (chapter 10) -/

/-- CAR_CTRL.MODE: 0 EDGE, 1 COT_ON, 2 COT_OFF. -/
def CarrierSet.mode (c : CarrierSet) : Nat := bits c.ctrl 0 2

/-- CAR_CTRL.CMP_MODE is EXACT. -/
def CarrierSet.exact (c : CarrierSet) : Bool := bit c.ctrl 2

/-- CAR_CTRL.MP_ACT is STRETCH. -/
def CarrierSet.stretch (c : CarrierSet) : Bool := bit c.ctrl 3

/-- DEAD, in ticks. -/
def CarrierSet.dead (c : CarrierSet) : Nat := bits c.deadMp 0 8

/-- MINPULSE, in ticks. -/
def CarrierSet.minPulse (c : CarrierSet) : Nat := bits c.deadMp 8 8

/-- The period of f_n: PERIOD in EDGE and PERIOD_MIN in COT modes (R52). -/
def CarrierSet.freqPeriod (c : CarrierSet) : Nat := if c.mode = 0 then c.period.toNat else c.periodMin.toNat

/-- The on-phase of EDGE in ticks: 0 for 0 %, PERIOD for 100 % (R339). -/
def CarrierSet.edgeOn (c : CarrierSet) : Nat :=
  let cmp := c.cmp.toNat
  let per := c.period.toNat
  if cmp = 0 then 0
  else if cmp = 0xFFFF then per
  else if c.exact then min (max cmp c.minPulse) (per - c.minPulse)
  else min cmp per

/-- A CARRIER set is inconsistent (R355). -/
def CarrierSet.bad (c : CarrierSet) : Bool :=
  let dm := c.dead + c.minPulse
  let cot (phase : Word) : Bool :=
    c.periodMin.toNat < 800 || c.periodMax < c.periodMin || dm ≥ phase.toNat
      || phase.toNat + c.minPulse > c.periodMin.toNat || c.sampleAt ≥ phase
  match c.mode with
  | 0 => c.period.toNat < 800 || 2 * dm ≥ c.period.toNat || c.sampleAt ≥ c.period
  | 1 => cot c.tOn
  | 2 => cot c.tOff
  | _ => true

/-! ### The mask (chapter 10) -/

/-- The state of phase `k` in a mask row: 0 FLOAT, 1 LOW, 2 HIGH, 3 PWM. -/
def rowState (r : Word) (k : PhaseIx) : Nat := bits r (2 * k.val) 2

/-- A mask row is valid: one phase FLOAT, the others PWM with LOW, HIGH with LOW, or HIGH with PWM (R345). -/
def rowValid (r : Word) : Bool :=
  let states := phaseIxs.map (rowState r)
  decide (states.count 0 = 1 ∧ (states.count 1 ≤ 1 ∧ states.count 2 ≤ 1 ∧ states.count 3 ≤ 1))

/-- The next row in a direction; `rev` is reverse (R344). -/
def nextRow (rev : Bool) (r : Fin 6) : Fin 6 := if rev then r - 1 else r + 1

/-- A shoot-through mask (R346). -/
def MaskSet.shootThrough (m : MaskSet) : Bool :=
  (List.finRange 6).any fun r => phaseIxs.any fun k =>
    let a := rowState m.rows[r] k
    let b := rowState m.rows[nextRow false r] k
    decide (a ≠ b ∧ a ≠ 0 ∧ b ≠ 0)

/-- A MASK set is inconsistent (R356). -/
def MaskSet.bad (m : MaskSet) : Bool :=
  (List.finRange 6).any (fun r => !rowValid m.rows[r]) || m.shootThrough

/-! ### LANE_POLICY (chapter 10) -/

/-- ON_CLOCK_LOSS is RUN_THROUGH. -/
def runThroughPolicy (p : Word) : Bool := bit p 0

/-- ON_HOLD is RUN. -/
def holdRunPolicy (p : Word) : Bool := bit p 1

/-- ON_HOST_LOSS is CONTINUE. -/
def hostContinuePolicy (p : Word) : Bool := bit p 2

/-- The safe level of phase `k` is LOW. -/
def safeLow (p : Word) (k : PhaseIx) : Bool := bit p (4 + k.val)

/-! ### SENSE, COMMUT, GATE and HEAT fields (chapters 11, 12, 13, 15) -/

/-- G of SENSE_CTRL.GAIN (R376). -/
def SenseSet.gain (s : SenseSet) : Nat := 5 * 2 ^ bits s.ctrl 0 2

/-- ILIM -/
def SenseSet.limit (s : SenseSet) : BitVec 10 := s.ilim.setWidth 10

/-- WIN_LO, signed, 11 bits. -/
def SenseSet.low (s : SenseSet) : Int := (s.winLo.setWidth 11).toInt

/-- The route of source `i`: 0 PEAK, 1 OC, 2 UC, 3 FLT_0_N, 4 FLT_1_N (R384). -/
def SenseSet.routeOf (s : SenseSet) (i : Nat) : Nat := bits s.route (2 * i) 2

/-- A SENSE set is inconsistent (R405). -/
def SenseSet.bad (s : SenseSet) : Bool :=
  let l := bits s.ilim 0 10
  let hi := bits s.winHi 0 10
  l == 0 || l > 895 || hi ≤ l || hi > 895 || decide (s.low ≥ 0) || decide (s.low < -128)
    || [0, 1, 2, 3, 4].any fun i => s.routeOf i == 3

/-- ZC_FILTER -/
def CommutSet.zcFilter (c : CommutSet) : Nat := bits c.ctrl 9 2

/-- RESTART_MAX -/
def CommutSet.restartMax (c : CommutSet) : Nat := bits c.ctrl 6 3

/-- Twice STALL_FACTOR: 3 to 8 for 1.5 to 4.0. -/
def CommutSet.stallHalves (c : CommutSet) : Nat := bits c.ctrl 3 3 + 3

/-- ADAPT_BLANK -/
def CommutSet.adaptBlank (c : CommutSet) : Bool := bit c.ctrl 2

/-- STOP_MODE -/
def CommutSet.stopMode (c : CommutSet) : StopMode :=
  match bits c.ctrl 0 2 with
  | 0 => .coast
  | 1 => .brake
  | _ => .ramp

/-- ADVANCE, in degrees electrical. -/
def CommutSet.advanceDeg (c : CommutSet) : Nat := bits c.advance 0 5

/-- BLANK_MIN, in ticks. -/
def CommutSet.blankTicks (c : CommutSet) : Nat := bits c.blankMin 0 8 * Config.ticksPerUs

/-- STOP_TIME, in ms. -/
def CommutSet.stopMs (c : CommutSet) : Nat := bits c.stopBrakeTime 8 8

/-- BRAKE_TIME, in ms. -/
def CommutSet.brakeMs (c : CommutSet) : Nat := bits c.stopBrakeTime 0 8

/-- RESTART_DELAY, in ms. -/
def CommutSet.restartMs (c : CommutSet) : Nat := bits c.restartDelay 0 8

/-- A COMMUT set is inconsistent (R452); reserved bits written to a shadow count (log entry 14). -/
def CommutSet.bad (c : CommutSet) : Bool :=
  bits c.ctrl 0 2 == 3 || bits c.ctrl 3 3 > 5 || c.advanceDeg > 30 || c.runMin == 0 || c.runMin.toNat > 0xBB80
    || c.revLimit.toNat > 0x03C0 || c.accel == 0 || c.decel == 0
    || bits c.ctrl 11 5 != 0 || bits c.blankMin 8 8 != 0 || bits c.advance 5 11 != 0 || bits c.restartDelay 8 8 != 0

/-- GATE_CTRL.INPUT is PIN. -/
def GateSet.pin (g : GateSet) : Bool := bit g.ctrl 0

/-- PROBE_ALLOWED -/
def GateSet.probeAllowed (g : GateSet) : Bool := bit g.ctrl 2

/-- RETRY_MAX -/
def GateSet.retryMax (g : GateSet) : Nat := bits g.retryCfg 8 3

/-- RETRY_WAIT, in ms. -/
def GateSet.retryWait (g : GateSet) : Nat := bits g.retryCfg 0 8

/-- OPEN_LEVEL -/
def GateSet.level (g : GateSet) : Nat := bits g.openLevel 0 12

/-- The registers of a GATE set have a reserved bit set (R491). -/
def GateSet.reserved (g : GateSet) : Bool :=
  bits g.ctrl 11 5 != 0 || bit g.ctrl 7 || bit g.ctrl 3 || bits g.vdsCfg 12 4 != 0 || bits g.retryCfg 11 5 != 0
    || bits g.openLevel 12 4 != 0

/-- A HEAT set is inconsistent (R580). -/
def HeatSet.bad (h : HeatSet) : Bool :=
  let b := bits h.ntcCfg 8 8
  let stop := bits h.ntcLim 8 8
  b < 100 || b > 250 || bits h.ntcCfg 0 8 == 0 || stop > 150 || stop < bits h.ntcLim 0 8 + 5 || bit h.sw 15

/-- STEPS of a profile. -/
def Profile.steps (p : Profile) : Nat := bits p.hdr 0 5

/-- ALIGN_ROW -/
def Profile.alignRow (p : Profile) : Nat := bits p.hdr 8 3

/-- REPEAT of entry `k`. -/
def Profile.repeats (p : Profile) (k : Fin 16) : Nat := bits p.step[k] 10 6

/-- CURRENT of entry `k`. -/
def Profile.current (p : Profile) (k : Fin 16) : BitVec 10 := p.step[k].setWidth 10

/-- A staged profile is inconsistent (R429). -/
def Profile.bad (p : Profile) : Bool :=
  p.steps == 0 || p.steps > 16 || p.alignRow > 5
    || (bits p.alignTime 0 8 != 0 && (bits p.alignI 0 10 == 0 || bits p.alignI 0 10 > 895))
    || (List.finRange 16).any (fun k => k.val < p.steps &&
        (p.interval[k].toNat < 50 || p.repeats k == 0 || (p.current k).toNat == 0 || (p.current k).toNat > 895))
    || bits p.hoLimit 0 8 < 6

/-- The last entry in use. -/
def Profile.lastEntry (p : Profile) : Fin 16 := ⟨(p.steps - 1) % 16, by omega⟩

/-! ### Lanes -/

/-- A lane is running: its state is not STOPPED (R410). -/
def Lane.running (l : Lane) : Bool := decide (l.com.state ≠ .stopped)

/-- The lane is in PIN mode. -/
def Lane.pin (l : Lane) : Bool := l.gate.set.live.pin

/-- All six gates are at their off level. -/
def Lane.allOff (l : Lane) : Bool := l.car.bridges.toList.all fun b => !b.high && !b.low

/-- The latest instant at which a gate turned off. -/
def Lane.offSince (l : Lane) : Ticks := l.car.bridges.toList.foldl (fun t b => max t b.offAt) 0

/-- The lane was floated for the 2.000 ms before `t` (check 5 of R397). -/
def Lane.floated (l : Lane) (t : Ticks) : Bool := l.allOff && decide (l.offSince + 2 * Config.ticksPerMs ≤ t)

/-- No BEMF transition in the 2.000 ms before `t` (check 6 of R397). -/
def Lane.quiet (l : Lane) (t : Ticks) : Bool :=
  match l.ops.lastBemf with
  | some x => decide (x + 2 * Config.ticksPerMs < t)
  | none => true

/-- min(ILIM, ILIM_TH, ILIM_FR) (R388). -/
def LaneSense.limitNow (x : LaneSense) : BitVec 10 :=
  let a := if x.ilimTh < x.ilimFr then x.ilimTh else x.ilimFr
  if x.set.live.limit < a then x.set.live.limit else a

/-- The code of a level DAC for a level relative to zero current (R378). -/
def LaneSense.dac (x : LaneSense) (level : Int) : Nat :=
  (clampInt 0 1023 (128 + roundHalfAway x.offset 4 + level)).toNat

/-- The limit that the trip level is formed from: min(I_DEM, ILIM_EFF) while the lane is running (R420). -/
def Lane.tripLimit (l : Lane) : Nat :=
  if l.running then min l.com.iDem.toNat l.sense.ilimEff.toNat else l.sense.ilimEff.toNat

/-- The trip level at `t`, relative to zero current: in EDGE it falls by SLOPE / 256 a tick from each carrier boundary on, never below
0; COT modes have no ramp (R379, R380), nor has a lane without carrier boundaries (log entry 57). -/
def Lane.tripLevel (l : Lane) (t : Ticks) : Nat :=
  if l.running ∧ l.car.set.live.mode = 0 then
    l.tripLimit - bits l.sense.set.live.slope 0 8 * (t - l.car.periodStart) / 256
  else l.tripLimit

/-- The comparator's output for the amplifier output `out`, in DAC steps, at `t`: PEAK lies above the trip level, OC above WIN_HI, UC
below WIN_LO, each at its DAC code (R378 to R380, R383). -/
def Lane.beyond (l : Lane) (cmp : Comparator) (t : Ticks) (out : BitVec 10) : Bool :=
  let x := l.sense
  match cmp with
  | .peak => decide (x.dac (l.tripLevel t) < out.toNat)
  | .oc => decide (x.dac (bits x.set.live.winHi 0 10) < out.toNat)
  | .uc => decide (out.toNat < x.dac x.set.live.low)

/-- The code of a lane state (chapter 12, *Lane states*). -/
def LaneState.code : LaneState → Nat
  | .stopped => 0
  | .align => 1
  | .ramp => 2
  | .handover => 3
  | .run => 4
  | .stopping => 5
  | .restartWait => 6

/-- The code of a stop mode (R442). -/
def StopMode.code : StopMode → Nat
  | .coast => 1
  | .brake => 2
  | .ramp => 3

/-! ### Temperatures (chapter 15) -/

/-- The die sensor `n` and the NTC of lane `n`. -/
def tsIx (n : LaneIx) : SensorIx := ⟨n.val, by omega⟩
/-- The NTC of lane `n`, sensor index 8 + n. -/
def ntcIx (n : LaneIx) : SensorIx := ⟨8 + n.val, by omega⟩

/-- The eight die sensors. -/
def dieIxs : List SensorIx := [0, 1, 2, 3, 4, 5, 6, 7]

/-- T_WARN in 1/16 K. -/
def Thermal.tWarn (h : Thermal) : Int := h.dieWarn.toNat * 16

/-- T_STOP in 1/16 K. -/
def Thermal.tStop (h : Thermal) : Int := h.dieStop.toNat * 16

/-- Some die sensor reads `x` or more; an unavailable one reads no temperature. -/
def Thermal.dieAt (h : Thermal) (x : Int) : Bool :=
  dieIxs.any fun i => !h.sensor[i].unavailable && decide (h.sensor[i].temp ≥ x)

/-- THERM_STATUS.WARM (R573). -/
def Thermal.warm (h : Thermal) : Bool := h.dieAt (h.tWarn - 160)

/-- A thermal stop is in force on lane `n` (R561). -/
def State.thermalStop (s : State) (n : LaneIx) : Bool :=
  (s.sn (tsIx n)).stop || (s.sn (ntcIx n)).stop || (s.sn 6).stop || (s.sn 7).stop
    || (s.sn (tsIx n)).unavailable || (s.sn (tsIx n)).stale || (s.sn (ntcIx n)).unavailable || (s.sn (ntcIx n)).stale

/-! ### Line power (chapter 03) -/

/-- The accounting term of a lane in mW (R52). -/
def laneTerm (qg : BitVec 10) (period : Nat) : Rat := 100 + 4800 * (qg.toNat : Rat) / period

/-- The term of lane `n` while it counts. -/
def Lane.term (l : Lane) : Rat :=
  if l.running then laneTerm l.ops.qgLive l.car.set.live.freqPeriod else 0

/-- A pitch's line-power sum in mW (R52). -/
def State.lineSum (s : State) (p : Pitch) : Rat :=
  (laneIxs.map fun n => if s.laneOwner n = some p then (s.ln n).term else 0).sum
    + (trkIxs.map fun n => if s.trkOwner n = some p ∧ (s.tk n).supply then (Config.sensorMw : Rat) else 0).sum

/-- The device-wide accounting total in mW (R52). -/
def State.lineTotal (s : State) : Rat :=
  Config.baseMw + (laneIxs.map fun n => (s.ln n).term).sum
    + (trkIxs.map fun n => if (s.tk n).supply then (Config.sensorMw : Rat) else 0).sum

/-- The power of a class in mW; none is granted by 0. -/
def classMw (c : BitVec 2) : Option Nat :=
  match c.toNat with
  | 1 => some 1500
  | 2 => some 3000
  | 3 => some 5000
  | _ => none

/-- PWR_STATUS.CLASS_SHORT (R56). -/
def State.classShort (s : State) : Bool :=
  match classMw s.pwr.granted with
  | some mw => decide (mw < Config.baseMw + s.pit.front.line.toList.sum)
  | none => false

/-- The line conditions of check 8 of R419 for a lane whose term becomes `x`: R48, R49, R53, R56, R59. -/
def State.lineAllows (s : State) (p : Pitch) (x : Rat) : Bool :=
  s.pwr.lineOk && !s.pwr.lineOv && !s.classShort && !s.pwr.overdraw
    && decide (s.lineSum p + x ≤ (s.pit.front.line[p] : Rat))

/-- LOW or HIGH is set for the rail of lane `n` (R407). -/
def State.railOut (s : State) (n : LaneIx) : Bool :=
  match railOf n with
  | .a => bit s.ana.bulk 0 || bit s.ana.bulk 1
  | .b => bit s.ana.bulk 2 || bit s.ana.bulk 3

/-! ### What holds a lane -/

/-- Safe levels are forced on lane `n` (R362); while the market is closed they are, but for a lane that runs through
(R97, R587), which then is the only kind of running lane. -/
def State.forced (s : State) (n : LaneIx) : Bool :=
  let l := s.ln n
  l.latch.latched || l.latch.safeHold || l.latch.safeLine || l.latch.safeClock || (s.dev.closed && !l.running)

/-- CLOSE_STATUS.PRESENT, for the causes that have arisen (R585, log entry 9). -/
def State.present (s : State) : BitVec 4 :=
  let p (i : Nat) (b : Bool) : Nat := if bit s.dev.arisen i && b then 2 ^ i else 0
  BitVec.ofNat 4 (p 0 (s.heat.dieAt s.heat.tWarn) + p 1 (!s.pwr.lineOk) + p 2 (s.clk.runThrough) + p 3 s.fuse.critFail)

/-- The die lies inside −20 °C to 105 °C for the fuse window (R143). -/
def Thermal.dieInFuseWindow (h : Thermal) : Bool :=
  let live := dieIxs.filter fun i => !h.sensor[i].unavailable
  !live.isEmpty && live.all fun i => decide (h.sensor[i].temp ≥ -320 ∧ h.sensor[i].temp ≤ 1680)

/-- Line, die and root lie within R143: FUSE_STATUS.SUPPLY_OK. -/
def State.supplyOk (s : State) : Bool :=
  decide (4200 ≤ s.pwr.lineV.toNat ∧ s.pwr.lineV.toNat ≤ 5800) && s.heat.dieInFuseWindow && s.clk.rootOk

/-- DEV_STATE.STATE: OPEN only while the market is open (R165). -/
def State.stateCode (s : State) : Nat := s.dev.power.rank

end Sys2Proof.Machine
end

