-- ==== Sys2Proof/Machine/Fuse.lean ====
section
/-! DEFINITION. The fuse array, its redirection, locks and life cycle, key slots, the fuse programmer and its rows
FUSE_WINDOW_START to FUSE_ABORT and PROGRAMMING_SUPPLY_SETTLED (chapter 05). -/

namespace Sys2Proof.Machine

/-! ### Cells -/

/-- A blank cell: 0x00000000 with a passing check (R115). -/
def blankCell : FuseCell := ⟨0, true⟩

/-- The content of a cell. -/
def fuseAt : FuseMem → Nat → FuseCell
  | [], _ => blankCell
  | (a, c) :: r, k => if a = k then c else if k < a then blankCell else fuseAt r k

/-- A cell entered where it is not blank. -/
def fuseCons (k : Nat) (c : FuseCell) (m : FuseMem) : FuseMem := if c = blankCell then m else (k, c) :: m

/-- A cell replaced; the list keeps rising addresses and no blank entry. -/
def fusePut : FuseMem → Nat → FuseCell → FuseMem
  | [], k, c => fuseCons k c []
  | (a, d) :: r, k, c =>
    if a = k then fuseCons k c r
    else if k < a then fuseCons k c ((a, d) :: r)
    else (a, d) :: fusePut r k c

/-- The canonical form: addresses strictly rising, no blank cell listed. -/
def FuseMem.wf : FuseMem → Bool
  | [] => true
  | [(_, c)] => decide (c ≠ blankCell)
  | (a, c) :: (b, d) :: r => decide (a < b) && decide (c ≠ blankCell) && FuseMem.wf ((b, d) :: r)

/-- The cell of a map-row word. -/
def mapCell (w : Nat) : Nat := 2176 + w

/-- The cell of word `w` of spare S_k. -/
def spareCell (k w : Nat) : Nat := 2048 + 16 * k + w

/-- The bitwise majority of three copies (R117). -/
def majority (a b c : DWord) : DWord := (a &&& b) ||| (a &&& c) ||| (b &&& c)

/-- Map-row words `w`, `w + step` and `w + 2 step` by majority. -/
def mapWord (m : FuseMem) (w step : Nat) : DWord :=
  majority (fuseAt m (mapCell w)).value (fuseAt m (mapCell (w + step))).value (fuseAt m (mapCell (w + 2 * step))).value

/-- Redirection entry `k`, by majority. -/
def redirByte (m : FuseMem) (k : Nat) : Nat := bits (mapWord m (k / 4) 2) (8 * (k % 4)) 8

/-- The region of a main row. -/
def rowRegion (row : Nat) : Nat := row / 8

/-- The spare that serves a region (R118). -/
def spareOf (region : Nat) : Nat := if region ≤ 8 then 0 else region - 8

/-- The main row that entry `k` redirects, if it is in force (R646). -/
def redirRow (m : FuseMem) (k : Nat) : Option Nat :=
  let e := redirByte m k
  let row := e % 128
  if 128 ≤ e ∧ spareOf (rowRegion row) = k then some row else none

/-- A marker word (R122). -/
def isMarker (a : Nat) : Bool := decide (0x180 ≤ a ∧ a ≤ 0x18B)

/-- The cell that a word address names, through redirection; marker words are never redirected (R161). -/
def resolveFuse (m : FuseMem) (a : Nat) : Nat :=
  let k := spareOf (rowRegion (a / 16))
  if redirRow m k = some (a / 16) && !isMarker a then spareCell k (a % 16) else a

/-- A fuse word. -/
def readFuse (m : FuseMem) (a : Nat) : FuseCell := fuseAt m (resolveFuse m a)

/-- What a user of a word gets: none of the bits of an unreadable one (R116), which show as 0 (log entry 38). -/
def FuseCell.shown (c : FuseCell) : DWord := if c.ok then c.value else 0

/-- A fuse word as its users get it. -/
def fuseWord (m : FuseMem) (a : Nat) : DWord := (readFuse m a).shown

/-- WLOCK of region `r` (R117). -/
def wlocked (m : FuseMem) (r : Nat) : Bool := bit (mapWord m 6 1) r

/-- RLOCK of region `r`. -/
def rlockFuse (m : FuseMem) (r : Nat) : Bool := bit (mapWord m 6 1) (16 + r)

/-- DEGRADED of region `r`. -/
def degradedFuse (m : FuseMem) (r : Nat) : Bool := bit (mapWord m 9 1) r

/-- The words of spare S_k all read blank (R150). -/
def spareBlank (m : FuseMem) (k : Nat) : Bool := (List.range 16).all fun w => fuseAt m (spareCell k w) == blankCell

/-- Spare S_k is unused (R150, R646): no entry names it and it is blank. -/
def spareFree (m : FuseMem) (k : Nat) : Bool := decide (redirByte m k < 128) && spareBlank m k

/-- The unused spares of pitch `p`: 0 or 1. -/
def sparesLeft (m : FuseMem) (p : Pitch) : Nat := bit01 (spareFree m p.val)

/-! ### Life cycle (R122, R123) -/

/-- A marker copy is set (R122). -/
def markerSet (m : FuseMem) (a : Nat) : Bool := fuseAt m a == ⟨0xFFFFFFFF, true⟩

/-- At least two copies of the state whose first marker is `a` are set. -/
def stateSet (m : FuseMem) (a : Nat) : Bool := decide (2 ≤ ([a, a + 1, a + 2].filter (markerSet m)).length)

/-- The life-cycle state (R123). -/
def lifeCycleOf (m : FuseMem) : LifeCycle :=
  if stateSet m 0x189 then .retired
  else if stateSet m 0x186 then .field
  else if stateSet m 0x183 then .integration
  else if stateSet m 0x180 then .vendor
  else .blank

/-- The number of a life-cycle state. -/
def LifeCycle.code : LifeCycle → Nat
  | .blank => 0
  | .vendor => 1
  | .integration => 2
  | .field => 3
  | .retired => 4

/-- The next state, none after RETIRED. -/
def LifeCycle.next : LifeCycle → Option LifeCycle
  | .blank => some .vendor
  | .vendor => some .integration
  | .integration => some .field
  | .field => some .retired
  | .retired => none

/-- RLOCK in force: in RETIRED every key region is read-locked (R132). -/
def State.rlocked (s : State) (r : Nat) : Bool :=
  rlockFuse s.fuse.image r || (decide (s.fuse.lifecycle = .retired) && decide (8 ≤ r))

/-- The serial number, from the image. -/
def State.serial (s : State) : BitVec 64 := fuseWord s.fuse.image 0x081 ++ fuseWord s.fuse.image 0x080

/-- The member parameter word, from the image. -/
def State.member (s : State) : DWord := fuseWord s.fuse.image 0x082

/-! ### Key slots (R152 to R158) -/

/-- The address of word `w` of slot `k` of pitch `p`. -/
def slotAddr (p k w : Nat) : Nat := 0x400 + 0x80 * p + 16 * k + w

/-- Some word of a slot is programmed; one that reads back blank does not count (R152; log entry 81). -/
def slotUsed (m : FuseMem) (p k : Nat) : Bool :=
  (List.range 16).any fun w => readFuse m (slotAddr p k w) != blankCell

/-- One more than the highest slot that holds any programmed word: the slot that KEY_ROLL writes next, 8 when none
remains. -/
def nextSlot (m : FuseMem) (p : Nat) : Nat :=
  (List.range 8).foldl (fun n k => if slotUsed m p k then k + 1 else n) 0

/-- The key of a slot (R647). -/
def slotKey (m : FuseMem) (p k : Nat) : BitVec 256 :=
  BitVec.ofNat 256 ((List.range 8).map fun w => (fuseWord m (slotAddr p k w)).toNat * 2 ^ (32 * w)).sum

/-- A slot is valid (R153); `margin` tells whether its validity word passes its margin read. -/
def slotValid (m : FuseMem) (serial : BitVec 64) (margin : Bool) (p k : Nat) : Bool :=
  let v := readFuse m (slotAddr p k 8)
  margin && v.ok && bits v.value 4 4 == 0xA && (List.range 8).all (fun w => (readFuse m (slotAddr p k w)).ok)
    && v.value == validityWord (slotKey m p k) serial p k

/-- The active slot of pitch `p`: the highest valid one (R153); `weak` lists the slots, as 8 p + k, whose validity word
fails its margin read. -/
def activeSlot (m : FuseMem) (serial : BitVec 64) (weak : List Nat) (p : Nat) : Option (Fin 8) :=
  ((List.finRange 8).filter fun k => slotValid m serial (!weak.contains (8 * p + k.val)) p k.val).getLast?

/-- The region of pitch `p` holds a valid slot (R153): as KEY_SLOT_SELECT found it, and before that as the array stands (log
entry 72). -/
def State.holdsValidSlot (s : State) (p : Pitch) : Bool :=
  if s.fuse.keysDone then s.fuse.keyActive[p].isSome
  else (activeSlot s.fuse.array s.serial s.fuse.weak p.val).isSome

/-- The provisioning slot of pitch `p`'s region (R158). -/
def State.provisionSlot (s : State) (p : Pitch) : Option Nat :=
  if s.holdsValidSlot p then none
  else
    let m := s.fuse.array
    let n := nextSlot m p.val
    if 0 < n ∧ readFuse m (slotAddr p.val (n - 1) 8) = blankCell then some (n - 1)
    else if n < 8 then some n else none

/-- Slots remaining (chapter 05, *Key slots*): 7 minus the highest used slot, 8 for an empty region. -/
def slotsLeft (m : FuseMem) (p : Nat) : Nat := 8 - nextSlot m p

/-- KEY_BUDGET_LOW of pitch `p` (R156). -/
def State.budgetLow (s : State) (p : Pitch) : Bool := decide (slotsLeft s.fuse.image p.val ≤ 2)

/-! ### Sensing (R124, R125) -/

/-- The mid-scale value of a trim word (R125). -/
def midScale (w : Nat) : DWord :=
  if w = 0 then 0x00088880
  else if w = 1 then 0x00000100
  else if w ≤ 7 then 0x00080000
  else if w ≤ 9 then 0x00080200
  else if w ≤ 13 then 0x80008000
  else 0x00000820

/-- A word of regions 0 to 2 fails its check, through redirection; only listed cells can fail. -/
def senseFails (m : FuseMem) : Bool :=
  m.any fun e => !e.2.ok &&
    if e.1 < 0x180 then resolveFuse m e.1 == e.1
    else if 2048 ≤ e.1 ∧ e.1 < 2064 then
      match redirRow m 0 with
      | some row => decide (row < 24)
      | none => false
    else false

/-- A configuration word as sensed: 0 where its check fails. -/
def sensedConfig (m : FuseMem) (a : Nat) : DWord := fuseWord m a

/-- A trim word as sensed. -/
def sensedTrim (m : FuseMem) (w : Nat) : DWord := if (readFuse m w).ok then (readFuse m w).value else midScale w

/-! ### Checks at the application epoch (R127, R134 to R140, R148, R158) -/

/-- The owner of a region. -/
def regionOwner (r : Nat) : Pitch := if r ≤ 8 then 0 else ⟨(r - 8) % 8, by omega⟩

/-- Argument word 3 [11:0]. -/
def Desc.fuseAddr (d : Desc) : Nat := bits d.w3 0 12

/-- The 32-bit value in words 4 and 5. -/
def Desc.fuseValue (d : Desc) : DWord := d.w5 ++ d.w4

/-- FUSE_READ for pitch `p` (R136 to R138, R148). -/
def State.fuseReadResult (s : State) (p : Pitch) (d : Desc) : Result :=
  let a := Desc.fuseAddr d
  let r := a / 128
  if 0x7FF < a ∨ (regionOwner r ≠ p ∧ r ≠ 1 ∧ r ≠ 3) then { status := stNoObject }
  else if s.rlocked r ∨ (8 ≤ r ∧ a % 16 < 8) then { status := stFuseLocked }
  else if bits d.w3 12 4 ≠ 0 ∨ d.tail4.any (· != 0) then { status := stInconsistent }
  else
    let c := readFuse s.fuse.image a
    if c.ok then { status := stOk, r0 := lo16 c.value, r1 := hi16 c.value } else { status := stFuseVerify }

/-- What FUSE_PROGRAM_WORD asks for, once its ownership check passes. -/
inductive FuseAsk where
  | plain (region : Nat)
  | provision (region : Nat)
  | keyWord
  | lock (region : Nat) (read : Bool)
  deriving DecidableEq, Repr

/-- The ownership check of FUSE_PROGRAM_WORD, the address check included (R138, R148, R158). -/
def State.fuseAsk (s : State) (p : Pitch) (a : Nat) : Option FuseAsk :=
  let r := a / 128
  if a ≤ 0x7FF then
    if r < 8 then (if p = 0 then some (.plain r) else none)
    else if p = 0 ∧ s.provisionSlot (⟨(r - 8) % 8, by omega⟩) = some (a / 16 % 8) ∧ a % 16 ≤ 8 then some (.provision r)
    else if regionOwner r = p then some .keyWord
    else none
  else if a ≤ 0x81F ∧ regionOwner (a % 16) = p then some (.lock (a % 16) (decide (0x810 ≤ a)))
  else none

/-- The life cycle permits what is asked (R127). -/
def FuseAsk.permitted (k : FuseAsk) (l : LifeCycle) : Bool :=
  match k with
  | .plain r => if r < 2 then decide (l = .vendor) else decide (l = .vendor ∨ l = .integration)
  | .provision _ => decide (l = .integration)
  | .keyWord => false
  | .lock _ _ => decide (l = .vendor ∨ l = .integration ∨ l = .field)

/-- WLOCK blocks it (R134, R138). -/
def FuseAsk.locked (k : FuseAsk) (m : FuseMem) : Bool :=
  match k with
  | .plain r => wlocked m r
  | .provision r => wlocked m r
  | _ => false

/-- The value check passes (R134, R139, R648). -/
def FuseAsk.valueOk (k : FuseAsk) (m : FuseMem) (a : Nat) (v : DWord) : Bool :=
  match k with
  | .lock _ _ => v == 1
  | _ => v != 0 && (readFuse m a).value &&& ~~~v == 0 && !isMarker a

/-- The application checks of FUSE_PROGRAM_WORD: ST_OK accepts it for its window (R140). -/
def State.fuseProgramCheck (s : State) (p : Pitch) (d : Desc) : Byte :=
  let a := Desc.fuseAddr d
  match s.fuseAsk p a with
  | none => stNoObject
  | some k =>
    if !k.permitted s.fuse.lifecycle then stLifecycle
    else if k.locked s.fuse.image then stFuseLocked
    else if bits d.w3 12 4 ≠ 0 ∨ d.w6 ≠ 0 ∨ d.w7 ≠ 0 ∨ !k.valueOk s.fuse.array a (Desc.fuseValue d) then stInconsistent
    else stOk

/-- The application checks of LIFECYCLE_ADVANCE, with the state it names (R128, R129; chapter 09 *Opcodes*). -/
def State.advanceCheck (s : State) (p : Pitch) (d : Desc) : Byte × Option LifeCycle :=
  if p ≠ 0 then (stNoObject, none)
  else
    match s.fuse.lifecycle.next with
    | none => (stLifecycle, none)
    | some l =>
      if d.w3 ≠ word l.code ∨ d.tail4.any (· != 0) ∨ (l = .field ∧ s.fuse.keyActive[(0 : Pitch)] = none) then
        (stInconsistent, none)
      else (stOk, some l)

/-- The life cycle permits KEY_ROLL. -/
def LifeCycle.rolls (l : LifeCycle) : Bool := decide (l = .integration ∨ l = .field)

/-- The application checks of KEY_ROLL (R649). -/
def State.rollCheck (s : State) (p : Pitch) (d : Desc) : Byte :=
  let r := 8 + p.val
  if !s.atSeeded then stSeedWait
  else if !s.fuse.lifecycle.rolls then stLifecycle
  else if wlocked s.fuse.image r ∨ s.rlocked r then stFuseLocked
  else if s.fuse.keyActive[p] = none ∨ d.w7 ≠ 0 then stInconsistent
  else if nextSlot s.fuse.array p.val = 8 then stKeyBudget
  else stOk

/-- An accepted operation joins those that wait (R141). -/
def State.fuseQueue (s : State) (a : Applied) (k : FuseKind) : State :=
  { s with fuse.ops := s.fuse.ops ++ [⟨a, k⟩] }

/-! ### The programmer (R143 to R151) -/

/-- DEGRADED of a region in copies A, B and C. -/
def degradeSteps (r : Nat) : List FuseStep :=
  [9, 10, 11].map fun w => ⟨mapCell w, BitVec.ofNat 32 (2 ^ r), .degraded⟩

/-- A lock bit in copies A, B and C. -/
def lockSteps (v : DWord) : List FuseStep := [6, 7, 8].map fun w => ⟨mapCell w, v, .lock⟩

/-- Redirection entry `k` naming `row`, in copies A, B and C. -/
def entrySteps (k row : Nat) : List FuseStep :=
  [0, 2, 4].map fun w => ⟨mapCell (w + k / 4), BitVec.ofNat 32 ((128 + row) * 2 ^ (8 * (k % 4))), .entry⟩

/-- The first marker of a life-cycle state. -/
def firstMarker : LifeCycle → Nat
  | .blank => 0x180
  | .vendor => 0x180
  | .integration => 0x183
  | .field => 0x186
  | .retired => 0x189

/-- The steps of an operation (R130, R131, R134, R135, R152); a roll's come once S_n is drawn. -/
def FuseKind.steps (k : FuseKind) (m : FuseMem) : List FuseStep :=
  match k with
  | .word a v =>
    let n := a.toNat
    if n < 0x800 then [⟨resolveFuse m n, v, .word⟩]
    else
      let b := n % 16 + (if n < 0x810 then 0 else 16)
      if bit (mapWord m 6 1) b then [] else lockSteps (BitVec.ofNat 32 (2 ^ b))
  | .lifeCycle l =>
    let f := firstMarker l
    (if l = .retired then lockSteps 0xFF000000 else []) ++ [f, f + 1, f + 2].map fun a => ⟨a, 0xFFFFFFFF, .marker⟩
  | .keyRoll _ => []

/-- The region an operation acts on. -/
def FuseOp.region (o : FuseOp) : Nat :=
  match o.kind with
  | .word a _ => if a.toNat < 0x800 then a.toNat / 128 else a.toNat % 16
  | .lifeCycle _ => 3
  | .keyRoll _ => 8 + o.what.cmd.pitch.val

/-- The run ends with a status, or with the outcome its steps left. -/
def FuseRun.stop (r : FuseRun) (status : Byte) : FuseRun := { r with phase := .ended, status := status, steps := [] }

/-- Pulses of R661 count for the named word and for a lock. -/
def StepRole.counts : StepRole → Bool
  | .word | .spare | .lock => true
  | _ => false

/-- The first pulse of the step at the head is applied, or the operation has ended. -/
def FuseRun.begin (r : FuseRun) (m : FuseMem) : FuseRun :=
  match r.steps with
  | [] =>
    let status := match r.op.kind with
      | .lifeCycle l => if stateSet m (firstMarker l) then stOk else stFuseVerify
      | _ => r.status
    { r with phase := .ended, status := status }
  | x :: _ => { r with phase := .pulsing, pulses := 1, used := if x.role.counts then 1 else r.used }

/-- Redirection of the row of a main cell to its region's spare: the copies, the failed word, the entry, and the rest of the
operation with that row's cells moved to the spare; an unreadable word ends it in DEGRADED, the words below it having been copied (R149, R151;
log entry 80). -/
def FuseRun.redirect (r : FuseRun) (m : FuseMem) (x : FuseStep) (rest : List FuseStep) : FuseRun :=
  let row := x.cell / 16
  let k := spareOf (rowRegion row)
  let others := (List.range 16).filter fun w => w != x.cell % 16 && fuseAt m (16 * row + w) != blankCell
  let good := others.takeWhile fun w => (fuseAt m (16 * row + w)).ok
  let copies : List FuseStep := good.map fun w => ⟨spareCell k w, (fuseAt m (16 * row + w)).value, .copy⟩
  if good.length = others.length then
    let moved := rest.map fun y => if y.cell / 16 = row then { y with cell := spareCell k (y.cell % 16) } else y
    { r with steps := copies ++ [⟨spareCell k (x.cell % 16), x.value, .spare⟩] ++ entrySteps k row ++ moved, mapFails := 0 }
  else { r with steps := copies ++ degradeSteps (rowRegion row), status := stFuseVerify }

/-- The step at the head has ended, passing or failing after its fourth pulse (R149, R151, R161). A lock copy that fails during an advance to
RETIRED leaves the markers' verdict as it is (log entry 79). -/
def FuseRun.stepDone (r : FuseRun) (m : FuseMem) (x : FuseStep) (rest : List FuseStep) (pass : Bool) : FuseRun :=
  let degrade : FuseRun := { r with steps := degradeSteps r.op.region, status := stFuseVerify }
  let go : FuseRun := { r with steps := rest }
  match x.role with
  | .word =>
    if pass then go
    else if x.cell < 2048 ∧ spareFree m (spareOf (rowRegion (x.cell / 16))) then r.redirect m x rest
    else degrade
  | .copy => if pass then go else degrade
  | .spare => if pass then go else degrade
  | .entry | .lock =>
    let fails := r.mapFails + bit01 (!pass)
    let last := rest.head?.all fun y => decide (y.role ≠ x.role)
    if !last then { go with mapFails := fails }
    else
      let g := { go with mapFails := 0 }
      match x.role, r.op.kind with
      | .entry, _ => if 2 ≤ fails then degrade else { g with redirected := true }
      | _, .word _ _ => if 2 ≤ fails then degrade else g
      | _, _ => g
  | .marker | .degraded => go

/-- The rolled key's steps: key words 0 to 7, then the validity word (R152). -/
def rollSteps (m : FuseMem) (serial : BitVec 64) (key : BitVec 256) (p k : Nat) : List FuseStep :=
  ((List.range 8).map fun w => ⟨resolveFuse m (slotAddr p k w), (key >>> (32 * w)).setWidth 32, .word⟩)
    ++ [⟨resolveFuse m (slotAddr p k 8), validityWord key serial p k, .word⟩]

/-- A run changed. -/
def State.setRun (s : State) (r : FuseRun) : State := { s with fuse.run := some r }

/-- The CTR_DRBG's update with 48 bytes of provided data (SP 800-90A; R266). -/
def Drbg.update (d : Drbg) (data : List Byte) : Drbg :=
  let block (k : Nat) : List Byte := aes256 (keyBytes d.key) (bytesOf 16 (d.v + BitVec.ofNat 128 k).toNat)
  let temp := xorBytes (block 1 ++ block 2 ++ block 3) data
  { key := BitVec.ofNat 256 (natOfBytes (temp.take 32)), v := BitVec.ofNat 128 (natOfBytes (temp.drop 32)) }

/-- An instance seeded from seed material, or a seeded one reseeded from it (R266). -/
def Drbg.seed (d : Option Drbg) (material : List Byte) : Drbg := (d.getD ⟨0, 0⟩).update (ctrDf material)

/-- 128 bits generated without additional input, and the instance after them. -/
def Drbg.generate (d : Drbg) : Drbg × BitVec 128 :=
  let v := d.v + 1
  ({ d with v := v }.update (List.replicate 48 0), BitVec.ofNat 128 (natOfBytes (aes256 (keyBytes d.key) (bytesOf 16 v.toNat))))

/-- One draw of the DRBG (R266, R276). Every draw is made behind SEEDED, where an instance stands; without one the answer is 0 (log entry
6). -/
def State.draw (s : State) : State × BitVec 128 :=
  match s.pit.drbg with
  | some d => ({ s with pit.drbg := some d.generate.1 }, d.generate.2)
  | none => (s, 0)

/-- A roll is checked again, draws S_n and derives its key (R276, R649). -/
def State.rollStart (s : State) (r : FuseRun) (sp : BitVec 64) : State :=
  let p := r.op.what.cmd.pitch
  let m := s.fuse.array
  let k := nextSlot m p.val
  if !s.atSeeded then s.setRun (r.stop stSeedWait)
  else if wlocked s.fuse.image (8 + p.val) ∨ s.rlocked (8 + p.val) then s.setRun (r.stop stFuseLocked)
  else
    match s.fuse.keyActive[p] with
    | none => s.setRun (r.stop stInconsistent)
    | some a =>
      if k = 8 then s.setRun (r.stop stKeyBudget)
      else
        let (s, d) := s.draw
        let sn : BitVec 64 := d.extractLsb' 64 64
        let key := rolledKey (slotKey s.fuse.image p.val a.val) s.serial p.val k sp sn
        s.setRun ({ r with salt := some sn, steps := rollSteps m s.serial key p.val k }.begin m)

/-- The word in progress is left partly programmed (R146); which of its bits are set is the model's choice (log entry 76). -/
def State.leavePartial (s : State) : State :=
  match s.fuse.run with
  | some r =>
    match r.phase, r.steps with
    | .pulsing, x :: _ =>
      if x.cell < 2176 then
        { s with fuse.array := fusePut s.fuse.array x.cell ⟨(fuseAt s.fuse.array x.cell).value ||| x.value, false⟩ }
      else s
    | _, _ => s
  | none => s

/-- Pulsing stops at once and the operation completes with ST_FUSE_SUPPLY (R146, R588). -/
def State.fuseStop (s : State) : State :=
  match s.fuse.run with
  | some r => if r.phase = .ended then s else s.leavePartial.setRun (r.stop stFuseSupply)
  | none => s

/-! ### Rows -/

/-- The first waiting operation of pitch `p`, and the rest. -/
def takeOp (p : Pitch) : List FuseOp → Option (FuseOp × List FuseOp)
  | [] => none
  | o :: r => if o.what.cmd.pitch = p then some (o, r) else (takeOp p r).map fun (x, l) => (x, o :: l)

/-- FUSE_WINDOW_START: pitch `p`'s window starts with its first waiting operation (R141, R143), the setting of a lock
that is set already among them (log entry 77). -/
def execFuseWindowStart (p : Pitch) (s : State) : Host.Outcome State Fault Refusal :=
  if s.bell.epoch.toNat % 16 = 2 * p.val ∧ s.fuse.run = none then
    match takeOp p s.fuse.ops with
    | some (o, rest) =>
      let s := { s with fuse.ops := rest }
      let r : FuseRun := { op := o, bell := s.bell.bellNo, phase := .supply, steps := [] }
      if !s.supplyOk ∨ s.dev.closed then .next (s.setRun (r.stop stFuseSupply)) else .next (s.setRun r)
    | none => .next s
  else .next s

/-- FUSE_SUPPLY_TIMEOUT: the programming supply has not settled within 100 us (R144). -/
def execFuseSupplyTimeout (s : State) : Host.Outcome State Fault Refusal :=
  match s.fuse.run with
  | some r => if r.phase = .supply then .next (s.setRun (r.stop stFuseSupply)) else .next s
  | none => .next s

/-- PROGRAMMING_SUPPLY_SETTLED: the first pulse is applied (R145); a roll is checked again and draws S_n first (R649,
R276). -/
def execProgrammingSupplySettled (s : State) : Host.Outcome State Fault Refusal :=
  match s.fuse.run with
  | some r =>
    if r.phase = .supply then
      match r.op.kind with
      | .keyRoll sp => .next (s.rollStart r sp)
      | k => .next (s.setRun ({ r with steps := k.steps s.fuse.array }.begin s.fuse.array))
    else .next s
  | none => .next s

/-- FUSE_PULSE_END: a pulse and its margin read end: the word passes, is pulsed again, or has failed (R145). A map-row word
has no check, and its field alone is read. -/
def execFusePulseEnd (readback : DWord) (checkOk : Bool) (s : State) : Host.Outcome State Fault Refusal :=
  match s.fuse.run with
  | some r =>
    match r.phase, r.steps with
    | .pulsing, x :: rest =>
      let map := decide (2176 ≤ x.cell)
      let pass := if map then readback &&& x.value == x.value else checkOk && readback == x.value
      let old := fuseAt s.fuse.array x.cell
      let new : FuseCell := if map then ⟨old.value ||| (readback &&& x.value), true⟩ else ⟨readback, checkOk⟩
      let m := fusePut s.fuse.array x.cell new
      let s := { s with fuse.array := m }
      if !pass ∧ r.pulses < 4 then
        .next (s.setRun { r with pulses := r.pulses + 1, used := if x.role.counts then r.pulses + 1 else r.used })
      else .next (s.setRun ((r.stepDone m x rest pass).begin m))
    | _, _ => .next s
  | none => .next s

/-- FUSE_ABORT: line or die leaves its window (R146). -/
def execFuseAbort (s : State) : Host.Outcome State Fault Refusal := .next s.fuseStop

/-! ### Completion at S + 2 (R141, R147, R155, R159) -/

/-- What the completion of a run carries; the spares left join it when it is posted (R661). -/
def FuseRun.result (r : FuseRun) : Result :=
  match r.op.kind with
  | .word _ _ => { status := r.status, r0 := word (r.used + bit01 r.redirected * 8) }
  | .lifeCycle _ => { status := r.status }
  | .keyRoll _ =>
    match r.salt with
    | some x =>
      { status := r.status, r0 := x.extractLsb' 48 16, r1 := x.extractLsb' 32 16, r2 := x.extractLsb' 16 16,
        r3 := x.extractLsb' 0 16 }
    | none => { status := r.status }

/-- The active slot of pitch `p` is selected again, its slot `k` having just been written: the margin read of that slot's validity word
has passed (R145), and the other slots keep the verdict of their last margin read (R153). -/
def Fuses.select (x : Fuses) (serial : BitVec 64) (p : Pitch) (k : Nat) : Fuses :=
  let weak := x.weak.filter fun i => i != 8 * p.val + k
  { x with weak := weak, keyActive := vset x.keyActive p (activeSlot x.image serial weak p.val) }

/-- The image follows the array (R147), locks take force (R135) and the sessions they end are dropped (R273), and active
slots are selected again (R155, R159). -/
def State.fuseRefresh (s : State) (r : FuseRun) : State :=
  let before := pitchIxs.map fun p => s.rlocked (8 + p.val)
  let s := { s with fuse.image := s.fuse.array, fuse.lifecycle := lifeCycleOf s.fuse.array }
  let s := match r.op.kind with
    | .keyRoll _ =>
      if r.status = stOk then
        let p := r.op.what.cmd.pitch
        { s with fuse := s.fuse.select s.serial p (nextSlot s.fuse.image p.val - 1) }
      else s
    | .word a _ =>
      if 0x400 ≤ a.toNat ∧ a.toNat < 0x800 ∧ a.toNat % 16 = 8 then
        let p : Pitch := ⟨(a.toNat / 128 - 8) % 8, by omega⟩
        { s with fuse := s.fuse.select s.serial p (a.toNat / 16 % 8) }
      else s
    | _ => s
  s.eachPitch fun s p =>
    if s.rlocked (8 + p.val) && !before.getD p.val true then
      { s with
        pit.session := vset s.pit.session p none
        pit.sessionNext := vset s.pit.sessionNext p none }
    else s

end Sys2Proof.Machine
end

