-- ==== Sys2Proof/Machine/Lane.lean ====
section
/-! DEFINITION. The shared operations on a motor lane: gate levels with dead time and the minimum-pulse filter, safe levels
and the fault latch, stopping and starting, commutation, the carrier period (chapters 10 to 13). -/

namespace Sys2Proof.Machine

/-! ### Gate levels (R340 to R343) -/

/-- What times the edges of a lane: DEAD, MINPULSE, MP_ACT, and the tick since which its counters run on WATCH. -/
structure EdgeRule where
  dead : Nat
  minPulse : Nat
  stretch : Bool
  watch : Option Ticks

/-- The tick in which an edge programmed for tick `d` is placed: during run-through the first WATCH cycle, 4 ticks long, whose count
reaches or passes it (R95; log entry 55). -/
def EdgeRule.at (r : EdgeRule) (d : Ticks) : Ticks :=
  match r.watch with
  | none => d
  | some w => w + (d - w + 3) / 4 * 4

/-- The edges of a lane's carrier. -/
def LaneCarrier.edges (x : LaneCarrier) : EdgeRule :=
  { dead := x.set.live.dead
    minPulse := x.set.live.minPulse
    stretch := x.set.live.stretch
    watch := if x.runThrough then some x.watchAt else none }

/-- The other side of a half-bridge. -/
def Side.other : Side → Side
  | .high => .low
  | .low => .high

/-- The gate level of a side. -/
def HalfBridge.level (b : HalfBridge) : Side → Bool
  | .high => b.high
  | .low => b.low

/-- When the gate of a side last went on. -/
def HalfBridge.since (b : HalfBridge) : Side → Option Ticks
  | .high => b.highOn
  | .low => b.lowOn

/-- When a side was last wanted, its stretch included. -/
def HalfBridge.offOf (b : HalfBridge) : Side → Ticks
  | .high => b.highOff
  | .low => b.lowOff

/-- A side's gate is commanded on, behind the filter. -/
def HalfBridge.commanded (b : HalfBridge) (side : Side) : Bool := decide (b.cmd = some side) && b.level side

/-- All gates of the half-bridge are at their off level. -/
def HalfBridge.isOff (b : HalfBridge) : Bool := !b.high && !b.low

/-- A side's gate goes on at `u`. -/
def HalfBridge.turnOn (u : Ticks) (side : Side) (b : HalfBridge) : HalfBridge :=
  match side with
  | .high => { b with high := true, low := false, highOn := some u, young := none, late := none }
  | .low => { b with low := true, high := false, lowOn := some u, young := none, late := none }

/-- A side's gate goes off at `t`. -/
def HalfBridge.turnOff (t : Ticks) (side : Side) (b : HalfBridge) : HalfBridge :=
  match side with
  | .high => { b with high := false, offAt := max b.offAt t, late := none }
  | .low => { b with low := false, offAt := max b.offAt t, late := none }

/-- A side is wanted no longer from `t` on; the other side's dead time runs from there (R340, R342). -/
def HalfBridge.leave (t : Ticks) (side : Side) (b : HalfBridge) : HalfBridge :=
  match side with
  | .high => { b with highOff := t, young := none }
  | .low => { b with lowOff := t, young := none }

/-- A stretched pulse that has lasted MINPULSE ticks by `t` ends (R341). -/
def HalfBridge.endLate (t : Ticks) (b : HalfBridge) : HalfBridge :=
  match b.late with
  | some side => if b.offOf side ≤ t then b.turnOff (b.offOf side) side else b
  | none => b

/-- The tick in which a pulse that began at `u` shows, where DROP holds it back until it has lasted MINPULSE ticks. -/
def EdgeRule.shows (r : EdgeRule) (u : Ticks) : Ticks := r.at (u + r.minPulse)

/-- What the filter does by `t` without a new command: a stretched pulse that has lasted MINPULSE ticks ends, and one that DROP held
back shows once it has lasted so long (R341, log entry 33). -/
def HalfBridge.settle (r : EdgeRule) (t : Ticks) (b : HalfBridge) : HalfBridge :=
  let b := b.endLate t
  match b.young, b.cmd with
  | some u, some side => if r.shows u ≤ t then b.turnOn (r.shows u) side else b
  | _, _ => b

/-- The wanted side is wanted no longer at `t`: a pulse of 1 to MINPULSE - 1 ticks is removed or stretched, and counts; what has shown of
a pulse that DROP let through is not removed (R341 to R343, log entry 33). -/
def HalfBridge.endSide (r : EdgeRule) (t : Ticks) (side : Side) (b : HalfBridge) : HalfBridge × Nat :=
  let short (u : Ticks) : Bool := decide (u < t ∧ t < u + r.minPulse)
  match b.young with
  | some u =>
    if u < t ∧ u + r.minPulse ≤ t then (((b.turnOn t side).turnOff t side).leave t side, 0)
    else (b.leave t side, bit01 (short u))
  | none =>
    if b.level side then
      if r.stretch && (b.since side).any short then
        ({ b.leave (r.at (((b.since side).getD t) + r.minPulse)) side with late := some side }, 1)
      else ((b.turnOff t side).leave t side, 0)
    else (b.leave t side, 0)

/-- The side wanted so far, if any, is wanted no longer at `t`. -/
def HalfBridge.endWanted (r : EdgeRule) (t : Ticks) (b : HalfBridge) : HalfBridge × Nat :=
  match b.cmd with
  | some side => b.endSide r t side
  | none => (b, 0)

/-- DROP lets a pulse that begins at `t` through at once: its end is known, and it lasts MINPULSE ticks or more (R341). -/
def EdgeRule.lets (r : EdgeRule) (t : Ticks) (plan : Option Ticks) : Bool :=
  r.stretch || decide (r.minPulse ≤ 1) || plan.any fun e => decide (t + r.minPulse ≤ e)

/-- A side's pulse begins at `t`, unless it is known to have ended by then. With DROP a pulse whose end is not known, or is too near, is
held back until it has lasted MINPULSE ticks (R341, log entry 33); a side that STRETCH still keeps on goes on. -/
def HalfBridge.start (r : EdgeRule) (t : Ticks) (plan : Option Ticks) (side : Side) (b : HalfBridge) : HalfBridge :=
  let b := { b with wait := none }
  if plan.any fun e => decide (e ≤ t) then b
  else if b.late = some side then { b with late := none }
  else if r.lets t plan then b.turnOn t side
  else { b with young := some t }

/-- The instant from which a side may be on: DEAD ticks after the other side's end (R340), and not before `extra`. -/
def HalfBridge.readyAt (r : EdgeRule) (extra : Ticks) (side : Side) (b : HalfBridge) : Ticks :=
  r.at (max (b.offOf side.other + r.dead) extra)

/-- The half-bridge is driven to the wanted side: a turn-off at once, a turn-on after its dead time. The count is that of pulses
removed or stretched. -/
def HalfBridge.drive (r : EdgeRule) (t extra : Ticks) (plan : Option Ticks) (want : Option Side) (b : HalfBridge) :
    HalfBridge × Nat :=
  let b := b.settle r t
  if want = b.cmd then (b, 0)
  else
    let x := b.endWanted r t
    let b := { x.1 with cmd := want, wait := none }
    match want with
    | none => (b, x.2)
    | some side => if b.readyAt r extra side ≤ t then (b.start r t plan side, x.2) else ({ b with wait := some side }, x.2)

/-- Both sides off at once, whatever the filter. -/
def HalfBridge.off (t : Ticks) (b : HalfBridge) : HalfBridge :=
  { b with
    high := false
    low := false
    highOff := if b.cmd = some .high ∨ b.late = some .high then t else b.highOff
    lowOff := if b.cmd = some .low ∨ b.late = some .low then t else b.lowOff
    offAt := if b.isOff then b.offAt else max b.offAt t
    cmd := none
    wait := none
    young := none
    late := none }

/-! ### What a lane's output chain wants (chapter 10, *The output path*) -/

/-- The length of an on-phase in ticks but for a trip: the compare value in EDGE, T_ON in COT_ON, PERIOD_MAX - T_OFF in COT_OFF (R336,
R339). -/
def CarrierSet.onLimit (c : CarrierSet) : Nat :=
  match c.mode with
  | 0 => c.edgeOn
  | 1 => c.tOn.toNat
  | _ => c.periodMax.toNat - c.tOff.toNat

/-- The length of this period's on-phase but for a trip: a probe lengthens it to MEAS_MIN (R486). -/
def LaneCarrier.onTicks (x : LaneCarrier) : Nat :=
  let k := x.set.live.onLimit
  if x.probe ∧ k ≠ 0 then max k Config.measMin else k

/-- The known end of the pulse of a PWM phase's side. -/
def LaneCarrier.plannedEnd (x : LaneCarrier) (side : Side) : Option Ticks :=
  let c := x.set.live
  let at_ (d : Ticks) : Option Ticks := some (x.edges.at d)
  match side, c.mode with
  | .high, 0 => if c.edgeOn < c.period.toNat then at_ (x.periodStart + x.onTicks) else none
  | .high, _ => at_ (x.periodStart + x.onTicks)
  | .low, 0 => if c.edgeOn = 0 then none else at_ (x.periodStart + c.period.toNat)
  | .low, 2 => at_ (max (x.phaseEnd + c.tOff.toNat) (x.periodStart + c.periodMin.toNat))
  | _, _ => none

/-- The active mask row. -/
def LaneCarrier.rowWord (x : LaneCarrier) : Word := x.mask.live.rows[x.row]

/-- The side that the mask and the carrier want of phase `k` (R333, R334). -/
def LaneCarrier.maskWant (x : LaneCarrier) (k : PhaseIx) : Option Side :=
  match rowState x.rowWord k with
  | 0 => none
  | 1 => some .low
  | 2 => some .high
  | _ => if x.onPhase then some .high else some .low

/-- The side that PULSE_n and EN_n want in PIN mode (R459), none under a trip hold (R462). -/
def HalfBridge.pinWant (b : HalfBridge) : Option Side :=
  if b.tripHold || !b.en then none else if b.pulse then some .high else some .low

/-- The lane follows its mask: ALIGN, RAMP, HANDOVER, RUN, or a RAMP stop. -/
def Lane.commutating (l : Lane) : Bool :=
  match l.com.state with
  | .align | .ramp | .handover | .run => true
  | .stopping => l.com.stopping.any fun x => x.mode == .ramp
  | _ => false

/-- The side wanted of phase `k` of lane `n`, after every override (chapter 10, *Lane output chain*; R166, R361, R467,
R569). -/
def State.want (s : State) (n : LaneIx) (k : PhaseIx) : Option Side :=
  let l := s.ln n
  if !s.pwr.vgdOk || !s.atJoined || l.gate.waiting then none
  else if s.forced n then (if safeLow l.car.policy k then some .low else none)
  else if l.commutating then l.car.maskWant k
  else
    match l.com.state, l.com.stopping with
    | .stopping, some st =>
      if st.mode = .brake ∧ (st.heat = false ∨ safeLow l.car.policy k) then some .low else none
    | .stopped, _ =>
      if l.pin && !s.thermalStop n then l.car.bridges[k].pinWant else none
    | _, _ => none

/-- The extra wait of a low side: 100 ns and DEAD ticks after safe levels are forced (R361), DEAD ticks after a
BRAKE began (R442, R565). -/
def State.extraWait (s : State) (n : LaneIx) : Ticks :=
  let l := s.ln n
  let dead := l.car.set.live.dead
  if s.forced n then l.latch.forcedAt + max 16 dead
  else
    match l.com.stopping with
    | some st => if st.mode = .brake then st.since + dead else 0
    | none => 0

/-- Phase `k` follows the mask in its PWM state. -/
def State.pwmPhase (s : State) (n : LaneIx) (k : PhaseIx) : Bool :=
  let l := s.ln n
  l.commutating && !s.forced n && rowState l.car.rowWord k == 3

/-- The known end of the pulse that phase `k` would start on a side. -/
def State.planFor (s : State) (n : LaneIx) (k : PhaseIx) (want : Option Side) : Option Ticks :=
  match want with
  | some side => if s.pwmPhase n k then (s.ln n).car.plannedEnd side else none
  | none => none

/-- A new high-side turn-on blanks PEAK, OC and UC (R381): none of them counts as asserted until it asserts again
(log entry 20). -/
def LaneSense.unassert (x : LaneSense) : LaneSense := { x with peak := false, oc := false, uc := false }

/-- The high side of the half-bridge has gone on since it stood as `old`. -/
def HalfBridge.newHigh (old b : HalfBridge) : Bool := (b.since .high).any fun u => (old.since .high).all (· < u)

/-- Half-bridges replaced, with the pulses that the filter acted on counted (R343), and the comparators unasserted
at a new high-side turn-on; a PIN-mode lane with a gate on has run in this bell, a pulse that DROP still holds back not counting
(R571). -/
def Lane.setBridges (l : Lane) (bs : Vector HalfBridge 3) (filtered : Nat) : Lane :=
  let newHigh := phaseIxs.any fun k => HalfBridge.newHigh l.car.bridges[k] bs[k]
  let on := (phaseIxs.any fun k => !bs[k].isOff || !l.car.bridges[k].isOff)
  { l with
    car.bridges := bs
    car.mpCount := satNat 16 (l.car.mpCount.toNat + filtered)
    sense := if newHigh then l.sense.unassert else l.sense
    heat.ran := l.heat.ran || (l.pin && on) }

/-- The edges of lane `n`: safe levels replace the filter's output, so no pulse of theirs is filtered (chapter 10, *Lane output
chain*). -/
def State.edges (s : State) (n : LaneIx) : EdgeRule :=
  let r := (s.ln n).car.edges
  if s.forced n then { r with minPulse := 0 } else r

/-- Lane `n`'s gates follow what the lane now wants. -/
def State.drive (s : State) (n : LaneIx) (t : Ticks) : State :=
  let l := s.ln n
  let d (k : PhaseIx) : HalfBridge × Nat :=
    let w := s.want n k
    l.car.bridges[k].drive (s.edges n) t (s.extraWait n) (s.planFor n k w) w
  s.setLn n (l.setBridges (Vector.ofFn fun k => (d k).1) ((phaseIxs.map fun k => (d k).2).sum))

/-- Every gate of lane `n` off at once. -/
def State.gatesOff (s : State) (n : LaneIx) (t : Ticks) : State :=
  s.modLn n fun l => l.setBridges (vmap (HalfBridge.off t) l.car.bridges) 0

/-! ### Reports of a lane's state -/

/-- The lane's commutation state changes (LANE packet kind 0x5). -/
def State.laneState (s : State) (n : LaneIx) (st : LaneState) : State :=
  if (s.ln n).com.state = st then s
  else (s.modLn n fun l => { l with com.state := st }).traceLane n 5 st.code (s.ln n).com.speedMeas

/-- A start in progress ends with an outcome (R427). -/
def State.endStart (s : State) (n : LaneIx) (outcome : Word) : State :=
  let l := s.ln n
  match l.ops.start with
  | some a =>
    (s.modLn n fun l => { l with ops.start := none }).finish a stOk outcome (word l.com.restarts.toNat) 0
      l.com.speedMeas
  | none => s

/-- The limit in force changes (R388, R389). -/
def Lane.takeLimit (l : Lane) : Lane := { l with sense.ilimEff := l.sense.limitNow }

/-- ILIM_TH or ILIM_FR changed: a stopped lane has no carrier boundary and takes its limit at once (log entry 21). -/
def Lane.limitsChanged (l : Lane) : Lane := if l.running then l else l.takeLimit

/-- One tick of the task input: a WATCH cycle during run-through (chapter 10, *Events in the same tick*). -/
def LaneCarrier.taskTick (x : LaneCarrier) : Ticks := if x.runThrough then 4 else 1

/-- A fault latch, or a gate fault that ranks as one, at the task input at `t`: the other events of its tick are discarded, those `due` in
it that are still to come too, and the input is taken (R371, R372, R466). -/
def LaneCarrier.atLatch (t : Ticks) (due : List TaskEvent) (x : LaneCarrier) : LaneCarrier :=
  let g := x.edges.at t
  { x with
    latchTick := some g
    latchDue := due
    taskFree := max x.taskFree (g + x.taskTick)
    waiting := x.waiting.filter fun w => decide (w.tick ≠ g) }

/-- A commutation event of one of the four kinds. -/
def TaskEvent.isRow : TaskEvent → Bool
  | .commutation | .missed | .alignEnd | .profileStep => true
  | _ => false

/-- The commutation events that wait belong to a course of the lane that has ended: they wait no more. -/
def LaneCarrier.dropRows (x : LaneCarrier) : LaneCarrier := { x with waiting := x.waiting.filter fun w => !w.event.isRow }

/-! ### Sources of ROUTE (chapter 11, *Routing*) -/

/-- Source `i` of ROUTE asserts now: 0 PEAK, 1 OC, 2 UC, 3 FLT_0_N, 4 FLT_1_N. -/
def State.asserts (s : State) (n : LaneIx) (i : Nat) : Bool :=
  let x := (s.ln n).sense
  match i with
  | 0 => x.peak
  | 1 => x.oc
  | 2 => x.uc
  | 3 => s.ana.flt0
  | _ => s.ana.flt1

/-- The `LATCH_SRC` of source `i` (chapter 11, *Latch source indices*). -/
def sourceCode (i : Nat) : Byte :=
  match i with
  | 0 => 0x10
  | 1 => 0x12
  | 2 => 0x13
  | 3 => 0x20
  | _ => 0x30

/-- Source `i` acts as a TRIP of lane `n`: routed so, or PEAK with route OFF in COT_OFF (R384, R385). -/
def Lane.trips (l : Lane) (i : Nat) : Bool :=
  let r := l.sense.set.live.routeOf i
  r == 1 || (i == 0 && r == 0 && l.car.set.live.mode == 2)

/-! ### When an event is due -/

/-- The period in progress may end at `t` (R336). -/
def Lane.boundaryDue (l : Lane) (t : Ticks) : Bool :=
  let x := l.car
  let c := x.set.live
  let due (d : Ticks) : Bool := decide (x.edges.at d ≤ t)
  l.running &&
    match c.mode with
    | 0 => due (x.periodStart + c.period.toNat)
    | 1 => !x.onPhase && due (x.periodStart + c.periodMin.toNat) && (x.valley || due (x.periodStart + c.periodMax.toNat))
    | _ => !x.onPhase && due (x.phaseEnd + c.tOff.toNat) && due (x.periodStart + c.periodMin.toNat)

/-- The lane watches for crossings: RAMP, HANDOVER, RUN or a RAMP stop. -/
def Lane.watching (l : Lane) : Bool := l.commutating && decide (l.com.state ≠ .align)

/-- The lane runs in closed loop: RUN or a RAMP stop. -/
def Lane.closedLoop (l : Lane) : Bool := decide (l.com.state = .run ∨ l.com.state = .stopping)

/-- The interval between commutations in RUN after a crossing: T60 x (30 - ADVANCE) / 60 (R417). -/
def LaneCommut.commDelay (x : LaneCommut) : Ticks := x.t60 * (30 - x.set.live.advanceDeg) / 60

/-- A crossing's commutation is due at `t` (R417). -/
def LaneCommut.commDue (x : LaneCommut) (t : Ticks) : Bool :=
  match x.lastCross with
  | some p => x.crossed && decide (p + x.commDelay ≤ t)
  | none => false

/-- COMMUTATION is due: in closed loop, or after the sixth consistent crossing (R417, R424). -/
def Lane.commutationDue (l : Lane) (t : Ticks) : Bool :=
  l.watching && l.com.commDue t && (l.closedLoop || decide (6 ≤ l.com.consistent))

/-- MISSED_CROSSING is due: STALL_FACTOR x T60 has passed since the last crossing, seen or counted missing (R437). -/
def Lane.missDue (l : Lane) (t : Ticks) : Bool :=
  l.watching && l.closedLoop && decide (2 * l.com.lastSeen + l.com.set.live.stallHalves * l.com.t60 ≤ 2 * t)

/-- ALIGN_END is due: ALIGN_TIME has passed (R421). -/
def Lane.alignEndDue (l : Lane) (t : Ticks) : Bool :=
  decide (l.com.state = .align) && decide (l.com.rowStart + bits l.com.profile.alignTime 0 8 * Config.ticksPerMs ≤ t)

/-- PROFILE_STEP is due: the interval of an open-loop step has passed (R422, R425). -/
def Lane.stepDue (l : Lane) (t : Ticks) : Bool :=
  decide (l.com.state = .ramp ∨ l.com.state = .handover) && decide (l.com.consistent < 6)
    && decide (l.com.rowStart + l.com.stepTicks ≤ t)

/-- The events due at the task input of lane `n` at `t`. -/
def State.tasksDue (s : State) (n : LaneIx) (t : Ticks) : List TaskEvent :=
  let l := s.ln n
  let add (due : Bool) (e : TaskEvent) : List TaskEvent := if due then [e] else []
  (([0, 1, 2, 3, 4] : List (Fin 5)).flatMap fun i => add (l.car.onPhase && s.asserts n i.val && l.trips i.val) (.trip i))
    ++ add (l.commutationDue t) .commutation ++ add (l.missDue t) .missed ++ add (l.alignEndDue t) .alignEnd
    ++ add (l.stepDue t) .profileStep ++ add (l.boundaryDue t) .boundary

/-- A fault latch, or a gate fault that ranks as one, reaches the task input of lane `n` at `t` (R371, R466). -/
def State.latchTask (s : State) (n : LaneIx) (t : Ticks) : State :=
  let due := s.tasksDue n ((s.ln n).car.edges.at t)
  s.modLn n fun l => { l with car := l.car.atLatch t due }

/-! ### Trips and holds of PIN mode -/

/-- A trip by source `i`: counted, traced, and a PEAK trip shows current (R485, R488). -/
def State.countTrip (s : State) (n : LaneIx) (i : Nat) : State :=
  let s := s.modLn n fun l =>
    { l with
      sense.tripCount := satInc l.sense.tripCount
      gate.rowCurrent := l.gate.rowCurrent || i == 0
      gate.rowMeasured := l.gate.rowMeasured
      gate.periodSeen := l.gate.periodSeen || i == 0 }
  (s.count 0x01 n.val).traceLane n 3 (sourceCode i).toNat 0

/-- The first source that trips lane `n` while it asserts: a fault pin (R386); a comparator is blanked at first
(R381). -/
def State.pinTrip (s : State) (n : LaneIx) : Option Nat :=
  [3, 4].find? fun i => s.asserts n i && (s.ln n).trips i

/-- In PIN mode, a high side about to turn on while a fault pin routed to TRIP asserts is held off at once, and counts a trip
(R462). -/
def State.pinGuard (s : State) (n : LaneIx) : State :=
  let starts (k : PhaseIx) : Bool := decide (s.want n k = some .high ∧ (s.ln n).car.bridges[k].cmd ≠ some .high)
  match s.pinTrip n with
  | some i =>
    if (s.ln n).pin ∧ !(s.ln n).running ∧ phaseIxs.any starts then
      (s.countTrip n i).modLn n fun l =>
        { l with car.bridges := Vector.ofFn fun k =>
            { l.car.bridges[k] with tripHold := l.car.bridges[k].tripHold || starts k } }
    else s
  | none => s

/-- Lane `n`'s gates follow what it wants, its pins in PIN mode included. -/
def State.drivePins (s : State) (n : LaneIx) (t : Ticks) : State := (s.pinGuard n).drive n t

/-! ### Stopping (chapter 12, *Stopping*; chapter 10, *Safe levels and the fault latch*) -/

/-- What entering STOPPED at `t` leaves of a lane; `ran` says that it was running. -/
def Lane.stoppedSet (t : Ticks) (ran : Bool) (l : Lane) : Lane :=
  { l with
    com := { l.com with
      stopping := none, iDem := 0x3FF, targetNext := none, intervals := [], coastRun := 0,
      coastLast := none, zcSamples := 0, crossed := false, consistent := 0, missed := 0 }
    ops := { l.ops with stops := [], lineLoss := false, stoppedAt := t }
    heat.ran := l.heat.ran || ran
    gate := { l.gate with
      waiting := false, shortPeriods := 0, blindPeriods := 0, periodWatched := false
      lateRow := none, rowMeasured := false, rowCurrent := false }
    car := { l.car with onPhase := false, valley := false, tripped := false, probe := false, waiting := [] } }

/-- The lane enters STOPPED with its gates off, or at its safe levels where they are forced: LANE_STOPs complete (R446),
a LINE_LOSS report says whether the lane went to safe levels (R70), and the lane is no longer counted in the accounting (R52). -/
def State.toStopped (s : State) (n : LaneIx) (t : Ticks) : State :=
  let l := s.ln n
  let s := l.ops.stops.foldl (fun s w => s.finish w.what stOk (word w.mode.code) 0 0 l.com.speedMeas) s
  let s := s.laneState n .stopped
  let s := if l.ops.lineLoss then s.laneEvent n 0x01 (if s.forced n then 1 else 0) 0 0 0 else s
  let s := (s.modLn n (Lane.stoppedSet t l.running)).modLn n Lane.takeLimit
  (s.gatesOff n t).drive n t

/-- Safe levels are forced on a lane from `t` on, unless they were already; a retry wait ends. -/
def Lane.force (was : Bool) (t : Ticks) (l : Lane) : Lane :=
  { l with latch.forcedAt := if was then l.latch.forcedAt else t, gate.waiting := false }

/-- Safe levels are newly forced on lane `n`: a running lane becomes STOPPED at them, and a start in progress ends with
`outcome`; a PIN-mode retry wait ends (R474). `change` makes the forcing hold. -/
def State.forceSafe (s : State) (n : LaneIx) (t : Ticks) (outcome : Word) (change : State → State) : State :=
  let was := s.forced n
  let s := s.endStart n outcome
  let s := (change s).modLn n (Lane.force was t)
  if (s.ln n).running then s.toStopped n t
  else if was then s.drive n t
  else (s.gatesOff n t).drive n t

/-- A cause of safe levels ends by `change`: once none is left, the lane is stopped with its gates off, or follows
its pins in PIN mode (R367, R370). -/
def State.releaseSafe (s : State) (n : LaneIx) (t : Ticks) (change : State → State) : State :=
  let s := change s
  if s.forced n then s else (s.gatesOff n t).drivePins n t

/-- The fault latch of lane `n` sets from `src` (R363, R364): the first source is recorded, the owner gets
LANE_LATCHED. -/
def State.setLatch (s : State) (n : LaneIx) (src : Byte) (t : Ticks) : State :=
  if (s.ln n).latch.latched then s
  else
    let s := (s.latchTask n t).forceSafe n t 2 fun s => s.modLn n fun l => { l with latch.latched := true, latch.src := src }
    (s.laneEvent n 0x10 (word src.toNat) 0 0 0).traceLane n 4 src.toNat 0

/-- What a stop mode acts as in the lane's state (R443). -/
def Lane.modeAs (l : Lane) (m : StopMode) : StopMode :=
  match m with
  | .coast => .coast
  | .brake => if l.com.set.live.brakeMs = 0 then .coast else .brake
  | .ramp =>
    match l.com.state with
    | .align | .ramp | .handover | .restartWait => .coast
    | _ => .ramp

/-- The mode a stop takes: during a gate retry's wait COAST (R474), but for an immediate heat stop, which holds the low sides whose safe
level is LOW on (R565); without any it leaves nothing to hold, and the lane is STOPPED at once (log entry 70). -/
def Lane.stopMode (l : Lane) (m : StopMode) (heat : Bool) : StopMode :=
  if heat then (if phaseIxs.any fun k => safeLow l.car.policy k then l.modeAs m else .coast)
  else if l.gate.waiting then .coast
  else l.modeAs m

/-- The declared stop time in ms (chapter 12, *Stop modes*). -/
def Lane.declaredMs (l : Lane) (m : StopMode) : Nat :=
  match m with
  | .coast => 0
  | .brake => l.com.set.live.brakeMs
  | .ramp => l.com.set.live.stopMs

/-- The declared stop time still to run of a stop in progress, in ticks. -/
def Lane.stopLeft (l : Lane) (t : Ticks) : Option Ticks :=
  l.com.stopping.map fun st => st.since + st.declaredMs * Config.ticksPerMs - t

/-- A STOPPING lane keeps the stop in progress beside one of mode `m`: it leaves the lane STOPPED no later (R82, R188, R445, R567), or it is an
immediate heat stop, which has the lane at its safe levels, and safe levels from any source take precedence (log entry 70). -/
def Lane.keepsStop (l : Lane) (t : Ticks) (m : StopMode) (heat : Bool) : Bool :=
  decide (l.com.state = .stopping) &&
    ((l.com.stopping.any Stopping.heat) ||
      (l.stopLeft t).any fun left => decide (left ≤ l.declaredMs (l.stopMode m heat) * Config.ticksPerMs))

/-- The declared time of a stop begins at `t` in its mode; a retry wait ends, and commutation events wait on in a RAMP stop alone. -/
def Lane.stopSet (t : Ticks) (m : StopMode) (ms : Nat) (heat : Bool) (l : Lane) : Lane :=
  { l with
    com.stopping := some { mode := m, since := t, declaredMs := ms, heat := heat }
    gate.waiting := false
    car := if m = .ramp then l.car else l.car.dropRows }

/-- A LANE_STOP that waits for STOPPED, and whether line loss causes the stop. -/
def Lane.stopFor (cmd : Option Applied) (m : StopMode) (line : Bool) (l : Lane) : Lane :=
  { l with ops := { l.ops with
      stops := l.ops.stops ++ (cmd.map (StopWait.mk · m)).toList
      lineLoss := l.ops.lineLoss || line } }

/-- Stop mode `m` is applied to lane `n` for `ms` milliseconds (chapter 12, *Stop modes*). -/
def State.applyStop (s : State) (n : LaneIx) (t : Ticks) (m : StopMode) (ms : Nat) (heat : Bool) : State :=
  match m with
  | .coast => s.toStopped n t
  | .brake => (((s.modLn n (Lane.stopSet t .brake ms heat)).laneState n .stopping).gatesOff n t).drive n t
  | .ramp => ((s.modLn n (Lane.stopSet t .ramp ms heat)).laneState n .stopping).drive n t

/-- A stop of a running lane: mode, heat stop, the LANE_STOP that asks for it, the outcome for a start in progress, and
whether line loss causes it. A STOPPING lane takes whichever stop reaches STOPPED sooner (R82, R188, R445, R567); a stop that is not
taken causes nothing, so line loss then reports nothing (R70). -/
def State.beginStop (s : State) (n : LaneIx) (t : Ticks) (m : StopMode) (heat : Bool) (cmd : Option Applied)
    (outcome : Word) (line : Bool) : State :=
  let l := s.ln n
  let as_ := l.stopMode m heat
  if !l.running then s
  else if l.keepsStop t m heat then
    match cmd, l.com.stopping with
    | some a, some st => s.finish a stOk (word st.mode.code) 0 0 l.com.speedMeas
    | _, _ => s
  else ((s.endStart n outcome).modLn n (Lane.stopFor cmd as_ line)).applyStop n t as_ (l.declaredMs as_) heat

/-- A retry wait of a PIN-mode lane ends (R474): it follows its pins again. -/
def State.endPinWait (s : State) (n : LaneIx) (t : Ticks) : State :=
  if (s.ln n).gate.waiting ∧ !(s.ln n).running then
    (s.modLn n fun l => { l with gate.waiting := false }).drivePins n t
  else s

/-! ### Battens taking force (R347, R350, R404, R450, R490) -/

/-- The scaled factory offset (R403). -/
def State.factoryOffset (s : State) (n : LaneIx) (gain : Nat) : Int :=
  let w : DWord := s.fuse.trims[(⟨2 + n.val, by omega⟩ : Fin 16)]
  roundHalfAway ((w.setWidth 10).toInt * gain) 20

/-- An armed CARRIER set takes force. -/
def State.takeCarrier (s : State) (n : LaneIx) : State :=
  match (s.ln n).car.set.armed with
  | some x => (s.modLn n fun l => { l with car.set := { l.car.set with live := x, armed := none } }).traceLane n 6 1 0
  | none => s

/-- An armed MASK set takes force. -/
def State.takeMask (s : State) (n : LaneIx) : State :=
  match (s.ln n).car.mask.armed with
  | some x => (s.modLn n fun l => { l with car.mask := { l.car.mask with live := x, armed := none } }).traceLane n 6 2 0
  | none => s

/-- An armed SENSE set takes force, with R391, R389 and the offset of a new gain (R403). -/
def State.takeSense (s : State) (n : LaneIx) : State :=
  match (s.ln n).sense.set.armed with
  | some x =>
    (s.modLn n fun l =>
      let off := if x.gain = l.sense.set.live.gain then l.sense.offset else s.factoryOffset n x.gain
      let lim := if l.sense.ilimTh < l.sense.ilimFr then l.sense.ilimTh else l.sense.ilimFr
      let l := { l with
        sense.set := { l.sense.set with live := x, armed := none }
        sense.offset := off
        sense.derateConflict := if lim < x.limit then satInc l.sense.derateConflict else l.sense.derateConflict }
      l.takeLimit).traceLane n 6 4 0
  | none => s

/-- A pulse or a wait of a high side is in progress. -/
def HalfBridge.highGoes (b : HalfBridge) : Bool := decide (b.cmd = some .high)

/-- A trip in PIN mode: every high side that is on, or about to be, goes off, and its half-bridge is held off (R462). -/
def State.pinTripHold (s : State) (n : LaneIx) (t : Ticks) : State :=
  (s.modLn n fun l =>
    { l with car.bridges := vmap (fun b => { b with tripHold := b.tripHold || b.highGoes }) l.car.bridges }).drive n t

/-- The first source that asserts and acts as a TRIP of lane `n`. -/
def State.tripSource (s : State) (n : LaneIx) : Option (Fin 5) :=
  ([0, 1, 2, 3, 4] : List (Fin 5)).find? fun i => s.asserts n i.val && (s.ln n).trips i.val

/-- A PIN-mode lane with a high side on under a source that its ROUTE newly makes a TRIP while it asserts is held off as at an assertion
(R462). -/
def State.pinNewTrip (s : State) (n : LaneIx) (t : Ticks) : State :=
  match s.tripSource n with
  | some i =>
    if (s.ln n).pin ∧ !(s.ln n).running ∧ phaseIxs.any (fun k => (s.ln n).car.bridges[k].highGoes) then
      (s.countTrip n i.val).pinTripHold n t
    else s
  | none => s

/-- An armed COMMUT set takes force. -/
def State.takeCommut (s : State) (n : LaneIx) : State :=
  match (s.ln n).com.set.armed with
  | some x => (s.modLn n fun l => { l with com.set := { l.com.set with live := x, armed := none } }).traceLane n 6 5 0
  | none => s

/-- An armed GATE set takes force; a change of INPUT turns all six gates off in that tick (R464). -/
def State.takeGate (s : State) (n : LaneIx) (t : Ticks) : State :=
  match (s.ln n).gate.set.armed with
  | some x =>
    let turn := decide (x.pin ≠ (s.ln n).gate.set.live.pin)
    let s := s.modLn n fun l => { l with gate.set := { l.gate.set with live := x, armed := none } }
    let s := s.traceLane n 6 (6 + n.val) 0
    if turn then (s.gatesOff n t).drivePins n t else s
  | none => s

/-- Every armed set of a stopped lane takes force (R451; chapter 10, *Limits and edges*; log entry 22), and a route newly in force acts in PIN
mode (R462). -/
def State.takeAll (s : State) (n : LaneIx) (t : Ticks) : State :=
  (((((s.takeCarrier n).takeMask n).takeSense n).pinNewTrip n t).takeCommut n).takeGate n t

/-! ### The carrier period (chapter 10, *Carrier modes*) -/

/-- The on-phase of lane `n` ends at `t`; a trip keeps it ended until the next boundary (R336, R338). -/
def State.endOn (s : State) (n : LaneIx) (t : Ticks) (trip : Bool) : State :=
  (s.modLn n fun l =>
    { l with car.onPhase := false, car.phaseEnd := t, car.valley := false, car.tripped := l.car.tripped || trip }).drive n t

/-- Open windings are watched: RUN with OPEN_LEVEL not 0 (chapter 13, *Open windings while running*). -/
def Lane.watchesOpen (l : Lane) : Bool := decide (l.com.state = .run) && decide (l.gate.set.live.level ≠ 0)

/-- On-phases below MEAS_MIN since the last probe, the period that starts included (R486). -/
def Lane.shortNow (l : Lane) : Nat :=
  let k := l.car.set.live.onLimit
  if k ≠ 0 ∧ k < Config.measMin then l.gate.shortPeriods + 1 else l.gate.shortPeriods

/-- Whole periods in a row without a measurable capture or a PEAK trip, the one that ends included (R488). -/
def Lane.blindNow (l : Lane) : Nat :=
  if l.gate.periodSeen || !l.gate.periodWatched then 0 else l.gate.blindPeriods + 1

/-- The period that starts is a probe (R486). -/
def Lane.probes (l : Lane) : Bool := l.watchesOpen && l.gate.set.live.probeAllowed && decide (l.shortNow = 64)

/-- OPEN_UNVERIFIED sets at the period that starts (R488). -/
def Lane.unverifies (l : Lane) : Bool :=
  l.watchesOpen && !l.gate.set.live.probeAllowed && decide (64 ≤ l.blindNow) && !l.gate.openUnverified

/-- What a new period leaves of the counters of probes and of unseen periods. -/
def Lane.openSet (l : Lane) : Lane :=
  let p := l.watchesOpen && l.gate.set.live.probeAllowed
  let b := l.watchesOpen && !l.gate.set.live.probeAllowed
  { l with
    car.probe := l.probes
    gate := { l.gate with
      periodSeen := false
      periodWatched := b
      shortPeriods := if p && !l.probes then l.shortNow else 0
      blindPeriods := if b then min l.blindNow 64 else 0
      openUnverified := l.gate.openUnverified || l.unverifies
      probeCount := if l.probes then satInc l.gate.probeCount else l.gate.probeCount } }

/-- The periods that probes and OPEN_UNVERIFIED count, at the boundary that starts a period (R486, R488). -/
def State.openCounters (s : State) (n : LaneIx) : State :=
  let l := s.ln n
  let s := s.modLn n Lane.openSet
  let s := if l.probes then s.count 0x06 n.val else s
  if l.unverifies then s.laneEvent n 0x16 0 0 0 0 else s

/-- What a carrier boundary sets: a new target, the on-phase from tick `act` on (R336, R436), and the lane's return to its root source
once `watch` says that the run-through is over (R100): a lane that makes no periods stays on WATCH until it does (log entry 75). -/
def Lane.periodSet (start act : Ticks) (watch : Bool) (l : Lane) : Lane :=
  let on := decide (l.car.onTicks ≠ 0)
  { l with
    com.target := l.com.targetNext.getD l.com.target
    com.targetNext := none
    car := { l.car with
      runThrough := l.car.runThrough && watch
      periodStart := start
      onSince := if l.car.onPhase && on then l.car.onSince else act
      onPhase := on
      phaseEnd := if on then l.car.phaseEnd else act
      valley := false
      tripped := false } }

/-- A carrier boundary of lane `n` counted from tick `start`, acting in tick `act` (R336, R373): armed CARRIER, SENSE and GATE sets take
force, the limit and a new target too (R389, R436), and the on-phase begins. -/
def State.startPeriod (s : State) (n : LaneIx) (start act : Ticks) : State :=
  let s := ((s.takeCarrier n).takeSense n).takeGate n act
  let s := s.modLn n Lane.takeLimit
  let s := s.openCounters n
  let s := (s.modLn n (Lane.periodSet start act s.clk.runThrough)).count 0x07 n.val
  let l := s.ln n
  match s.pinTrip n with
  | some i => if l.car.onPhase then (s.countTrip n i).endOn n act true else s.drive n act
  | none => s.drive n act

/-! ### Commutation (chapter 12) -/

/-- The entry of the seated profile in use. -/
def LaneCommut.entryIx (x : LaneCommut) : Fin 16 := ⟨x.entry % 16, by omega⟩

/-- Measured rows without current of each phase, once row `row` was measured or showed current (R485). -/
def LaneGate.dryNow (g : LaneGate) (row : Word) (measured current : Bool) : Vector Nat 3 :=
  Vector.ofFn fun k =>
    if decide (rowState row k ≠ 0) && current then 0
    else if decide (rowState row k ≠ 0) && measured then min 8 (g.dryRows[k] + 1)
    else g.dryRows[k]

/-- The phases that a row's verdict finds open, as a mask (R485). -/
def Lane.openNow (l : Lane) (row : Word) (measured current : Bool) : Nat :=
  let dry := l.gate.dryNow row measured current
  if l.watchesOpen then
    ((phaseIxs.filter fun k => dry[k] == 8 && !bit l.gate.openPhase k.val).map fun k => 2 ^ k.val).sum
  else 0

/-- What a row's verdict leaves of the watch for open windings. -/
def Lane.judged (row : Word) (measured current : Bool) (l : Lane) : Lane :=
  { l with gate := { l.gate with
      dryRows := if l.watchesOpen then l.gate.dryNow row measured current else Vector.replicate 3 0
      openPhase := l.gate.openPhase ||| BitVec.ofNat 3 (l.openNow row measured current) } }

/-- A mask row showed current in a conducting phase or did not (R485). -/
def State.judgeRow (s : State) (n : LaneIx) (row : Word) (measured current : Bool) : State :=
  let m := (s.ln n).openNow row measured current
  let s := s.modLn n (Lane.judged row measured current)
  if m = 0 then s else s.laneEvent n 0x15 (word m) 0 0 0

/-- The row that ends has a measurable capture that is not converted yet, so that its verdict waits. -/
def Lane.rowPending (l : Lane) : Bool :=
  l.sense.captured && l.sense.measurable && l.gate.lateRow.isNone && !l.gate.rowCurrent

/-- The next row's watch for open windings begins; `late` is the row that ended, where its verdict waits. -/
def Lane.openRowSet (late : Option Word) (l : Lane) : Lane :=
  { l with gate := { l.gate with
      rowMeasured := false
      rowCurrent := false
      lateRow := late } }

/-- The end of a row: its verdict, or the wait for its last conversion (R485). -/
def State.openRow (s : State) (n : LaneIx) : State :=
  let l := s.ln n
  if l.rowPending then s.modLn n (Lane.openRowSet (some l.car.rowWord))
  else (s.judgeRow n l.car.rowWord l.gate.rowMeasured l.gate.rowCurrent).modLn n (Lane.openRowSet l.gate.lateRow)

/-- Blanking that would end at `e` ends no later than half of T60 after the row began (R414). -/
def LaneCommut.blankCap (x : LaneCommut) (e : Ticks) : Ticks := if x.t60 = 0 then e else min e (x.rowStart + x.t60 / 2)

/-- The end of the blanking of a row that no sample settled, as the row ends at `t`: BLANK_MIN, and with ADAPT_BLANK half of T60 where that is
known and the row lasted so long (R414; log entry 71). -/
def LaneCommut.blankUnseen (x : LaneCommut) (t : Ticks) : Ticks :=
  let least := x.rowStart + x.set.live.blankTicks
  x.blankCap (if x.set.live.adaptBlank ∧ x.t60 ≠ 0 then max least t else least)

/-- BLANK_NOW of the row that ends at `t`, in us (R414). -/
def LaneCommut.blankShown (x : LaneCommut) (t : Ticks) : Byte :=
  satNat 8 (((x.blankEnd.getD (x.blankUnseen t)) - x.rowStart) / Config.ticksPerUs)

/-- What a row that becomes active at `t` sets. -/
def Lane.rowSet (row : Fin 6) (t : Ticks) (l : Lane) : Lane :=
  { l with
    car.row := row
    com := { l.com with
      blankNow := l.com.blankShown t, rowStart := t, blankEnd := none, zcSamples := 0, crossed := false } }

/-- A row becomes active at `t`, acting in tick `act`: an armed MASK or COMMUT set takes force (R347, R450), blanking starts (R414). -/
def State.enterRow (s : State) (n : LaneIx) (row : Fin 6) (t act : Ticks) : State :=
  let s := ((s.openRow n).takeMask n).takeCommut n
  (s.modLn n (Lane.rowSet row t)).drive n act

/-- A commutation event (R344). -/
def State.commutate (s : State) (n : LaneIx) (t act : Ticks) : State :=
  let l := s.ln n
  let s := s.enterRow n (nextRow l.com.dir l.car.row) t act
  (s.count 0x02 n.val).traceLane n 1 (s.ln n).car.row.val (s.ln n).com.speedMeas

/-- DAC steps in the integrator's unit. -/
def loopUnit : Int := 4096 * 16 * 160000

/-- The speed loop at a commutation event (R434): speeds in 1/(16 x 160 000) Hz; `down` is the reference of a RAMP stop,
which falls at DECEL. The loop is exact; I_DEM shows whole DAC steps (log entry 58). -/
def LaneCommut.loop (x : LaneCommut) (limit : BitVec 10) (t : Ticks) (down : Bool) : LaneCommut :=
  let c := x.set.live
  let dt := t - x.loopAt
  let goal : Nat := if down then 0 else max x.target.toNat c.runMin.toNat * Config.ticksPerMs
  let step := (if down then c.decel.toNat else c.accel.toNat) * dt
  let ref := if x.speedRef ≤ goal then min goal (x.speedRef + step) else max goal (x.speedRef - step)
  let e : Int := (ref : Int) - x.speedMeas.toNat * Config.ticksPerMs
  let top : Int := limit.toNat * loopUnit
  let integ := clampInt 0 top (x.integ + c.ki.toNat * e)
  let out := clampInt 0 top (integ + 16 * c.kp.toNat * e)
  { x with speedRef := ref, integ := integ, iDem := BitVec.ofNat 10 (out / loopUnit).toNat, loopAt := t }

/-- A commutation event of RUN or of a RAMP stop, with its loop update. -/
def State.runEvent (s : State) (n : LaneIx) (t act : Ticks) : State :=
  let down := decide ((s.ln n).com.state = .stopping)
  (s.commutate n t act).modLn n fun l => { l with com := l.com.loop l.sense.ilimEff t down }

/-- What a stall that leaves a restart sets (R438, R439). -/
def Lane.restartSet (t : Ticks) (l : Lane) : Lane :=
  { l with com.restarts := l.com.restarts + 1, com.waitFrom := t, com.missed := 0, car := l.car.dropRows }

/-- A stall (R438, R440): gates off, and a restart wait or the latch. -/
def State.stall (s : State) (n : LaneIx) (t : Ticks) : State :=
  let s := s.gatesOff n t
  let s := (s.modLn n fun l => { l with com.stallCount := satInc l.com.stallCount }).count 0x04 n.val
  let l := s.ln n
  if l.com.set.live.restartMax < l.com.restarts.toNat + 1 then s.setLatch n 0x50 t
  else
    let s := s.modLn n (Lane.restartSet t)
    let s := s.laneEvent n 0x13 (word (l.com.restarts.toNat + 1)) l.com.speedMeas 0 0
    s.laneState n .restartWait

/-- The profile's last entry has ended: HANDOVER begins (R422, R425). -/
def Lane.handoverSet (l : Lane) : Lane := { l with com.entry := l.com.profile.steps - 1, com.hoCount := 0 }

/-- RAMP gives way to HANDOVER once the last entry has ended. -/
def State.toHandover (s : State) (n : LaneIx) : State :=
  let x := (s.ln n).com
  if x.state = .ramp ∧ x.profile.steps ≤ x.entry then (s.modLn n Lane.handoverSet).laneState n .handover else s

/-- What an open-loop event sets (R422, R423, R425). -/
def Lane.rampSet (l : Lane) : Lane :=
  let c := l.com
  let p := c.profile
  let k := c.entryIx
  let raised := c.raised + 1
  let done := decide (c.state = .ramp) && decide (p.repeats k ≤ raised)
  { l with com := { c with
      hoCount := if c.state = .handover then c.hoCount + 1 else c.hoCount
      consistent := if c.rowConsistent then c.consistent else 0
      rowConsistent := false
      stepTicks := p.interval[k].toNat * Config.ticksPerUs
      iDem := p.current k
      raised := if done then 0 else raised
      entry := if done then c.entry + 1 else c.entry } }

/-- An open-loop event of RAMP or HANDOVER (R422, R425). -/
def State.rampEvent (s : State) (n : LaneIx) (t act : Ticks) : State :=
  let s := s.toHandover n
  let x := (s.ln n).com
  if x.state = .handover ∧ bits x.profile.hoLimit 0 8 ≤ x.hoCount then s.stall n t
  else (s.modLn n Lane.rampSet).commutate n t act

/-- What ALIGN sets (R421). -/
def Lane.alignSet (t : Ticks) (l : Lane) : Lane :=
  let p := l.com.profile
  { l with
    car := { l.car.dropRows with row := ⟨p.alignRow % 6, by omega⟩ }
    gate.waiting := false
    com := { l.com with
      iDem := p.alignI.setWidth 10, rowStart := t, blankEnd := none, entry := 0, raised := 0, hoCount := 0, consistent := 0,
      rowConsistent := false, crossed := false, zcSamples := 0, intervals := [], lastCross := none, missed := 0 } }

/-- A lane that was stopped begins its first carrier period; another goes on in its own. -/
def State.begins (s : State) (n : LaneIx) (t : Ticks) (fresh : Bool) : State := if fresh then s.startPeriod n t t else s.drive n t

/-- ALIGN (R421): ALIGN_ROW held with ALIGN_I; an ALIGN_TIME of 0 enters RAMP at once. A lane that was stopped begins its
first carrier period. -/
def State.enterAlign (s : State) (n : LaneIx) (t : Ticks) : State :=
  let fresh := !(s.ln n).running
  let s := ((s.modLn n (Lane.alignSet t)).laneState n .align).begins n t fresh
  if bits (s.ln n).com.profile.alignTime 0 8 = 0 then (s.laneState n .ramp).rampEvent n t t else s

/-- The row whose expected crossing is a transition of phase `k`, rising or not, when rows count in a direction
(R412, R416). -/
def MaskSet.rowOf (m : MaskSet) (rev : Bool) (k : PhaseIx) (rise : Bool) : Option (Fin 6) :=
  (List.finRange 6).find? fun r =>
    let x := rowState m.rows[nextRow rev r] k
    decide (rowState m.rows[r] k = 0) && (if rise then decide (2 ≤ x) else x == 1)

/-- What a start from a turning motor takes (R426): the row whose expected crossing, in the commanded direction, is the last transition,
its instant, and T60. Where coast tracking has no transition yet, the row in force and the last crossing under power stand for them,
and where no interval is known, T60 follows from SPEED_MEAS (log entry 23). -/
def Lane.tracked (l : Lane) (now : Ticks) : Fin 6 × Ticks × Ticks :=
  let x := l.com
  let known := x.intervals.headD x.t60
  let t60 := if known = 0 then 16 * 160000000 / (6 * max 1 x.speedMeas.toNat) else known
  match x.coastLast with
  | some (k, rise) => ((l.car.mask.live.rowOf x.dir k rise).getD l.car.row, x.coastAt, t60)
  | none => (l.car.row, x.lastCross.getD now, t60)

/-- What RUN entered from a turning motor sets (R426). -/
def Lane.turningSet (t : Ticks) (row : Fin 6) (last t60 : Ticks) (l : Lane) : Lane :=
  let p := l.com.profile
  let i := (p.current p.lastEntry).toNat
  { l with
    car := { l.car.dropRows with row := row }
    gate := { l.gate with waiting := false, lateRow := none, rowMeasured := false, rowCurrent := false }
    com := { l.com with
      t60 := t60, lastCross := some last, lastSeen := last, crossed := true, rowStart := t, blankEnd := none, zcSamples := 0,
      missed := 0, consistent := 0, loopAt := t, speedRef := l.com.speedMeas.toNat * Config.ticksPerMs,
      integ := i * loopUnit, iDem := BitVec.ofNat 10 (min i l.sense.ilimEff.toNat), coastRun := 0, coastLast := none,
      intervals := [] } }

/-- RUN entered at once from a turning motor (R426, R472). -/
def State.enterRunTurning (s : State) (n : LaneIx) (t : Ticks) (row : Fin 6) (last t60 : Ticks) : State :=
  let fresh := !(s.ln n).running
  (((s.modLn n (Lane.turningSet t row last t60)).laneState n .run).begins n t fresh).endStart n 0

end Sys2Proof.Machine
end

