-- ==== Sys2Proof/Machine/Task.lean ====
section
/-! DEFINITION. The synchronous task input of a motor lane (chapter 10, *Events in the same tick*): when each event is due, what it does in
its tick, and which of several events of one tick acts first. -/

namespace Sys2Proof.Machine

/-! ### When an event is due -/

/-- The tick that the period starting at `t` is counted from: the wrap of the EDGE counter, which no deferral and no WATCH grid shifts
(R336, R373, R95). -/
def LaneCarrier.wrap (x : LaneCarrier) (t : Ticks) : Ticks :=
  let per := x.set.live.period.toNat
  if x.set.live.mode = 0 ∧ per ≠ 0 then t - (t - (x.periodStart + per)) % per else t

/-- The on-phase of lane `n` may end at `t` for this reason (R336); a trip needs a source that asserts and trips. -/
def State.onEndDue (s : State) (n : LaneIx) (t : Ticks) (why : PhaseEnd) : Bool :=
  let l := s.ln n
  let x := l.car
  let c := x.set.live
  let due : Bool := decide (x.edges.at (x.periodStart + x.onTicks) ≤ t)
  x.onPhase &&
    match why with
    | .compare => c.mode != 2 && due && (c.mode != 0 || decide (x.onTicks < c.period.toNat))
    | .periodMax => c.mode == 2 && due
    | .trip => [0, 1, 2, 3, 4].any fun i => s.asserts n i && l.trips i

/-- The gate of a high side of the lane went on less than LEB ticks before `t` (R381). -/
def Lane.blanked (l : Lane) (t : Ticks) : Bool :=
  phaseIxs.any fun k => (l.car.bridges[k].since .high).any fun u => decide (t < u + bits l.sense.set.live.leb 0 8)

/-- A comparator's place in ROUTE. -/
def sourceOf : Comparator → Fin 5
  | .peak => 0
  | .oc => 1
  | .uc => 2

/-- A fault pin's place in ROUTE. -/
def pinSource : FaultPin → Fin 5
  | .flt0 => 3
  | .flt1 => 4

/-- The comparators of lane `n` are heard at `t`: past SETTLED, outside the blanking of R381, and not disconnected by a self-test. -/
def State.hears (s : State) (n : LaneIx) (t : Ticks) : Bool :=
  let l := s.ln n
  s.atSettled && !l.blanked t && !l.ops.measure.any fun m => m.kind == .selftest && m.ended == none

/-- The comparator asserts now and did not before (R383). -/
def State.newlyBeyond (s : State) (n : LaneIx) (cmp : Comparator) (t : Ticks) (out : BitVec 10) : Bool :=
  s.hears n t && (s.ln n).beyond cmp t out && !s.asserts n (sourceOf cmp).val

/-- The monitor of this kind asserts on half-bridge `b` at `t`, reading `mv` millivolts (R465): VDS above (VDS_TH + 1) x 0.1 V past its
blanking, at the shortest that its tolerance allows; VGS below its on level or above its off level once VGS_TO has passed since the command;
the bootstrap below its falling level while the high side is commanded on. -/
def GateSet.watches (g : GateSet) (b : HalfBridge) (kind : GateKind) (t : Ticks) (mv : Int) : Bool :=
  let vds (side : Side) : Bool :=
    b.commanded side && ((b.since side).any fun u => decide (10 * u + 9 * ((bits g.vdsCfg 4 4 + 1) * 80) ≤ 10 * t))
      && decide (((bits g.vdsCfg 0 4 + 1) * 100 : Nat) < mv)
  let vgs (side : Side) : Bool :=
    let k := (bits g.vdsCfg 8 4 + 1) * 40
    if b.commanded side then ((b.since side).any fun u => decide (u + k ≤ t)) && decide (mv < Config.vgsOn)
    else ((b.since side).isNone || decide (b.offOf side + k ≤ t)) && decide (Config.vgsOff < mv)
  match kind with
  | .vdsHigh => vds .high
  | .vdsLow => vds .low
  | .vgsHigh => vgs .high
  | .vgsLow => vgs .low
  | .bootstrap => b.commanded .high && decide (mv < Config.bootstrapLow)

/-! ### What an event does in its tick -/

/-- RUN entered from the profile (R424). -/
def State.enterRun (s : State) (n : LaneIx) (t act : Ticks) : State :=
  let s := (s.commutate n t act).laneState n .run
  let s := s.modLn n fun l => { l with com := { l.com with
    speedRef := l.com.speedMeas.toNat * Config.ticksPerMs
    integ := l.com.iDem.toNat * loopUnit
    loopAt := t
    missed := 0
    consistent := 0 } }
  s.endStart n 0

/-- PERIOD_LAST of the period that a boundary counted from `start` ends. -/
def Lane.periodEnded (start : Ticks) (l : Lane) : Lane := { l with car.periodLast := satNat 16 (start - l.car.periodStart) }

/-- An event that came in at tick `t` acts in tick `act`. -/
def State.taskAct (s : State) (n : LaneIx) (e : TaskEvent) (t act : Ticks) : State :=
  match e with
  | .trip i => s.countTrip n i.val
  | .commutation => if (s.ln n).closedLoop then s.runEvent n t act else s.enterRun n t act
  | .missed => s.runEvent n t act
  | .alignEnd => (s.laneState n .ramp).rampEvent n t act
  | .profileStep => s.rampEvent n t act
  | .boundary =>
    let start := (s.ln n).car.wrap t
    (s.modLn n (Lane.periodEnded start)).startPeriod n start act

/-! ### The merge (R371 to R374) -/

/-- The priority of an event: a fault latch has 0 (R371). -/
def TaskEvent.rank : TaskEvent → Nat
  | .trip _ => 1
  | .boundary => 3
  | _ => 2

/-- The priority of what source `i` of ROUTE does to lane `n` when it asserts (R384, R385). -/
def Lane.sourceRank (l : Lane) (i : Fin 5) : Option Nat :=
  if l.sense.set.live.routeOf i.val = 2 then some 0 else if l.trips i.val then some 1 else none

/-- The event that command `c` brings to the task input of lane `n` in tick `t`, by its priority. -/
def State.brings (s : State) (n : LaneIx) (t : Ticks) (c : Instr) : Option Nat :=
  let l := s.ln n
  let here (m : LaneIx) (u : Ticks) (due : Bool) (rank : Nat) : Option Nat :=
    if m = n ∧ l.car.edges.at u = t ∧ due then some rank else none
  match c with
  | .comparatorAssert m cmp u out =>
    if m = n ∧ l.car.edges.at u = t ∧ s.newlyBeyond n cmp u out then l.sourceRank (sourceOf cmp) else none
  | .faultPinAssert pin u =>
    if l.car.edges.at u = t ∧ s.atSettled ∧ s.licensed n then l.sourceRank (pinSource pin) else none
  | .gateFault m k kind u mv => here m u (l.gate.set.live.watches l.car.bridges[k] kind u mv) 0
  | .lineOvStop u => here n u s.alive 0
  | .onPhaseEnd m u .trip => here m u (s.onEndDue n u .trip) 1
  | .commutation m u => here m u (l.commutationDue u) 2
  | .missedCrossing m u => here m u (l.missDue u) 2
  | .alignEnd m u => here m u (l.alignEndDue u) 2
  | .profileStep m u => here m u (l.stepDue u) 2
  | .carrierBoundary m u => here m u (l.boundaryDue u) 3
  | _ => none

/-- A command that waits behind the one in progress brings an event of priority below `rank` to lane `n` in tick `t`: commands that
wait together and bear one tick are the events of that tick (R371, log entry 34). -/
def State.outranked (s : State) (n : LaneIx) (t : Ticks) (rank : Nat) : Bool :=
  s.pending.any fun c => (s.brings n t c).any (· < rank)

/-- The task input is taken in tick `act`. -/
def Lane.takeSlot (act : Ticks) (l : Lane) : Lane := { l with car.taskFree := act + l.car.taskTick }

/-- An event that is deferred counts, and joins those that wait (R372). -/
def Lane.defer (w : TaskWait) (l : Lane) : Lane :=
  { l with car.mergeCount := satInc l.car.mergeCount, car.waiting := l.car.waiting ++ [w] }

/-- An event that is discarded counts (R372), once. -/
def Lane.discard (e : TaskEvent) (l : Lane) : Lane :=
  { l with car.mergeCount := satInc l.car.mergeCount, car.latchDue := l.car.latchDue.erase e }

/-- The task input is free in tick `t` for an event of priority `rank`: nothing waits from an earlier tick, nor goes before it in its
own (R371, R374). -/
def Lane.admits (l : Lane) (t : Ticks) (rank : Nat) : Bool :=
  decide (l.car.taskFree ≤ t) && l.car.waiting.all fun w => decide (w.tick = t ∧ rank < w.event.rank)

/-- Event `e` reaches the task input of lane `n` at `t`: it is discarded beside a fault latch of its tick; it acts at once where
the input is free and nothing of its tick goes before it; else it waits (R371 to R374). -/
def State.onTask (s : State) (n : LaneIx) (t : Ticks) (e : TaskEvent) : State :=
  let l := s.ln n
  let t := l.car.edges.at t
  if l.car.latchTick = some t ∨ s.outranked n t 1 then s.modLn n (Lane.discard e)
  else if l.admits t e.rank ∧ !s.outranked n t e.rank then (s.modLn n (Lane.takeSlot t)).taskAct n e t t
  else s.modLn n (Lane.defer ⟨e, t⟩)

/-- Event `e` was due beside a fault latch of the tick of `t` that has stopped the lane since: it is discarded, and counts (R371,
R372). -/
def State.afterLatch (s : State) (n : LaneIx) (t : Ticks) (e : TaskEvent) : State :=
  let x := (s.ln n).car
  if x.latchTick = some (x.edges.at t) ∧ e ∈ x.latchDue then s.modLn n (Lane.discard e) else s

/-- A row brings event `e` to lane `n` at `t`, if it is due. -/
def State.taskRow (s : State) (n : LaneIx) (t : Ticks) (e : TaskEvent) (due : Bool) : State :=
  if due then s.onTask n t e else s.afterLatch n t e

/-- The event that acts next among those that wait: the earliest tick's first (R374), then by priority. -/
def nextTask : List TaskWait → Option TaskWait
  | [] => none
  | w :: r =>
    match nextTask r with
    | none => some w
    | some x => if x.tick < w.tick ∨ x.tick = w.tick ∧ x.event.rank < w.event.rank then some x else some w

/-- An event no longer waits. -/
def Lane.unwait (w : TaskWait) (l : Lane) : Lane := { l with car.waiting := l.car.waiting.erase w }

/-- The event that waited acts in tick `act`. -/
def State.releaseOne (s : State) (n : LaneIx) (w : TaskWait) (act : Ticks) : State :=
  s.happened act fun s => (s.modLn n fun l => (l.unwait w).takeSlot act).taskAct n w.event w.tick act

/-- At most `k` of the events that wait at lane `n` act, each in the first free tick, those of an earlier tick than `t` that are due by
`last`. -/
def State.release (n : LaneIx) (t last : Ticks) : Nat → State → State
  | 0, s => s
  | k + 1, s =>
    match nextTask (s.ln n).car.waiting with
    | none => s
    | some w =>
      let act := max (s.ln n).car.taskFree w.tick
      if w.tick < t ∧ act ≤ last then (s.releaseOne n w act).release n t last k else s

/-- Time comes to `t` for lane `n`: the events that waited for a free tick up to then have acted in it. -/
def State.laneTick (s : State) (n : LaneIx) (t : Ticks) : State := (s.release n t t (s.ln n).car.waiting.length).tick t

/-- Time comes to `t` for every lane. -/
def State.lanesTick (s : State) (t : Ticks) : State := s.eachLane fun s n => s.laneTick n t

/-- Time comes to `t` for every lane, but for what acts in the tick of `t` itself. -/
def State.lanesBefore (s : State) (t : Ticks) : State :=
  (s.eachLane fun s n => if t = 0 then s else s.release n t (t - 1) (s.ln n).car.waiting.length).tick t

/-- A trip by source `i` at `t`: it ends the on-phase at once, and its bookkeeping takes its turn at the task input (R338, R371,
R384). -/
def State.tripBy (s : State) (n : LaneIx) (i : Fin 5) (t : Ticks) : State :=
  (if (s.ln n).car.onPhase then s.endOn n t true else s).onTask n t (.trip i)

end Sys2Proof.Machine
end

