-- ==== Sys2Proof/Machine/Wheel.lean ====
section
/-! DEFINITION. The wheel trackers: sensor supply and levels, pulses, the tooth table, sync, angle, windows, and the rows
WS_LEVEL_CHANGE to SENSOR_WARN (chapter 14). -/

namespace Sys2Proof.Machine

/-! ### The TRACK batten (R539, R540) -/

/-- K, micro-ticks 2^K. -/
def TrackSet.k (x : TrackSet) : Nat := bits x.cfg 8 4

/-- TOL, in 1/64 of P_exp. -/
def TrackSet.tolerance (x : TrackSet) : Nat := bits x.tol 0 6

/-- CLASS_F in tracker ticks. -/
def TrackSet.forwardTicks (x : TrackSet) : Nat := bits x.cls 0 8 * 80

/-- CLASS_R in tracker ticks. -/
def TrackSet.reverseTicks (x : TrackSet) : Nat := bits x.cls 8 8 * 80

/-- CLASS_N in tracker ticks. -/
def TrackSet.neutralTicks (x : TrackSet) : Nat := bits x.cfg 0 8 * 80

/-- A TRACK set is inconsistent (R540). -/
def TrackSet.bad (x : TrackSet) : Bool :=
  let f := bits x.cls 0 8
  let r := bits x.cls 8 8
  let n := bits x.cfg 0 8
  f < 4 || 10 * r < 18 * f || 10 * n < 18 * r || x.k < 4 || x.k > 10 || x.tolerance < 1 || x.tolerance > 16
    || x.slow == 0 || bits x.still 0 8 < 100 || bits x.cfg 12 4 != 0 || bits x.tol 6 10 != 0 || bits x.still 8 8 != 0

/-! ### The tooth table (chapter 14, section 3) -/

/-- N -/
def ToothTable.n (x : ToothTable) : Nat := x.teeth.length

/-- The angle a_k of tooth k. -/
def ToothTable.angle (x : ToothTable) (k : Nat) : Nat := (x.teeth.getD k 0).toNat

/-- The spacing d_k, modulo 65 536. -/
def ToothTable.spacing (x : ToothTable) (k : Nat) : Nat :=
  (x.angle ((k + 1) % x.n) + 65536 - x.angle k) % 65536

/-- The tooth after `k` in a direction; `rev` is reverse. -/
def ToothTable.next (x : ToothTable) (rev : Bool) (k : Nat) : Nat :=
  if rev then (k + x.n - 1) % x.n else (k + 1) % x.n

/-- The spacing from tooth `k` to the next in a direction. -/
def ToothTable.ahead (x : ToothTable) (rev : Bool) (k : Nat) : Nat :=
  if rev then x.spacing ((k + x.n - 1) % x.n) else x.spacing k

/-- The reference gap d_(N-1). -/
def ToothTable.gap (x : ToothTable) : Nat := x.spacing (x.n - 1)

/-- The tooth entries rise strictly. -/
def ascending : List Word → Bool
  | a :: b :: r => decide (a < b) && ascending (b :: r)
  | _ => true

/-- A table is inconsistent for SEAT (R507). -/
def ToothTable.bad (x : ToothTable) : Bool :=
  let n := x.n
  let d := x.spacing
  let g := x.gap
  n < 4 || n > 128 || !ascending x.teeth ||
    if x.free then (List.range n).any fun k => d k > d 0 + 1 || d 0 > d k + 1
    else
      2 * g < 3 * d (n - 2) || 2 * g < 3 * d 0
        || (List.range (n - 1)).any fun k =>
            5 * d k * d (n - 2) > 2 * (d (n - 2) + g) * d ((k + n - 1) % n)
              || 5 * d k * d 0 > 2 * (d 0 + g) * d (k + 1)

/-! ### Windows (chapter 14, section 8) -/

/-- ACTION: 1 PIN, 2 BURST, 3 EVENT_OPEN, 4 EVENT_BOTH. -/
def Window.action (w : Window) : Nat := bits w.cfg 0 3

/-- ONCE -/
def Window.once (w : Window) : Bool := bit w.cfg 3

/-- TARGET -/
def Window.target (w : Window) : Nat := bits w.cfg 4 3

/-- BURST_N -/
def Window.burstN (w : Window) : Nat := bits w.cfg 8 6

/-- The angle lies in the window's arc. -/
def Window.inArc (w : Window) (a : Word) : Bool :=
  if w.start < w.stop then decide (w.start ≤ a) && decide (a < w.stop) else decide (w.start ≤ a) || decide (a < w.stop)

/-- A move from `a` to `b` in the direction of motion passes over the whole arc, from outside to outside. -/
def Window.passed (w : Window) (rev : Bool) (a b : Word) : Bool :=
  let len := (w.stop - w.start).toNat
  let lead := if rev then (a - (w.stop - 1)).toNat else (w.start - a).toNat
  let move := if rev then (a - b).toNat else (b - a).toNat
  !w.inArc a && !w.inArc b && decide (lead + len ≤ move)

/-- The sixteen windows in ascending number. -/
def winIxs : List WinIx := [0, 1, 2, 3, 4, 5, 6, 7, 8, 9, 10, 11, 12, 13, 14, 15]

/-- A tracker with a window changed. -/
def Tracker.modWin (x : Tracker) (w : WinIx) (f : Window → Window) : Tracker := { x with windows := vmod x.windows w f }

/-- WIN_ARMED -/
def Tracker.armedMask (x : Tracker) : Word := word ((winIxs.map fun w => if x.windows[w].armed then 2 ^ w.val else 0).sum)

/-- WIN_OPEN -/
def Tracker.openMask (x : Tracker) : Word := word ((winIxs.map fun w => if x.windows[w].isOpen then 2 ^ w.val else 0).sum)

/-- The level of WIN_m (R531). -/
def State.winLevel (s : State) (m : TrkIx) : Bool :=
  trkIxs.any fun n => decide (s.trkOwner n = s.pit.own.win[m] ∧ s.trkOwner n ≠ none) &&
    winIxs.any fun w =>
      let x := (s.tk n).windows[w]
      x.isOpen && x.action == 1 && x.target == m.val

/-- The count of the tracker ticks at the lane tick `t`: while the root is failed it steps by 2 at each WATCH cycle since the failure (R90,
R519). -/
def State.wheelTicks (s : State) (t : Ticks) : Nat :=
  if s.clk.runThrough ∧ s.clk.watchAt ≤ t then s.clk.watchAt / Config.wheelTick + 2 * ((t - s.clk.watchAt) / 4)
  else t / Config.wheelTick

/-- A WINDOW_EDGE event (R533) at the lane tick `t`. -/
def State.windowEdge (s : State) (n : TrkIx) (w : WinIx) (opening : Bool) (t : Ticks) : State :=
  let x := s.tk n
  let k := s.wheelTicks t - s.wheelTicks s.bell.boundaryAt
  s.trkEvent n 0x22 (word (w.val + bit01 opening * 2 ^ 8 + bit01 x.dir * 2 ^ 9 + bit01 s.clk.runThrough * 2 ^ 10)) x.angle
    (word k) (word (k / 65536))

/-- A window closes (R530); ONCE disarms it, unless it is to stay armed. -/
def State.closeWindow (s : State) (n : TrkIx) (t : Ticks) (w : WinIx) (stay : Bool := false) : State :=
  let x := (s.tk n).windows[w]
  if x.isOpen then
    let s := s.modTk n fun y => y.modWin w fun v => { v with isOpen := false, armed := v.armed && (stay || !v.once) }
    let s := s.traceWheel n 5 w.val (s.tk n).angle
    if x.action = 4 then s.windowEdge n w false t else s
  else s

/-- Every open window of a tracker closes, and stays armed, ONCE or not (R529, R590). -/
def State.closeWindows (s : State) (n : TrkIx) (t : Ticks) : State := winIxs.foldl (fun s w => s.closeWindow n t w true) s

/-- A burst starts, or is missed while one runs on the input (R536, R537). -/
def State.startBurst (s : State) (n : TrkIx) (w : WinIx) (m : AinIx) (burstN : Nat) : State :=
  match s.ana.burst[m], s.trkOwner n with
  | none, some p =>
    let b : Burst := ⟨n, w, p, burstN + 1, burstN + 1, 0, 4095, 0, (s.tk n).angle⟩
    { s with ana.burst := vset s.ana.burst m (some b) }
  | _, _ => { s with ana.burstMissed := vmod s.ana.burstMissed m satInc }

/-- A window opens (R530). -/
def State.openWindow (s : State) (n : TrkIx) (t : Ticks) (w : WinIx) : State :=
  let x := (s.tk n).windows[w]
  let s := s.modTk n fun y => y.modWin w fun v => { v with isOpen := true }
  let s := (s.count 0x13 n.val).traceWheel n 4 w.val (s.tk n).angle
  match x.action with
  | 2 => s.startBurst n w ⟨x.target, by unfold Window.target bits; omega⟩ x.burstN
  | 3 => s.windowEdge n w true t
  | 4 => s.windowEdge n w true t
  | _ => s

/-- One window at an update in SYNC that moved the angle from `a`: it closes where the angle left its arc or the
previous update passed over it, and opens at an entry that follows an update in SYNC (R528). -/
def State.evalWindow (n : TrkIx) (t : Ticks) (a : Word) (prev : Bool) (s : State) (w : WinIx) : State :=
  let v := (s.tk n).windows[w]
  let b := (s.tk n).angle
  let s := if v.isOpen && !(v.inArc b && v.inArc a) then s.closeWindow n t w else s
  let v := (s.tk n).windows[w]
  let enters := (v.inArc b && !v.inArc a) || v.passed (s.tk n).dir a b
  if v.armed && !v.isOpen && prev && enters && !s.dev.closed then s.openWindow n t w else s

/-- An angle update to `b` in SYNC, with the windows in ascending number (R517, R528, R534). -/
def State.angleUpdate (s : State) (n : TrkIx) (t : Ticks) (b : Word) : State :=
  let a := (s.tk n).angle
  let prev := (s.tk n).prevSync
  let s := s.modTk n fun x => { x with angle := b, prevSync := true }
  winIxs.foldl (State.evalWindow n t a prev) s

/-! ### Sync, prediction and commits -/

/-- The code of TRK_STATUS.SYNC. -/
def Sync.code : Sync → Nat
  | .unsync => 0
  | .confirm => 1
  | .sync => 2

/-- The sync state changes; outside SYNC no window is open (R529). -/
def State.setSync (s : State) (n : TrkIx) (y : Sync) (t : Ticks) : State :=
  if (s.tk n).sync = y then s
  else
    let s := if y = .sync then s else s.closeWindows n t
    (s.modTk n fun x => { x with sync := y, prevSync := x.prevSync && decide (y = .sync) }).traceWheel n 3 y.code
      (s.tk n).revCount

/-- The tracker leaves CONFIRM or SYNC; out of SYNC that is a loss, with its reason (R515, R516). -/
def State.loseSync (s : State) (n : TrkIx) (reason : Word) (t : Ticks) : State :=
  let was := (s.tk n).sync
  let s := s.setSync n .unsync t
  let s := s.modTk n fun x => { x with judged := false, bad := 0, hold := false, skip := false }
  if was = .sync then
    let s := (s.modTk n fun x => { x with syncLossCount := satInc x.syncLossCount }).count 0x12 n.val
    s.trkEvent n 0x20 0 reason (s.tk n).revCount 0
  else s

/-- The angle from tooth k after `m` micro-ticks (R517, R520). -/
def Tracker.angleAt (x : Tracker) (m : Nat) : Word :=
  let d := x.table.ahead x.dir x.tooth * m / 2 ^ x.kNow
  if x.dir then word (x.table.angle x.tooth) - word d else word (x.table.angle x.tooth) + word d

/-- The micro-ticks reached `e` ticks after the tooth instant, at most 2^K - 1: micro-tick m at ceil(m x P_exp / 2^K). -/
def Tracker.microsAt (x : Tracker) (e : Nat) : Nat :=
  min (2 ^ x.kNow - 1) (e * 2 ^ x.kNow * x.dBase / (x.pBase * x.table.ahead x.dir x.tooth))

/-- `e` ticks after the last tooth instant compared with the window's edges: before it opens, and past its close. -/
def Tracker.beforeWindow (x : Tracker) (e : Nat) : Bool :=
  decide (64 * e * x.dBase < (64 - x.live.tolerance) * x.pBase * x.table.ahead x.dir x.tooth)

/-- Past the window's close. -/
def Tracker.pastWindow (x : Tracker) (e : Nat) : Bool :=
  decide (64 * e * x.dBase > (64 + x.live.tolerance) * x.pBase * x.table.ahead x.dir x.tooth)

/-- The window has closed, its last instant included. -/
def Tracker.windowOver (x : Tracker) (e : Nat) : Bool :=
  decide (64 * e * x.dBase ≥ (64 + x.live.tolerance) * x.pBase * x.table.ahead x.dir x.tooth)

/-- P_exp exceeds SLOW_PERIOD (R513). -/
def Tracker.slowNow (x : Tracker) : Bool :=
  decide (x.pBase * x.table.ahead x.dir x.tooth > x.live.slow.toNat * 8000 * x.dBase)

/-- TOOTH_RATE, 14.2 Hz, of a period in ticks. -/
def toothRateOf (period : Nat) : Word := if period = 0 then 0xFFFF else satNat 16 (320000000 / period)

/-- The ticks from the last tooth instant to `p`. -/
def Tracker.since (x : Tracker) (p : Nat) : Nat := p - x.lastTooth.getD p

/-- PERIOD and TOOTH_RATE at a commit with this period (R504). -/
def Tracker.showPeriod (x : Tracker) (per : Nat) : Tracker := { x with period := satNat 28 per, toothRate := toothRateOf per }

/-- REV_COUNT as tooth `j` follows tooth `k` (R520, R521). -/
def Tracker.revAfter (x : Tracker) (k j : Nat) : Word :=
  if !x.dir ∧ j = 0 ∧ k + 1 = x.table.n then x.revCount + 1
  else if x.dir ∧ k = 0 ∧ j + 1 = x.table.n then x.revCount - 1
  else x.revCount

/-- The tooth after the last is committed in the present direction, its instant `p` and its period `per`; it is
synthetic or real. -/
def Tracker.advance (x : Tracker) (p per : Nat) (synthetic : Bool) : Tracker :=
  let k := x.tooth
  let j := x.table.next x.dir k
  let r := x.revAfter k j
  let y := x.showPeriod per
  { y with
    tooth := j
    revCount := r
    pBase := per
    dBase := x.table.ahead x.dir k
    prevPeriod := if synthetic || x.synth then none else some per
    lastTooth := some p
    synth := synthetic
    judged := false
    skip := false
    hold := false
    kNow := x.live.k }

/-- The forward revolution that a commit completed, for the tallies (R521). -/
def State.countRev (s : State) (n : TrkIx) (before : Tracker) : State :=
  if !before.dir ∧ before.table.next false before.tooth = 0 ∧ before.tooth + 1 = before.table.n then s.count 0x14 n.val
  else s

/-- The angle update of a commit at the lane tick `t`, in SYNC (R518). -/
def State.commitAngle (s : State) (n : TrkIx) (t : Ticks) : State :=
  let x := s.tk n
  if x.sync = .sync then
    let m := if x.hold then 0 else x.microsAt (x.since (s.wheelTicks t))
    (s.modTk n fun x => { x with micro := m }).angleUpdate n t (x.angleAt m)
  else s

/-- A good tooth in CONFIRM or SYNC (R511, R513, R515). -/
def State.goodTooth (s : State) (n : TrkIx) (p : Nat) (t : Ticks) : State :=
  let x := s.tk n
  let s := s.modTk n fun x => { x.advance p (x.since p) false with bad := 0, confirmed := min 2 (x.confirmed + 1), standstill := false }
  let s := (s.countRev n x).count 0x10 n.val
  let enters := decide (x.sync = .confirm ∧ 1 ≤ x.confirmed)
  let s := if enters then s.setSync n .sync t else s
  let s := if enters then s.trkEvent n 0x20 1 (word (bit01 x.table.free)) (s.tk n).revCount 0 else s
  let s := s.commitAngle n t
  s.traceWheel n 1 (s.tk n).tooth (s.tk n).angle

/-- P_exp in ticks, rounded down. -/
def Tracker.expected (x : Tracker) : Nat := x.pBase * x.table.ahead x.dir x.tooth / x.dBase

/-- A synthetic tooth at the lane tick `t` (R514): pulses in progress are discarded. -/
def State.syntheticTooth (s : State) (n : TrkIx) (t : Ticks) : State :=
  let x := s.tk n
  let s := s.modTk n fun x =>
    { x.advance (x.lastTooth.getD 0 + x.expected) x.expected true with
      synthCount := satInc x.synthCount, pulseStart := none, pulseEnd := none }
  let s := (s.countRev n x).count 0x11 n.val
  let s := s.commitAngle n t
  s.traceWheel n 2 (s.tk n).tooth (s.tk n).angle

/-- A bad verdict on the expected tooth (R514, R515); its window has closed by `t` where `closed` holds. -/
def State.badTooth (s : State) (n : TrkIx) (t : Ticks) (closed : Bool) : State :=
  let x := s.tk n
  match x.sync with
  | .unsync => s
  | .confirm => s.loseSync n 0 t
  | .sync =>
    if 1 ≤ x.bad then s.loseSync n 1 t
    else
      let s := s.modTk n fun x => { x with bad := 1, judged := true }
      if closed then s.syntheticTooth n t else s

/-- A window is watched: outside UNSYNC, and not where the next tooth is taken without a check. -/
def Tracker.watched (x : Tracker) : Bool := decide (x.sync ≠ .unsync) && !x.skip

/-- A pulse started no later than the close of the present window, and has not been judged. -/
def Tracker.pulsePending (x : Tracker) : Bool := x.pulseStart.any fun p => !x.pastWindow (x.since p)

/-- The close of the present window (R513, R514): a judged tooth becomes synthetic, an expected one is missing unless
P_exp exceeds SLOW_PERIOD or a pulse of the window is yet to be judged. -/
def State.windowEnd (s : State) (n : TrkIx) (t : Ticks) : State :=
  let x := s.tk n
  if x.judged then s.syntheticTooth n t
  else if x.pulsePending || x.slowNow then s
  else s.badTooth n t true

/-- Closes of windows that came before a pulse at `p` and were not yet reported. -/
def State.settleWindow (s : State) (n : TrkIx) (p : Nat) : State :=
  let x := s.tk n
  if x.watched && x.pastWindow (x.since p) && (x.judged || !x.slowNow) then s.windowEnd n (p * Config.wheelTick) else s

/-! ### Pulses (R502 to R504) -/

/-- A pulse's class. -/
inductive PulseClass where
  | forward
  | reverse
  | neutral
  | invalid
  deriving DecidableEq, Repr

/-- The class of a width in ticks (R502). -/
def TrackSet.classify (x : TrackSet) (w : Nat) : PulseClass :=
  let fits (c : Nat) : Bool := decide (3 * c ≤ 4 * w ∧ 3 * w ≤ 4 * c)
  if fits x.forwardTicks then .forward
  else if fits x.reverseTicks then .reverse
  else if fits x.neutralTicks then .neutral
  else .invalid

/-- A committed tooth in UNSYNC, a candidate or not (R509, R510, R523). -/
def State.freeTooth (s : State) (n : TrkIx) (p : Nat) (t : Ticks) (rev : Bool) : State :=
  let x := s.tk n
  let tb := x.table
  let turned := decide (rev ≠ x.dir)
  let per := x.since p
  let real := x.lastTooth.isSome && !turned && !x.synth
  let threshold (q : Nat) : Bool :=
    let d := if rev then tb.spacing 0 else tb.spacing (tb.n - 2)
    decide (2 * per * d ≥ q * (d + tb.gap))
  let candidate := x.seated && x.lastTooth.isSome && !turned &&
    (tb.free || (real && x.prevPeriod.any threshold))
  let k := if rev && !tb.free then tb.n - 1 else 0
  let s := s.modTk n fun x =>
    let y := if x.lastTooth.isSome then x.showPeriod per else x
    { y with
      dir := rev, lastTooth := some p, synth := false, prevPeriod := if real then some per else none,
      standstill := false, skip := false, hold := false, judged := false, bad := 0 }
  let s := s.count 0x10 n.val
  let s := if candidate then
      (s.modTk n fun x =>
        { x with tooth := k, pBase := per, dBase := tb.ahead (!rev) k, confirmed := 0, kNow := x.live.k }).setSync
        n .confirm t
    else s
  s.traceWheel n 1 (s.tk n).tooth (s.tk n).angle

/-- A reversal in SYNC: the last committed tooth again, in the new direction (R522). -/
def State.reversal (s : State) (n : TrkIx) (p : Nat) (t : Ticks) (rev : Bool) : State :=
  let s := s.modTk n fun x =>
    { x.showPeriod (x.since p) with
      dir := rev, lastTooth := some p, synth := false, prevPeriod := none, judged := false, hold := true, skip := true,
      micro := 0, standstill := false, kNow := x.live.k }
  let s := (s.count 0x10 n.val).commitAngle n t
  s.traceWheel n 1 (s.tk n).tooth (s.tk n).angle

/-- A tooth pulse in its decoded direction, where one is decoded (R513). -/
def State.toothPulse (s : State) (n : TrkIx) (p : Nat) (t : Ticks) (rev : Bool) : State :=
  let x := s.tk n
  let e := x.since p
  match x.sync with
  | .unsync => s.freeTooth n p t rev
  | y =>
    if x.watched && x.judged && !x.beforeWindow e then s
    else if rev ≠ x.dir then
      if y = .sync then s.reversal n p t rev else (s.loseSync n 0 t).freeTooth n p t rev
    else if x.skip then s.goodTooth n p t
    else if x.judged then s
    else if x.beforeWindow e then s.badTooth n t (x.windowOver (x.since (s.wheelTicks t)))
    else s.goodTooth n p t

/-- An ended pulse of `w` ticks that started at `p` (R502, R503, R513). -/
def State.pulse (s : State) (n : TrkIx) (p w : Nat) (t : Ticks) : State :=
  let s := (s.settleWindow n p).settleWindow n p
  let x := s.tk n
  match x.live.classify w with
  | .forward => (s.modTk n fun x => { x with dirUnknown := false }).toothPulse n p t false
  | .reverse => (s.modTk n fun x => { x with dirUnknown := false }).toothPulse n p t true
  | .neutral => (s.modTk n fun x => { x with dirUnknown := true }).toothPulse n p t x.dir
  | .invalid =>
    let s := s.modTk n fun x => { x with badPulse := satInc x.badPulse }
    if x.watched && !x.judged && !x.pastWindow (x.since p) then
      s.badTooth n t (x.windowOver (x.since (s.wheelTicks t)))
    else s

/-! ### Sensor supply (R34, R55, R56, R497, R499) -/

/-- WS_SUP_n goes off. -/
def State.wsOff (s : State) (n : TrkIx) : State :=
  s.modTk n fun x => { x with supply := false, holdoff := false, pulseStart := none, pulseEnd := none }

/-- The sensor term fits (R55, R56). -/
def State.wsAllowed (s : State) (p : Pitch) : Bool :=
  decide (s.pwr.granted ≠ 0) && !s.classShort && decide (s.lineSum p + Config.sensorMw ≤ (s.pit.front.line[p] : Rat))

/-- WS_DENIED bit `n`. -/
def State.setDenied (s : State) (n : TrkIx) (b : Bool) : State :=
  let m : BitVec 4 := BitVec.ofNat 4 (2 ^ n.val)
  { s with pwr.wsDenied := if b then s.pwr.wsDenied ||| m else s.pwr.wsDenied &&& ~~~m }

/-- WS_SUP_n is switched on where R34 and R55 permit, else kept off; the 100 ms after a short are waited out unless
`retry` says that they are over. WS_DENIED shows frontage or class alone, not a VGD out of range (log entry 74). -/
def State.wsTry (s : State) (n : TrkIx) (retry : Bool := false) : State :=
  let x := s.tk n
  match s.trkOwner n with
  | none => (s.wsOff n).setDenied n false
  | some p =>
    if !s.pwr.vgdOk then (s.wsOff n).setDenied n false
    else if x.supply || (x.retryDue && !retry) then s
    else if s.wsAllowed p then
      (s.modTk n fun x =>
        { x with
          supply := true, holdoff := true, retryDue := false, level := .low, pulseStart := none,
          pulseEnd := none }).setDenied n false
    else (s.modTk n fun x => { x with retryDue := false }).setDenied n true

/-- Every supply is tried (ASSIGN, VGD_RECOVER). -/
def State.wsTryAll (s : State) : State := s.eachTrk fun s n => s.wsTry n

/-- The WHEEL_SENSOR event after a clear: what is still set, 0 when both have cleared (R501). -/
def Tracker.sensorWord (x : Tracker) : Word := if x.wsShort then 2 else if x.wsOpen then 1 else 0

/-- The tracker hears its sensor. -/
def State.wsHeard (s : State) (n : TrkIx) : Bool := s.alive && !(s.tk n).holdoff

/-! ### WHEEL_LOAD_TABLE, WINDOW_ARM and WINDOW_DISARM (R505 to R508, R525 to R527) -/

/-- The tracker named in argument word 3 [13:12]. -/
def Desc.tracker (d : Desc) : TrkIx := ⟨bits d.w3 12 2, by unfold bits; omega⟩

/-- STAGE: entries into the staging table (R505, R506). -/
def State.stageTable (s : State) (d : Desc) : State × Result :=
  let n := Desc.tracker d
  let count := bits d.w3 8 2 + 1
  let first := bits d.w3 0 7
  let bad := bits d.w3 10 2 != 0 || bit d.w3 7 || decide (128 < first + count)
    || (d.tail4.drop count).any fun w => w != 0
  if bad then (s, { status := stInconsistent })
  else
    (s.modTk n fun x =>
      { x with staging := Vector.ofFn fun i =>
          if first ≤ i.val ∧ i.val < first + count then d.tail4.getD (i.val - first) 0 else x.staging[i] },
     { status := stOk })

/-- SEAT: the staged table is checked and seated (R507, R508). -/
def State.seatTable (s : State) (d : Desc) : State × Result :=
  let n := Desc.tracker d
  let count := bits d.w4 0 8
  let table : ToothTable := { free := bit d.w4 15, teeth := (s.tk n).staging.toList.take count }
  let bad := bits d.w3 0 12 != 0 || bits d.w4 8 7 != 0 || d.w5 != 0 || d.w6 != 0 || d.w7 != 0
    || decide (128 < count) || table.bad
  if bad then (s, { status := stInconsistent })
  else
    let s := s.loseSync n 3 s.now
    (s.modTk n fun x => { x with table := table, seated := true },
     { status := stOk, r0 := word count, r1 := word ((table.teeth.map BitVec.toNat).sum) })

/-- WHEEL_LOAD_TABLE for pitch `p`: the descriptor's operation decides. -/
def State.loadTable (s : State) (p : Pitch) (d : Desc) : State × Result :=
  if s.ownsTrk p (Desc.tracker d) then
    match bits d.w3 14 2 with
    | 0 => s.stageTable d
    | 1 => s.seatTable d
    | _ => (s, { status := stInconsistent })
  else (s, { status := stNoObject })

/-- WINDOW_ARM's third check fails (R525). -/
def armBad (d : Desc) : Bool :=
  let w : Window := { cfg := d.w6 }
  let a := w.action
  bits d.w3 14 2 != 0 || bits d.w3 4 8 != 0 || d.w7 != 0 || d.w4 == d.w5 || bits d.w6 14 2 != 0 || bit d.w6 7
    || a == 0 || a > 4 || (a == 1 && w.target > 3) || (a != 2 && w.burstN != 0) || (a > 2 && w.target != 0)

/-- The window's TARGET names a WIN pin or an input that the pitch does not own (R525). -/
def State.targetForeign (s : State) (p : Pitch) (w : Window) : Bool :=
  (w.action == 1 && w.target ≤ 3 && s.pit.own.win[w.target]? != some (some p))
    || (w.action == 2 && s.pit.own.ain[w.target]? != some (some p))

/-- WINDOW_ARM for pitch `p` (R525, R526). -/
def State.armWindow (s : State) (p : Pitch) (d : Desc) : State × Result :=
  let n := Desc.tracker d
  let w : WinIx := ⟨bits d.w3 0 4, by unfold bits; omega⟩
  let v : Window := { start := d.w4, stop := d.w5, cfg := d.w6, armed := true }
  if !s.ownsTrk p n || s.targetForeign p v then (s, { status := stNoObject })
  else if armBad d then (s, { status := stInconsistent })
  else
    let s := (s.closeWindow n s.now w).modTk n fun x => x.modWin w fun _ => v
    (s, { status := stOk, r0 := (s.tk n).armedMask })

/-- The windows of a mask disarmed, closing those that are open. -/
def State.disarm (s : State) (n : TrkIx) (mask : Word) : State :=
  winIxs.foldl (fun s w =>
    if bit mask w.val then (s.closeWindow n s.now w).modTk n fun x => x.modWin w fun v => { v with armed := false }
    else s) s

/-- WINDOW_DISARM for pitch `p` (R527). -/
def State.disarmWindows (s : State) (p : Pitch) (d : Desc) : State × Result :=
  let n := Desc.tracker d
  if !s.ownsTrk p n then (s, { status := stNoObject })
  else if bits d.w3 14 2 != 0 || bits d.w3 0 12 != 0 || d.w5 != 0 || d.w6 != 0 || d.w7 != 0 then
    (s, { status := stInconsistent })
  else
    let s := s.disarm n d.w4
    (s, { status := stOk, r0 := (s.tk n).armedMask })

/-! ### The order of a tracker tick (R534) -/

/-- What an event does to its tracker at `t`: a pulse that ended is decoded, checked and committed (R504, R513); a window's close judges the
expected tooth (R514); the next micro-tick moves the angle (R517, R520). -/
def State.wheelAct (s : State) (n : TrkIx) (e : WheelEvent) (t : Ticks) : State :=
  let s := s.tick t
  let x := s.tk n
  match e with
  | .tooth =>
    match x.pulseStart, x.pulseEnd with
    | some p, some q => (s.modTk n fun x => { x with pulseStart := none, pulseEnd := none }).pulse n p (q - p) t
    | _, _ => s
  | .close => if x.watched ∧ x.windowOver (x.since (s.wheelTicks t)) then s.windowEnd n t else s
  | .micro =>
    if x.sync = .sync ∧ !x.hold ∧ x.micro < x.microsAt (x.since (s.wheelTicks t)) then
      let m := x.micro + 1
      (s.modTk n fun x => { x with micro := m }).angleUpdate n t (x.angleAt m)
    else s

/-- The instants lie in one tracker tick. -/
def State.sameWheelTick (s : State) (t u : Ticks) : Bool := s.wheelTicks t == s.wheelTicks u

/-- A tooth of tracker `n` is committed in the tracker tick of `t` by a row that stands behind. -/
def State.toothWaits (s : State) (n : TrkIx) (t : Ticks) : Bool :=
  s.pending.any fun i => match i with
    | .toothCommit m u | .toothWindowClose m u => decide (m = n) && s.sameWheelTick t u
    | _ => false

/-- What goes before an event of tracker `n` in its tick has not all been done: the commands of a bell boundary, and before an angle update
the tooth (R534). -/
def State.wheelHeld (s : State) (n : TrkIx) (e : WheelEvent) (t : Ticks) : Bool :=
  s.boundaryOpen (s.sameWheelTick t) || (decide (e = .micro) && s.toothWaits n t)

/-- An event of tracker `n` waits. -/
def State.wheelWait (s : State) (n : TrkIx) (e : WheelEvent) (t : Ticks) : State :=
  s.modTk n fun x => { x with waiting := x.waiting ++ [⟨e, t⟩] }

/-- A micro-tick of tracker `n` at `t` updates the angle, or waits. -/
def State.wheelMicro (s : State) (n : TrkIx) (t : Ticks) : State :=
  if s.wheelHeld n .micro t then s.wheelWait n .micro t else s.wheelAct n .micro t

/-- The events of tracker `n` that waited act: teeth first, then micro-ticks, of which some may wait on (R534). -/
def State.wheelServe (s : State) (n : TrkIx) : State :=
  let w := (s.tk n).waiting
  let s := s.modTk n fun x => { x with waiting := [] }
  let s := (w.filter fun x => decide (x.event ≠ .micro)).foldl (fun s x => s.wheelAct n x.event x.at_) s
  (w.filter fun x => decide (x.event = .micro)).foldl (fun s x => s.wheelMicro n x.at_) s

/-- A tooth of tracker `n` at `t` is committed, and the micro-ticks that waited for it follow; or it waits. -/
def State.wheelTooth (s : State) (n : TrkIx) (e : WheelEvent) (t : Ticks) : State :=
  if s.wheelHeld n e t then s.wheelWait n e t else (s.wheelAct n e t).wheelServe n

/-! ### Rows -/

/-- WS_LEVEL_CHANGE: a new level is in force (R496); a HIGH starts a pulse, the level after it ends the pulse, and
leaving MID ends SENSOR_WARN (R500). -/
def execWsLevelChange (n : TrkIx) (level : WsLevel) (t : Ticks) (s : State) : Host.Outcome State Fault Refusal :=
  let s := s.tick t
  let p := s.wheelTicks t
  if s.wsHeard n ∧ (s.tk n).level ≠ level then
    .next (s.modTk n fun x =>
      { x with
        level := level
        sensorWarn := x.sensorWarn && decide (level = .mid)
        pulseStart := if level = .high then some p else x.pulseStart
        pulseEnd := if level = .high then none else if x.level = .high ∧ x.pulseStart.isSome then some p else x.pulseEnd })
  else .next s

/-- TOOTH_COMMIT: the pulse that ended is decoded, checked and committed (R504, R513). -/
def execToothCommit (n : TrkIx) (t : Ticks) (s : State) : Host.Outcome State Fault Refusal := .next (s.wheelTooth n .tooth t)

/-- TOOTH_WINDOW_CLOSE: the window of the expected tooth has closed (R514). -/
def execToothWindowClose (n : TrkIx) (t : Ticks) (s : State) : Host.Outcome State Fault Refusal := .next (s.wheelTooth n .close t)

/-- MICRO_TICK: the next micro-tick of the tooth interval (R517, R520). -/
def execMicroTick (n : TrkIx) (t : Ticks) (s : State) : Host.Outcome State Fault Refusal := .next (s.wheelMicro n t)

/-- STANDSTILL: STILL_TIME without a tooth instant (R524). -/
def execStandstill (n : TrkIx) (s : State) : Host.Outcome State Fault Refusal :=
  .next (s.modTk n fun x => { x with standstill := true, toothRate := 0, skip := true })

/-- WS_OPEN: below the open boundary for 1 ms (R498, R501, R516). -/
def execWsOpen (n : TrkIx) (s : State) : Host.Outcome State Fault Refusal :=
  if s.wsHeard n ∧ !(s.tk n).wsOpen then
    let s := (s.modTk n fun x => { x with wsOpen := true }).loseSync n 2 s.now
    .next (s.trkEvent n 0x24 1 0 0 0)
  else .next s

/-- WS_OPEN_CLEAR: at LOW or above for 1 ms (R498). -/
def execWsOpenClear (n : TrkIx) (s : State) : Host.Outcome State Fault Refusal :=
  if s.wsHeard n ∧ (s.tk n).wsOpen then
    let s := s.modTk n fun x => { x with wsOpen := false }
    .next (s.trkEvent n 0x24 (s.tk n).sensorWord 0 0 0)
  else .next s

/-- WS_SHORT: above the short boundary for 100 us, the supply on or not; WS_SUP_n goes off (R499). -/
def execWsShort (n : TrkIx) (s : State) : Host.Outcome State Fault Refusal :=
  if s.wsHeard n then
    let new := !(s.tk n).wsShort
    let s := (s.wsOff n).modTk n fun x => { x with wsShort := true, retryDue := true }
    let s := s.loseSync n 2 s.now
    .next (if new then s.trkEvent n 0x24 2 0 0 0 else s)
  else .next s

/-- WS_SUPPLY_RETRY: 100 ms after a short the supply is tried again (R499). -/
def execWsSupplyRetry (n : TrkIx) (s : State) : Host.Outcome State Fault Refusal :=
  if (s.tk n).retryDue then .next ((s.wsTry n true).modTk n fun x => { x with retryDue := false }) else .next s

/-- WS_HOLDOFF_END: WS_n is read again (R497). -/
def execWsHoldoffEnd (n : TrkIx) (s : State) : Host.Outcome State Fault Refusal :=
  .next (s.modTk n fun x => { x with holdoff := false })

/-- WS_SHORT_CLEAR: 2 ms past the hold-off without a short (R499, R501). -/
def execWsShortClear (n : TrkIx) (s : State) : Host.Outcome State Fault Refusal :=
  if s.wsHeard n ∧ (s.tk n).wsShort ∧ (s.tk n).supply then
    let s := s.modTk n fun x => { x with wsShort := false }
    .next (s.trkEvent n 0x24 (s.tk n).sensorWord 0 0 0)
  else .next s

/-- SENSOR_WARN: at MID for 1 ms without a break (R500). -/
def execSensorWarn (n : TrkIx) (s : State) : Host.Outcome State Fault Refusal :=
  if s.wsHeard n ∧ (s.tk n).level = .mid then .next (s.modTk n fun x => { x with sensorWarn := true }) else .next s

end Sys2Proof.Machine
end

