-- ==== Sys2Proof/Machine/Gate.lean ====
section
/-! DEFINITION. Gate drive: gate faults and their retry, VGD, PIN mode, off-state diagnosis and self-test, and the rows
GATE_FAULT to SELFTEST_END (chapter 13). -/

namespace Sys2Proof.Machine

/-- The code of a gate fault's kind (R465). -/
def gateKindCode : GateKind → BitVec 4
  | .vdsHigh => 1
  | .vdsLow => 2
  | .vgsHigh => 3
  | .vgsLow => 4
  | .bootstrap => 5

/-- Retries in the last 10 000 bells (R470). -/
def LaneGate.recent (g : LaneGate) (bellNo : Nat) : Nat :=
  (g.retries.filter fun b => bellNo < b + Config.retryWindow).length

/-- A gate fault of a kind shown and counted, with its event (R469). -/
def State.gateReport (s : State) (n : LaneIx) (kind : BitVec 4) (hb : PhaseIx) (escalated : Bool) : State :=
  let r := (s.ln n).gate.recent s.bell.bellNo
  let s := s.modLn n fun l =>
    { l with gate := { l.gate with
        kind := kind, hb := BitVec.ofNat 2 hb.val, faultCount := satInc l.gate.faultCount } }
  (s.count 0x05 n.val).laneEvent n 0x14 (word kind.toNat) (word hb.val) (word r) (word (bit01 escalated))

/-- What a gate fault interrupts (R472); a stopped SERIAL lane has nothing to resume (log entry 35), and a stall's restart wait resumes as
ALIGN (log entry 82). -/
def Lane.resumeOf (l : Lane) : Resume :=
  if l.gate.waiting then l.gate.resume
  else
    match l.com.state with
    | .run => .run
    | .stopped => if l.pin then .pin else .stopped
    | _ => .align

/-- What the start of a retry wait at `t` sets. -/
def Lane.waitSet (t : Ticks) (l : Lane) : Lane :=
  { l with
    gate := { l.gate with resume := l.resumeOf, waiting := true, lateRow := none, rowMeasured := false, rowCurrent := false }
    com.waitFrom := t
    car := { l.car.dropRows with onPhase := false } }

/-- The retry wait starts with all six gates off; a SERIAL lane shows RESTART_WAIT (R471). -/
def State.startWait (s : State) (n : LaneIx) (t : Ticks) : State :=
  let r := (s.ln n).resumeOf
  let s := s.modLn n (Lane.waitSet t)
  (if r = .pin then s else s.laneState n .restartWait).gatesOff n t

/-- GATE_FAULT: the lane's gates turn off, and a retry wait starts or the latch sets (R466 to R471). On a STOPPING lane the stop ends at
once (R473). -/
def execGateFault (n : LaneIx) (k : PhaseIx) (kind : GateKind) (t : Ticks) (mv : Int) (s : State) :
    Host.Outcome State Fault Refusal :=
  let s := s.laneTick n t
  let l := s.ln n
  if l.gate.set.live.watches l.car.bridges[k] kind t mv then
    let s := (s.latchTask n t).gatesOff n t
    let code := gateKindCode kind
    if l.com.state = .stopping then .next ((s.gateReport n code k false).toStopped n t)
    else
      let escalates := decide (l.gate.set.live.retryMax ≤ l.gate.recent s.bell.bellNo)
      let s := s.gateReport n code k escalates
      if escalates then .next ((s.setLatch n (BitVec.ofNat 8 (0x40 + k.val)) t).drive n t) else .next (s.startWait n t)
  else .next s

/-- A retry counted at the end of its wait (R470, R472). -/
def Lane.retrySet (bellNo : Nat) (l : Lane) : Lane :=
  { l with
    gate.waiting := false
    gate.retries := bellNo :: l.gate.retries.filter fun b => bellNo < b + Config.retryWindow }

/-- The lane resumes after its retry wait (R472); one that was stopped is stopped again (log entry 35). -/
def State.resume (s : State) (n : LaneIx) (t : Ticks) : State :=
  let l := s.ln n
  match l.gate.resume with
  | .pin => s.drivePins n t
  | .stopped => s.toStopped n t
  | .align => s.enterAlign n t
  | .run =>
    if l.com.set.live.revLimit < l.com.speedMeas ∧ l.com.rotDir = l.com.dir then
      let x := l.tracked t
      s.enterRunTurning n t x.1 x.2.1 x.2.2
    else s.enterAlign n t

/-- RETRY_RESUME: RETRY_WAIT has passed; one retry is counted and the lane resumes (R472). -/
def execRetryResume (n : LaneIx) (t : Ticks) (s : State) : Host.Outcome State Fault Refusal :=
  let s := s.laneTick n t
  let l := s.ln n
  if l.gate.waiting ∧ l.com.waitFrom + l.gate.set.live.retryWait * Config.ticksPerMs ≤ t then
    .next ((s.modLn n (Lane.retrySet s.bell.bellNo)).resume n t)
  else .next s

/-! ### Measurements and tests -/

/-- A diagnosis in progress is aborted (R480). -/
def State.abortDiag (s : State) (n : LaneIx) : State :=
  match (s.ln n).ops.measure with
  | some m =>
    match m.kind, m.ended with
    | .diag _, none => (s.modLn n fun l => { l with ops.measure := none }).finish m.what stCalCondition 0 0 8 0
    | _, _ => s
  | none => s

/-- Every diagnosis in progress is aborted. -/
def State.abortDiags (s : State) : State := s.eachLane fun s n => s.abortDiag n

/-- The reading of phase `k`. -/
def DiagReading.of (r : DiagReading) (k : PhaseIx) : Nat :=
  match k.val with
  | 0 => r.u.toNat
  | 1 => r.v.toNat
  | _ => r.w.toNat

/-- A phase mask. -/
def phaseMask (f : PhaseIx → Bool) : Nat := (phaseIxs.map fun k => if f k then 2 ^ k.val else 0).sum

/-- The verdict of an off-state diagnosis: code in [3:0], mask in [6:4] (R478). -/
def verdict (r : Vector DiagReading 4) (vb : Nat) : BitVec 7 :=
  let sink (p : PhaseIx) : Nat := r[0].of p
  let src (x p : PhaseIx) : Nat := (r.toList.getD (x.val + 1) {}).of p
  let others (p : PhaseIx) : List PhaseIx := phaseIxs.filter fun x => decide (x ≠ p)
  let bulk (p : PhaseIx) : Bool := decide (vb ≤ sink p + 15)
  let gnd (x : PhaseIx) : Bool := decide (src x x ≤ 10)
  let leak (p : PhaseIx) : Bool := decide (10 < sink p) || phaseIxs.any fun x => decide (10 < src x p ∧ src x p < 60)
  let open_ (p : PhaseIx) : Bool :=
    (others p).all (fun x => decide (src x p ≤ 10)) &&
      (others p).all fun x => (others p).all fun y => x == y || decide (60 ≤ src x y)
  let low (p : PhaseIx) : Bool := phaseIxs.any fun x => decide (src x p ≤ 10)
  let pick (code : Nat) (f : PhaseIx → Bool) : BitVec 7 := BitVec.ofNat 7 (phaseMask f * 16 + code)
  if phaseIxs.any bulk then pick 1 bulk
  else if phaseIxs.any gnd then pick 2 gnd
  else if phaseIxs.any leak then pick 3 leak
  else if (phaseIxs.filter open_).length = 1 then pick 4 open_
  else if phaseIxs.any low then pick 5 low
  else 0

/-- DIAG_STEP_END: a step's readings are taken; after the last the verdict is reached (R476, R478, R479). -/
def execDiagStepEnd (n : LaneIx) (u v w : BitVec 10) (s : State) : Host.Outcome State Fault Refusal :=
  match (s.ln n).ops.measure with
  | some m =>
    match m.kind, m.ended with
    | .diag step, none =>
      let r := vset (s.ln n).gate.diagNew step ⟨u, v, w⟩
      let s := s.modLn n fun l => { l with gate.diagNew := r }
      if h : step.val < 3 then
        let m' := { m with kind := .diag ⟨step.val + 1, by omega⟩ }
        .next (s.modLn n fun l => { l with ops.measure := some m' })
      else if m.disturbed then
        .next ((s.modLn n fun l => { l with ops.measure := some { m with ended := some false } }).finish m.what
          stCalCondition 0 0 2 0)
      else
        let x := verdict r m.vb.toNat
        .next ((s.modLn n fun l => { l with ops.measure := some { m with ended := some true, cmp := x } }).finish m.what
          stOk (word x.toNat) (word m.vb.toNat) 0 0)
    | _, _ => .next s
  | none => .next s

/-- SELFTEST_END: the pass bits are taken (R482). -/
def execSelftestEnd (n : LaneIx) (cmp : BitVec 7) (vds : BitVec 6) (s : State) : Host.Outcome State Fault Refusal :=
  match (s.ln n).ops.measure with
  | some m =>
    if m.kind = .selftest ∧ m.ended = none then
      .next ((s.modLn n fun l =>
        { l with ops.measure := some { m with ended := some true, cmp := cmp, vds := vds } }).finish m.what stOk
          (word cmp.toNat) (word vds.toNat) 0 0)
    else .next s
  | none => .next s

/-- What a passed measurement changes at the boundary that posts its completion (R399, R431, R479, R482, R489). -/
def Lane.takeMeasured (l : Lane) (m : Measuring) : Lane :=
  match m.kind with
  | .calibrate => { l with sense.offset := m.offset }
  | .reseat => { l with sense.offset := m.offset, com.profile := m.profile, com.seated := true }
  | .diag _ =>
    let g := { l.gate with diagResult := m.cmp, diagVb := m.vb, diag := l.gate.diagNew }
    { l with gate := if m.cmp = 0 then
        { g with openPhase := 0, openUnverified := false, blindPeriods := 0, dryRows := Vector.replicate 3 0 } else g }
  | .selftest => { l with gate.selfCmp := m.cmp, gate.selfVds := m.vds }

/-- An ended measurement is settled at a boundary. -/
def Lane.settle (l : Lane) : Lane :=
  match l.ops.measure with
  | some m =>
    match m.ended with
    | some true => { l.takeMeasured m with ops.measure := none }
    | some false => { l with ops.measure := none }
    | none => l
  | none => l

/-! ### VGD (R467, R468) -/

/-- VGD_FAULT: every gate is held off, running lanes stop as COAST, and the sensor supplies go off (R467, R468, R34). -/
def execVgdFault (t : Ticks) (overVoltage : Bool) (s : State) : Host.Outcome State Fault Refusal :=
  let s := s.lanesTick t
  let was := s.pwr.vgdOk
  let s := { s with pwr := { s.pwr with vgdOk := false, buckOn := false, vgdUv := !overVoltage, vgdOv := overVoltage } }
  let s := s.abortDiags
  if was then
    let s := s.eachLane fun s n =>
      if (s.ln n).running then ((s.gateReport n 6 0 false).endStart n 7).toStopped n t else s.gatesOff n t
    .next (s.eachTrk fun s n => s.wsTry n)
  else .next s

/-- VGD_RECOVER: VGD is in its window (R467, R656), so the buck runs where R48 and R658 let it; PIN-mode lanes follow their
pins and the supplies are tried. -/
def execVgdRecover (t : Ticks) (s : State) : Host.Outcome State Fault Refusal :=
  let s := s.lanesTick t
  if s.atSettled then
    let s := { s with pwr := { s.pwr with
      vgdOk := true, vgdUv := false, vgdOv := false, buckOn := s.pwr.buckOn || (s.pwr.lineOk && !s.pwr.ovStop) } }
    let s := s.eachLane fun s n => s.drivePins n t
    .next s.wsTryAll
  else .next s

/-! ### PIN mode (R459 to R462) -/

/-- PIN_INPUT_CHANGE: new levels of PULSE_h and EN_h are in force (R460); low on either ends a trip hold (R462). -/
def execPinInputChange (h : LaneIx) (pulse en : Bool) (t : Ticks) (s : State) : Host.Outcome State Fault Refusal :=
  let n : LaneIx := ⟨h.val / 3, by omega⟩
  let k : PhaseIx := ⟨h.val % 3, by omega⟩
  let s := s.laneTick n t
  if s.alive then
    let s := s.modLn n fun l =>
      { l with car.bridges := vmod l.car.bridges k fun b =>
          { b with pulse := pulse, en := en, tripHold := b.tripHold && pulse && en } }
    .next (s.drivePins n t)
  else .next s

end Sys2Proof.Machine
end

