-- ==== Sys2Proof/Machine/Closure.lean ====
section
/-! DEFINITION. Market closure: the causes, what a closure does to the device, and the reopening (chapter 16). -/

namespace Sys2Proof.Machine

/-- A closure report joins the events of this bell; reports of one bell rise by cause code (R591; chapter 16, *Limits and
edges*). -/
def insertClosure (e : EventOut) : List EventOut → List EventOut
  | [] => [e]
  | x :: r =>
    if x.pitch = e.pitch ∧ x.entry.w0 = 0 ∧ x.entry.w1 = 3 ∧ e.entry.w4 < x.entry.w4 then e :: x :: r
    else x :: insertClosure e r

/-- Word 5 of a T_CLOSE report for pitch `p` (R597). -/
def State.closeSensorWord (s : State) (p : Pitch) (i : SensorIx) : Word :=
  if h : i.val < 6 then
    let owner := (s.laneOwner ⟨i.val, h⟩).getD 0
    if owner = p then word i.val else 0x00FF
  else word i.val

/-- The CLOSURE event of cause code `c` for every pitch (R591, R597). -/
def State.closureEvents (s : State) (c : Nat) (sensor : Option SensorIx) : State :=
  s.eachPitch fun s p =>
    let w5 := match sensor with
      | some i => s.closeSensorWord p i
      | none => 0
    let e := s.eventEntry 0 0 0x03 (word c) w5 (word s.dev.arisen.toNat) 0
    { s with q.events := insertClosure ⟨p, e⟩ s.q.events }

/-- The closure record (chapter 16, *Registers*): the first cause is the lower code of the first bell. -/
def Device.recordCause (d : Device) (c : Nat) (epoch : DWord) : Device :=
  let code : BitVec 3 := BitVec.ofNat 3 c
  let d' := { d with arisen := d.arisen ||| BitVec.ofNat 4 (2 ^ (c - 1)) }
  if d.arisen = 0 then
    { d' with closed := true, closeFirst := code, closeEpoch := epoch, closeCount := satInc d.closeCount }
  else if d.closeEpoch = epoch ∧ code < d.closeFirst then { d' with closeFirst := code }
  else d'

/-- A RUN_THROUGH lane keeps commutating: ROOT_FAIL is the only arisen cause (R587). -/
def State.runsThrough (s : State) (n : LaneIx) : Bool :=
  decide (s.dev.arisen = 4) && runThroughPolicy (s.ln n).car.policy

/-- A running lane that a closure stops is STOPPED at its safe levels (R586). -/
def State.closeRunning (s : State) (n : LaneIx) (line : Bool) (t : Ticks) : State :=
  let s := s.endStart n 3
  (s.modLn n fun l => { l with latch.forcedAt := t, ops.lineLoss := l.ops.lineLoss || line }).toStopped n t

/-- Lane `n` as cause by cause arises (R586 to R589): a running lane stops at its safe levels, but for a RUN_THROUGH lane under ROOT_FAIL
alone. As the market closes any other lane is forced to its safe levels, `was` telling that it was before, and a retry wait ends, also that
of a RUN_THROUGH lane (R474); a later cause leaves both as they are. -/
def State.closeLane (closes was line : Bool) (t : Ticks) (s : State) (n : LaneIx) : State :=
  let l := s.ln n
  if l.running then
    if s.runsThrough n ∧ !(closes ∧ l.gate.waiting) then s else s.closeRunning n line t
  else if !closes then s
  else if was then (s.modLn n fun l => { l with gate.waiting := false }).drive n t
  else ((s.modLn n fun l => { l with latch.forcedAt := t, gate.waiting := false }).gatesOff n t).drive n t

/-- Cause `c` (1 T_CLOSE, 2 LINE_COLLAPSE, 3 ROOT_FAIL, 4 FUSE_SENSE) is declared at `t` (R585 to R591). A cause that is
arisen already is not reported again (log entry 28); one that arises while the market is closed is recorded and reported, stops the lanes
that ran through (R587), and changes nothing else (R589), a REOPEN that has passed its checks included (log entry 29). -/
def State.declareCause (s : State) (c : Nat) (t : Ticks) (sensor : Option SensorIx) : State :=
  if !s.atJoined then s
  else if bit s.dev.arisen (c - 1) then s
  else
    let was := s.dev.closed
    let held : Vector Bool 6 := Vector.ofFn fun n => s.forced n
    let s := { s with dev := s.dev.recordCause c s.bell.epoch }
    let s := s.closureEvents c sensor
    let s :=
      if was then s
      else
        let s := { s with dev.power := if s.dev.power = Power.market then Power.seeded else s.dev.power }
        (s.fuseStop.abortDiags).eachTrk fun s n => s.closeWindows n t
    s.eachLane fun s n => s.closeLane (!was) held[n] (c == 2) t n

/-- The market opens at a boundary after a REOPEN that passed (R594, R595). -/
def State.reopenMarket (s : State) : State :=
  if s.dev.reopenNext then
    let s := { s with dev := { s.dev with closed := false, arisen := 0, closeFirst := 0, reopenNext := false } }
    let s := s.closureEvents 0 none
    s.eachLane fun s n => if (s.ln n).running then s else s.releaseSafe n s.now id
  else s

/-- REOPEN of pitch `p` (R592, R593). -/
def State.reopenCommand (s : State) (p : Pitch) (d : Desc) : State × Result :=
  if p ≠ 0 then (s, { status := stNoObject })
  else if d.w3 ≠ 0 ∨ d.tail4.any (· != 0) then (s, { status := stInconsistent })
  else if !s.dev.closed then (s, { status := stOk })
  else
    let s := if bit s.dev.arisen 3 ∧ !senseFails s.fuse.array then { s with fuse.critFail := false } else s
    if s.present ≠ 0 then (s, { status := stClosed, r0 := word s.present.toNat })
    else ({ s with dev.reopenNext := true }, { status := stOk, r0 := word s.dev.arisen.toNat })

end Sys2Proof.Machine
end

