-- ==== Sys2Proof/Machine/Heat.lean ====
section
/-! DEFINITION. The thermal watch: samples, broken sensors, limits, heat stops, derating and heat estimates, and the rows
THERMAL_CONVERSION, THERMAL_SAMPLE, RATE_UPDATE and THERMAL_LIMIT_WRITE (chapter 15). -/

namespace Sys2Proof.Machine

/-! ### Sensors, neighbours, levels -/

/-- The neighbours of a sensor (R547). -/
def neighbours (i : SensorIx) : List SensorIx :=
  match i.val with
  | 0 => [1, 2, 7]
  | 1 => [0, 2, 7]
  | 2 => [1, 3, 7]
  | 3 => [2, 4, 7]
  | 4 => [3, 5, 7]
  | 5 => [3, 4, 7]
  | 6 => [2, 3, 7]
  | 7 => [1, 4, 6]
  | 8 => [9, 10]
  | 9 => [8, 10]
  | 10 => [8, 9]
  | 11 => [12, 13]
  | 12 => [11, 13]
  | _ => [11, 12]

/-- A usable neighbour: evaluated, sampled, and neither substituted, unavailable nor stale. -/
def Sensor.usable (x : Sensor) : Bool :=
  x.hasSample && !x.notEvaluated && !x.substituted && !x.unavailable && !x.stale

/-- The latest samples of the usable neighbours. -/
def Thermal.nearby (h : Thermal) (i : SensorIx) : List Int :=
  (neighbours i).filterMap fun j => if h.sensor[j].usable then some h.sensor[j].temp else none

/-- The median: the middle value of three, or the mean of two (chapter 15, §2). -/
def medianOf : List Int → Option Int
  | [a, b] => some (roundHalfAway (a + b) 2)
  | [a, b, c] => some (max (min a b) (min (max a b) c))
  | _ => none

/-- The median of a sensor's usable neighbours, none where there are fewer than two. -/
def Thermal.median (h : Thermal) (i : SensorIx) : Option Int := medianOf (h.nearby i)

/-- The lane a sensor belongs to, none for TS_6 and TS_7. -/
def sensorLane (i : SensorIx) : Option LaneIx :=
  if h : i.val < 6 then some ⟨i.val, h⟩
  else if h : 8 ≤ i.val then some ⟨i.val - 8, by omega⟩
  else none

/-- The lanes on which a sensor acts (R557). -/
def lanesOf (i : SensorIx) : List LaneIx := (sensorLane i).elim laneIxs fun n => [n]

/-- The sensors that act on a lane. -/
def sensorsOf (n : LaneIx) : List SensorIx := [tsIx n, ntcIx n, 6, 7]

/-- Warn and stop levels in 1/16 K (R556). -/
def State.levels (s : State) (i : SensorIx) : Int × Int :=
  match sensorLane i with
  | some n =>
    if i.val < 8 then (s.heat.tWarn, s.heat.tStop)
    else
      let w := (s.ln n).heat.live.ntcLim
      (bits w 0 8 * 16, bits w 8 8 * 16)
  | none => (s.heat.tWarn, s.heat.tStop)

/-- The ceiling of R562: T_CLOSE, or the NTC's stop level plus 15 K. -/
def State.ceiling (s : State) (i : SensorIx) : Int :=
  if i.val < 8 then Config.tClose else (s.levels i).2 + 240

/-- An available sensor with a value: it enters predictions (R562). A stale one holds its last value and rate (R546). -/
def Sensor.available (x : Sensor) : Bool := x.hasSample && !x.notEvaluated && !x.unavailable

/-- A sensor that enters derating: unavailable and stale ones do not (chapter 15, §6). -/
def Sensor.counts (x : Sensor) : Bool := x.available && !x.stale

/-- Who gets a sensor's events: its lane's owner, or P0 (R578). -/
def State.sensorPitch (s : State) (i : SensorIx) : Pitch :=
  match sensorLane i with
  | some n => (s.laneOwner n).getD 0
  | none => 0

/-- A thermal event of sensor `i`: its object is the sensor's lane, or the device. -/
def State.heatEvent (s : State) (p : Pitch) (i : SensorIx) (cause : Nat) (w5 w6 w7 : Word) : State :=
  match sensorLane i with
  | some n => s.eventFor p 0x01 n.val cause (word i.val) w5 w6 w7
  | none => s.eventFor p 0x00 0 cause (word i.val) w5 w6 w7

/-- A rate as RATE_i shows it, 0.25 K/s per LSB. -/
def rateShown (x : Int) : Int := clampInt (-32768) 32767 (roundHalfAway (500 * x) 1024)

/-- TEMP_i. -/
def Sensor.tempWord (x : Sensor) : Word := if x.unavailable then 0x8000 else sword x.temp

/-- SENSOR_STATE_i. -/
def Sensor.stateWord (x : Sensor) : Word :=
  flagBit x.notEvaluated 8 ||| flagBit x.stale 7 ||| flagBit x.unavailable 6 ||| flagBit x.substituted 5
    ||| flagBit x.rateFlag 4 ||| flagBit x.stop 3 ||| flagBit x.warn 2 ||| word x.rung.toNat

/-! ### Derating (R570) -/

/-- f_x of one sensor. -/
def State.derate (s : State) (i : SensorIx) : Rat :=
  let x := s.sn i
  let (w, stop) := s.levels i
  let f : Rat := max 0 (min 1 (((stop - x.temp : Int) : Rat) / ((stop - w : Int) : Rat)))
  if x.rateFlag then min f (1 / 2) else f

/-- ILIM_TH of lane `n`. -/
def State.thermalLimit (s : State) (n : LaneIx) : BitVec 10 :=
  let f := ((sensorsOf n).filter fun i => (s.sn i).counts).foldl (fun m i => min m (s.derate i)) 1
  if f = 1 then 0x3FF else BitVec.ofNat 10 (((s.ln n).sense.set.live.limit.toNat : Rat) * f).floor.toNat

/-- ILIM_TH recomputed (R570). -/
def State.rederate (s : State) (n : LaneIx) : State :=
  let th := s.thermalLimit n
  s.modLn n fun l => ({ l with sense.ilimTh := th }).limitsChanged

/-! ### Heat stops (R562 to R568) -/

/-- t_p of lane `n` in ms (R562); none is infinite. -/
def State.predict (s : State) (n : LaneIx) : Option Rat :=
  let one (i : SensorIx) : Option Rat :=
    let x := s.sn i
    if x.available ∧ 2000 * x.rate > 8192 then some (512 * ((s.ceiling i - x.temp : Int) : Rat) / (x.rate : Rat)) else none
  (sensorsOf n).foldl (fun m i =>
    match m, one i with
    | some a, some b => some (min a b)
    | some a, none => some a
    | none, b => b) none

/-- t_p as an event shows it. -/
def predictWord (t : Option Rat) : Word :=
  match t with
  | some x => satNat 16 x.floor.toNat
  | none => 0xFFFF

/-- An orderly heat stop of lane `n`: LANE_STOP in its stop mode, watched by R564. -/
def State.heatOrderly (s : State) (n : LaneIx) (t : Ticks) : State :=
  let s := s.beginStop n t (s.ln n).com.set.live.stopMode false none 6 false
  s.modLn n fun l => { l with com.stopping := l.com.stopping.map fun st =>
    if st.since = t then { st with orderlyHeat := true } else st }

/-- The declared stop time of R562 in ms: that of STOP_MODE, 0 where R443 makes the stop a COAST. -/
def Lane.declared (l : Lane) : Nat := l.declaredMs (l.modeAs l.com.set.live.stopMode)

/-- The heat stop of one running lane: whether it is orderly, and t_p (R562, R563, R565). -/
def State.heatStopLane (s : State) (n : LaneIx) (t : Ticks) : State × Bool × Option Rat :=
  let tp := s.predict n
  let orderly := match tp with
    | some x => decide (x > ((s.ln n).declared + 10 : Nat))
    | none => true
  (if orderly then s.heatOrderly n t else s.beginStop n t .brake true none 6 false, orderly, tp)

/-- The shorter of two predictions. -/
def shorter (a b : Option Rat) : Option Rat :=
  match a, b with
  | some x, some y => some (min x y)
  | some x, none => some x
  | none, y => y

/-- One lane that a heat stop stops: its owner, whether its path is immediate, and its t_p. -/
structure HeatStopped where
  owner : Option Pitch
  immediate : Bool
  left : Option Rat

/-- The THERMAL_STOP of pitch `p` for the lanes `l`: word 6 tells an immediate stop of one of them, word 7 their least t_p (R578; log
entry 51). -/
def State.heatStopEvent (s : State) (i : SensorIx) (p : Pitch) (l : List HeatStopped) : State :=
  s.heatEvent p i 0x31 (s.sn i).tempWord (word (bit01 (l.any HeatStopped.immediate)))
    (predictWord ((l.map HeatStopped.left).foldl shorter none))

/-- The heat stop of lane `n`, if it runs, joins those of the other lanes. -/
def heatStopStep (t : Ticks) (acc : State × List HeatStopped) (n : LaneIx) : State × List HeatStopped :=
  if (acc.1.ln n).running then
    let (s, orderly, tp) := acc.1.heatStopLane n t
    (s, acc.2 ++ [{ owner := s.laneOwner n, immediate := !orderly, left := tp }])
  else acc

/-- STOP was set on sensor `i`: every running lane it acts on takes a heat stop; one THERMAL_STOP goes to the sensor's own recipient, about
every stopped lane, and one to each other owner of stopped lanes, about its own (R563, R578; log entry 51). -/
def State.heatStop (s : State) (i : SensorIx) (t : Ticks) : State :=
  let r := (lanesOf i).foldl (heatStopStep t) (s, [])
  let first := r.1.sensorPitch i
  let s := r.1.heatStopEvent i first r.2
  s.eachPitch fun s p =>
    let l := r.2.filter fun x => x.owner == some p
    if p = first ∨ l.isEmpty then s else s.heatStopEvent i p l

/-- R564: an orderly heat stop under way since before this sample, which the prediction no longer covers, becomes immediate, and the lane's
owner and the sensor's recipient hear of it (R578, R596). The sample that begins an orderly stop has decided its path (R563, R566). -/
def State.heatRecheck (s : State) (i : SensorIx) (n : LaneIx) (t : Ticks) : State :=
  let l := s.ln n
  match l.com.stopping, s.predict n with
  | some st, some tp =>
    let left := st.since + st.declaredMs * Config.ticksPerMs - t
    if st.orderlyHeat ∧ st.since < t ∧ tp * Config.ticksPerMs ≤ (left : Rat) then
      let m := l.stopMode .brake true
      let s := s.applyStop n t m (l.declaredMs m) true
      s.eachPitch fun s p =>
        if s.laneOwner n = some p ∨ p = s.sensorPitch i then s.heatEvent p i 0x31 (s.sn i).tempWord 1 (predictWord (some tp)) else s
    else s
  | _, _ => s

/-! ### A sample (R545 to R556) -/

/-- NTC `i` may be cross-checked: its own lane and those of its evaluated neighbours have been stopped for 60 s (R549). -/
def State.idleFor (s : State) (i : SensorIx) (t : Ticks) : Bool :=
  (i :: (neighbours i).filter fun j => !(s.sn j).notEvaluated).all fun j =>
    match sensorLane j with
    | some n => !(s.ln n).running && decide ((s.ln n).ops.stoppedAt + 60000 * Config.ticksPerMs ≤ t)
    | none => true

/-- The cross-check's verdict on a sample: `some true` counts, `some false` clears, none does neither (R548, R549). -/
def State.crossCheck (s : State) (i : SensorIx) (t : Ticks) (own : Int) : Option Bool :=
  let v := s.heat.nearby i
  match medianOf v with
  | some m =>
    let agree := v.all fun a => v.all fun b => decide (a - b ≤ 80)
    if agree ∧ (i.val < 8 ∨ s.idleFor i t = true) then some (decide (240 < (own - m).natAbs)) else none
  | none => none

/-- A sensor judged at its own sample: counts of R545 and R548, and the reason it is found broken. -/
def State.judge (s : State) (i : SensorIx) (t : Ticks) (own : Int) : State × Option Nat :=
  let x := s.sn i
  let o := if x.sawOpen then x.openRun + 1 else 0
  let k := if x.sawShort then x.shortRun + 1 else 0
  let b := match s.crossCheck i t own with
    | some true => x.breakRun + 1
    | some false => 0
    | none => x.breakRun
  let s := s.modSn i fun x => { x with openRun := min o 3, shortRun := min k 3, breakRun := min b 3 }
  (s, if 3 ≤ o then some 1 else if 3 ≤ k then some 2 else if 3 ≤ b then some 0 else none)

/-- A substituted sensor has too few usable neighbours: it is unavailable, its flags clear with their events (R578; log entry 53), and its own
running lane takes an orderly heat stop without prediction (R551, R566). -/
def State.becomeUnavailable (s : State) (i : SensorIx) (t : Ticks) : State :=
  let x := s.sn i
  let s := s.modSn i fun x =>
    { x with unavailable := true, warn := false, stop := false, rateFlag := false, rung := 0 }
  let s := if x.warn then s.heatEvent (s.sensorPitch i) i 0x30 0x8000 0 0 else s
  let s := if x.rateFlag then s.heatEvent (s.sensorPitch i) i 0x33 (sword (rateShown x.rate)) 0 0 else s
  let s := s.heatEvent (s.sensorPitch i) i 0x32 (sword (s.sn i).own) 0x8000 3
  match sensorLane i with
  | some n =>
    if (s.ln n).running then
      let s := s.heatOrderly n t
      match s.laneOwner n with
      | some p => s.heatEvent p i 0x31 0x8000 2 0
      | none => s
    else s
  | none => s

/-- The rung of the sampling ladder (R552). -/
def State.rungOf (s : State) (i : SensorIx) : BitVec 2 :=
  let x := s.sn i
  let (w, stop) := s.levels i
  let limits := if i.val < 8 then [w, stop, Config.tClose] else [w, stop]
  let near (d : Nat) : Bool := limits.any fun l => decide ((x.temp - l).natAbs ≤ d)
  if x.rateFlag || near 48 then 2 else if near 160 then 1 else 0

/-- The limits of a sensor's new value (R556). -/
def State.limitsOf (s : State) (i : SensorIx) (t : Ticks) : State :=
  let x := s.sn i
  let (w, st) := s.levels i
  let warn := if w ≤ x.temp then true else if x.temp < w - 80 then false else x.warn
  let stop := if st ≤ x.temp then true else if x.temp < w then false else x.stop
  let s := s.modSn i fun x => { x with warn := warn, stop := stop }
  let s := if warn = x.warn then s
    else s.heatEvent (s.sensorPitch i) i 0x30 x.tempWord (word (bit01 warn)) 0
  let s := if stop ∧ !x.stop then s.heatStop i t else s
  if i.val < 8 ∧ Config.tClose ≤ x.temp then s.declareCause 1 t (some i) else s

/-- What every sample does on the lanes its sensor acts on: ILIM_TH (R570), R564 and R569. -/
def State.sampleActs (s : State) (i : SensorIx) (t : Ticks) : State :=
  (lanesOf i).foldl (fun s n =>
    let s := (s.rederate n).heatRecheck i n t
    if (s.ln n).pin then s.drivePins n t else s) s

/-- A sensor's value from its own sample or its neighbours (R550, R551), and what follows from it. -/
def State.takeSample (s : State) (i : SensorIx) (t : Ticks) : State :=
  let x := s.sn i
  let value (s : State) (v : Int) : State :=
    let s := s.modSn i fun x => { x with temp := v, hasSample := true }
    let s := s.limitsOf i t
    let r := s.rungOf i
    (s.modSn i fun x => { x with rung := r }).sampleActs i t
  if x.substituted then
    match s.heat.median i with
    | some m => value s m
    | none => (s.becomeUnavailable i t).sampleActs i t
  else value s x.own

/-- THERMAL_SAMPLE: the mean of the conversions since the last sample is evaluated (R544 to R553, R556). -/
def execThermalSample (i : SensorIx) (t : Ticks) (s : State) : Host.Outcome State Fault Refusal :=
  let s := s.lanesTick t
  let x := s.sn i
  if !s.atSettled then .next s
  else if x.notEvaluated ∨ x.unavailable ∨ x.stale then
    .next (s.modSn i fun x => { x with sum := 0, count := 0, rung := 0 })
  else
    let own := if x.count = 0 then x.own else roundHalfAway x.sum x.count
    let s := s.modSn i fun x => { x with own := own, sum := 0, count := 0 }
    if x.substituted then .next (s.takeSample i t)
    else
      match s.judge i t own with
      | (s, none) => .next (s.takeSample i t)
      | (s, some reason) =>
        let sub := match s.heat.median i with
          | some m => sword m
          | none => 0x8000
        let s := s.modSn i fun x => { x with substituted := true }
        let s := s.heatEvent (s.sensorPitch i) i 0x32 (sword own) sub (word reason)
        .next (s.takeSample i t)

/-- The offset and slope trim of die sensor `i` from word 0x00A + i / 2 (chapter 05, *Region 0*). -/
def dieTrim (trims : Vector DWord 16) (i : Fin 8) : Word :=
  let w : DWord := trims.toList.getD (10 + i.val / 2) 0
  if i.val % 2 = 0 then lo16 w else hi16 w

/-- A raw die conversion corrected: the slope trim in [15:8], and the signed offset in [7:0] at 0.25 K per LSB (R542; log entry 52). -/
def dieCorrected (trim : Word) (raw : Int) : Int :=
  Config.dieSlope (BitVec.ofNat 8 (bits trim 8 8)) raw + 4 * (trim.setWidth 8).toInt

/-- THERMAL_CONVERSION: a die conversion, in 1/16 K, is corrected by the sensor's trim and joins the next sample (R542). -/
def execThermalConversion (i : Fin 8) (raw : Int) (s : State) : Host.Outcome State Fault Refusal :=
  if s.atSettled then
    let j : SensorIx := ⟨i.val, by omega⟩
    let own := dieCorrected (dieTrim s.fuse.trims i) raw
    .next (s.modSn j fun x => { x with sum := x.sum + own, count := x.count + 1 })
  else .next s

/-! ### Rate of rise (R554, R555) -/

/-- Updates in a rate window: 8 of 8 ms for a die sensor, 64 for an NTC. -/
def rateWindow (i : SensorIx) : Nat := if i.val < 8 then 8 else 64

/-- A sensor's new rate, none before a whole window of updates. -/
def Sensor.newRate (x : Sensor) (i : SensorIx) : Option Int :=
  x.hist[rateWindow i - 1]?.map fun old => (x.temp - old) * if i.val < 8 then 8 else 1

/-- The rate limit of a sensor in K/s. -/
def Thermal.rateLimit (h : Thermal) (i : SensorIx) : Nat := if i.val < 8 then h.dieRateLim.toNat else h.ntcRateLim.toNat

/-- One sensor at an 8 ms update. -/
def State.rateStep (s : State) (i : SensorIx) : State :=
  let x := s.sn i
  if x.notEvaluated ∨ x.unavailable ∨ x.stale ∨ !x.hasSample then s.modSn i fun x => { x with hist := [] }
  else
    let hist := (x.temp :: x.hist).take 64
    match x.newRate i with
    | none => s.modSn i fun x => { x with hist := hist }
    | some r =>
      let above := decide (1000 * r > 8192 * (s.heat.rateLimit i : Int))
      let hi := if above then min 2 (x.rateHigh + 1) else 0
      let lo := if above then 0 else min 2 (x.rateLow + 1)
      let flag := if hi = 2 then true else if lo = 2 then false else x.rateFlag
      let s := s.modSn i fun x => { x with hist := hist, rate := r, rateHigh := hi, rateLow := lo, rateFlag := flag }
      if flag = x.rateFlag then s
      else s.heatEvent (s.sensorPitch i) i 0x33 (sword (rateShown r)) (word (bit01 flag)) 0

/-- RATE_UPDATE: every evaluated sensor's rate and RATE flag (R554, R555). -/
def execRateUpdate (t : Ticks) (s : State) : Host.Outcome State Fault Refusal :=
  let s := s.tick t
  if s.atSettled then .next (sensorIxs.foldl State.rateStep s) else .next s

/-! ### Limits as registers (R559, R560) -/

/-- T_WARN and T_STOP in degrees satisfy R560. -/
def limitsFit (warn stop : Nat) : Bool :=
  decide (100 ≤ warn ∧ warn ≤ 140 ∧ 120 ≤ stop ∧ stop ≤ 155 ∧ warn + 10 ≤ stop)

/-- A write by P0 of DIE_WARN, DIE_STOP, DIE_RATE_LIM or NTC_RATE_LIM: it applies at the next boundary, or is ignored
(R559, R560). -/
def Thermal.limitWrite (h : Thermal) (addr : Nat) (data : Word) : Thermal :=
  let v : Byte := data.setWidth 8
  let warn := h.dieWarnNext.getD h.dieWarn
  let stop := h.dieStopNext.getD h.dieStop
  match addr with
  | 0x30 => if limitsFit v.toNat stop.toNat then { h with dieWarnNext := some v } else h
  | 0x31 => if limitsFit warn.toNat v.toNat then { h with dieStopNext := some v } else h
  | 0x32 => { h with dieRateNext := some v }
  | 0x33 => { h with ntcRateNext := some v }
  | _ => h

/-- Accepted limits apply at a boundary (R559). -/
def Thermal.takeLimits (h : Thermal) : Thermal :=
  { h with
    dieWarn := h.dieWarnNext.getD h.dieWarn
    dieStop := h.dieStopNext.getD h.dieStop
    dieRateLim := h.dieRateNext.getD h.dieRateLim
    ntcRateLim := h.ntcRateNext.getD h.ntcRateLim
    dieWarnNext := none
    dieStopNext := none
    dieRateNext := none
    ntcRateNext := none }

/-! ### The figures of a boundary (R571 to R574) -/

/-- HEAT_EST of a lane for the bell just ended, and the counters of the next. -/
def Lane.heatBoundary (l : Lane) : Lane :=
  let h := l.heat
  let now := l.running || (l.pin && !l.allOff)
  let est := if h.ran || now then
      min 32767 ((if h.count = 0 then 0 else h.sumSq * h.live.gain.toNat / (h.count * 65536)) + h.live.sw.toNat)
    else 0
  { l with heat := { h with est := est, sumSq := 0, count := 0, ran := false } }

/-- floor(limit x sqrt(front / sum)) for front below sum. -/
def frontLimit (limit front sum : Nat) : Nat :=
  ((List.range limit).filter fun m => (m + 1) * (m + 1) * sum ≤ limit * limit * front).length

/-- ILIM_FR of lane `n` (R574). -/
def State.frontageLimit (s : State) (n : LaneIx) : BitVec 10 :=
  match s.laneOwner n with
  | some p =>
    if s.heat.warm ∧ s.pit.front.heat[p] < s.heat.heatSum[p] then
      BitVec.ofNat 10 (frontLimit (s.ln n).sense.set.live.limit.toNat s.pit.front.heat[p] s.heat.heatSum[p])
    else 0x3FF
  | none => 0x3FF

/-- Heat estimates, sums and frontage derating at a boundary. -/
def State.heatBoundary (s : State) : State :=
  let s := { s with heat := s.heat.takeLimits }
  let s := s.eachLane fun s n => s.modLn n Lane.heatBoundary
  let sum (p : Pitch) : Nat :=
    (laneIxs.map fun n => if s.laneOwner n = some p then (s.ln n).heat.est else 0).sum
  let s := { s with heat.heatSum := Vector.ofFn fun p => min 32767 (sum p) }
  s.eachLane fun s n =>
    let fr := s.frontageLimit n
    s.modLn n fun l => ({ l with sense.ilimFr := fr }).limitsChanged

end Sys2Proof.Machine
end

