-- ==== Sys2Proof/Machine/PowerRows.lean ====
section
/-! DEFINITION. Line power: the rows LINE_GOOD to OVERDRAW_CLEAR (chapter 03). -/

namespace Sys2Proof.Machine

/-- The VGD buck may start: from SETTLED, with LINE_OK at 1 and no over-voltage stop (R48, R166, R658). -/
def State.buckStart (s : State) : State :=
  { s with pwr.buckOn := s.pwr.buckOn || (s.atSettled && s.pwr.lineOk && !s.pwr.ovStop) }

/-- LINE_GOOD: LINE_OK is set, the buck may start (R46), and safe levels of an aborted orderly stop end (R69, R71; log
entry 30). -/
def execLineGood (t : Ticks) (s : State) : Host.Outcome State Fault Refusal :=
  let s := s.lanesTick t
  if s.alive then
    let s := { s with pwr.lineOk := true, pwr.orderly := false }
    let s := s.buckStart
    .next (s.eachLane fun s n =>
      if (s.ln n).latch.safeLine then
        s.releaseSafe n t fun s => s.modLn n fun l => { l with latch.safeLine := false }
      else s)
  else .next s

/-- An INSERT handshake in progress is abandoned and the flashing stays closed (R79). -/
def State.abandonInsert (s : State) : State :=
  { s with ring := { s.ring with
    insertPending := false, answered := none, grant := none, aOpen := s.ring.aOpen && s.ring.inserted } }

/-- The holdup decision takes the orderly path: t_h of the last boundary is at least 40 ms (R66). -/
def State.holdsUp (s : State) : Bool := s.atJoined && s.pwr.thComputed && decide (400 ≤ s.pwr.holdTime.toNat)

/-- LINE_LOSS_DECLARED: LINE_OK clears; every running lane takes an orderly stop and the retry wait of a PIN-mode lane ends (R474), or
the market closes and every lane goes to safe levels (R47, R66 to R68, R79). -/
def execLineLossDeclared (t : Ticks) (s : State) : Host.Outcome State Fault Refusal :=
  let s := s.lanesTick t
  if s.pwr.lineOk then
    let s := ({ s with pwr.lineOk := false }).pwrEventSet 0x0001
    let s := s.abandonInsert
    if s.holdsUp then
      let s := { s with pwr.orderly := true }
      .next (s.eachLane fun s n =>
        let l := s.ln n
        if l.running then s.beginStop n t l.com.set.live.stopMode false none 4 true else s.endPinWait n t)
    else .next (s.declareCause 2 t none)
  else .next s

/-- Line loss forces the safe levels of a lane, and causes its stop (R69, R70). -/
def Lane.lineForced (l : Lane) : Lane := { l with latch.safeLine := true, ops.lineLoss := true }

/-- HOLDUP_ABORT: VHOLD below 25 V during an orderly stop: lanes still stopping go to safe levels (R69), and line loss has caused their stop,
also where they were in one of their own (R70). The orderly stop counts as under way until the line is good again, also once every lane
has stopped (log entry 36). -/
def execHoldupAbort (t : Ticks) (s : State) : Host.Outcome State Fault Refusal :=
  let s := s.lanesTick t
  if s.pwr.orderly then
    let s := s.pwrEventSet 0x0008
    .next (s.eachLane fun s n =>
      if (s.ln n).com.state = .stopping then
        s.forceSafe n t 4 fun s => s.modLn n Lane.lineForced
      else s)
  else .next s

/-- LINE_OV_WARN (R46, R49). -/
def execLineOvWarn (t : Ticks) (s : State) : Host.Outcome State Fault Refusal :=
  let s := s.tick t
  if s.alive then .next (({ s with pwr.lineOv := true }).pwrEventSet 0x0002) else .next s

/-- LINE_OV_CLEAR (R658). -/
def execLineOvClear (s : State) : Host.Outcome State Fault Refusal := .next { s with pwr.lineOv := false }

/-- LINE_OV_STOP: the buck stops, and every running lane latches with `LATCH_SRC` 0x60 (R50, R658). -/
def execLineOvStop (t : Ticks) (s : State) : Host.Outcome State Fault Refusal :=
  let s := s.lanesTick t
  if s.alive then
    let s := { s with pwr.ovStop := true, pwr.buckOn := false }
    .next (s.eachLane fun s n => if (s.ln n).running then s.setLatch n 0x60 t else s)
  else .next s

/-- LINE_OV_STOP_CLEAR: the stop no longer asserts, and the buck starts again while LINE_OK is 1 (R658). -/
def execLineOvStopClear (s : State) : Host.Outcome State Fault Refusal :=
  .next ({ s with pwr.ovStop := false }).buckStart

/-- HOLD_CAP_MEASURED: C in uF from the charging time in us at 20 mA over 10 V, saturating at 2000 (R63), rounded down (log entry
37). -/
def execHoldCapMeasured (chargeMicros : Nat) (s : State) : Host.Outcome State Fault Refusal :=
  if s.alive then .next { s with pwr.holdCap := word (min 2000 (chargeMicros / 500)) } else .next s

/-- OVERDRAW_SET: eight bells in a row above the class by more than 10 % (R58). -/
def execOverdrawSet (t : Ticks) (s : State) : Host.Outcome State Fault Refusal :=
  let s := s.tick t
  if 8 ≤ s.pwr.overRun then .next (({ s with pwr.overdraw := true }).pwrEventSet 0x0004) else .next s

/-- OVERDRAW_CLEAR: eight bells in a row within the class (R59). -/
def execOverdrawClear (s : State) : Host.Outcome State Fault Refusal :=
  if 8 ≤ s.pwr.underRun then .next { s with pwr.overdraw := false } else .next s

/-! ### The figures of a boundary (R58, R59, R64, R65) -/

/-- The runs of R58 and R59 after a bell of `mw`. -/
def PowerLine.drawRuns (x : PowerLine) (mw : Nat) : PowerLine :=
  match classMw x.granted with
  | none => { x with overRun := 0, underRun := 0 }
  | some c =>
    if 11 * c < 10 * mw then { x with overRun := min 8 (x.overRun + 1), underRun := 0 }
    else if mw ≤ c then { x with overRun := 0, underRun := min 8 (x.underRun + 1) }
    else { x with overRun := 0, underRun := 0 }

/-- The mean of the averages measured, 0 without any (R64). -/
def meanDraw (l : List Nat) : Rat := if l = [] then 0 else (l.sum : Rat) / l.length

/-- t_h in 0.1 ms, rounded down: C (V_H^2 - (24 V)^2) / (2 P_h) (R64). -/
def holdTimeOf (capMicro volts10mV : Nat) (ph : Rat) : Nat :=
  if volts10mV ≤ 2400 then 0
  else ((capMicro * (volts10mV ^ 2 - 2400 ^ 2) : Nat) / (2000 * ph)).floor.toNat

/-- LINE_P_MEAS, the runs, t_h and HOLD_OK at a boundary. -/
def State.powerBoundary (s : State) (mw : Nat) : State :=
  let x := s.pwr.drawRuns mw
  let x := { x with draws := (mw :: x.draws).take 8, lineMeas := satNat 16 mw }
  let m := meanDraw x.draws
  let ph := if m < s.lineTotal then s.lineTotal else m
  let th := holdTimeOf x.holdCap.toNat x.vholdV.toNat ph
  { s with pwr := { x with holdTime := satNat 16 th, holdOk := decide (400 ≤ th), thComputed := true } }

end Sys2Proof.Machine
end

