-- ==== Sys2Proof/Machine/Startup.lean ====
section
/-! DEFINITION. Start-up: device reset, the state ladder, seeding, and the rows LIT to DRBG_RESEED (chapters 06 and 08). -/

namespace Sys2Proof.Machine

/-! ### Device reset (R179 to R183) -/

/-- What a device reset leaves: every register at its reset value but `RESET_CAUSE` and `HOLD_CAP`; the fuse array with a word
in progress left partly programmed (R146), the level of RST_N, the instant, and since when each lane stands still (R549) stay. The device
has entered reset now. -/
def State.deviceReset (s : State) (cause holdCap : Word) : State :=
  let m := s.leavePartial.fuse.array
  { pending := s.pending
    now := s.now
    dev := { resetCause := cause, resetAt := s.now }
    pwr := { holdCap := holdCap }
    host := { rstLow := s.host.rstLow }
    fuse := { array := m, image := m }
    lane := vmap (fun l =>
      ({ ops := { stoppedAt := if l.com.state = .stopped then l.ops.stoppedAt else s.now } } : Lane)) s.lane }

/-- The 20 us since the device entered reset have passed at `t` (R164, R183). -/
def State.resetOver (s : State) (t : Ticks) : Bool := decide (s.dev.resetAt + Config.resetTicks ≤ t)

/-- LIT: the hold rail passes the LIT threshold, 20 us or more after the device entered reset (R164). -/
def execLit (t : Ticks) (s : State) : Host.Outcome State Fault Refusal :=
  if s.dev.power = Power.dark ∧ !s.dev.resetWait ∧ s.resetOver t then .next { s.tick t with dev.power := .lit } else .next s

/-- POWER_RESET: the hold rail falls below the reset threshold: RESET_CAUSE reads only POWER (R182). -/
def execPowerReset (t : Ticks) (s : State) : Host.Outcome State Fault Refusal := .next ((s.tick t).deviceReset 1 0)

/-- A WATCH-check or safety-monitor reset: the cause joins RESET_CAUSE, HOLD_CAP stays (R181, R659), and LIT comes again after
20 us (R183). -/
def State.softReset (s : State) (cause : Word) : State :=
  let r := s.deviceReset (s.dev.resetCause ||| cause) s.pwr.holdCap
  { r with dev.resetWait := true }

/-- MONITOR_CHALLENGE: from SETTLED, the monitor challenges the engine (R179). -/
def execMonitorChallenge (s : State) : Host.Outcome State Fault Refusal :=
  if s.atSettled then .next { s with dev.challenge := true } else .next s

/-- SAFETY_MONITOR_RESET: a challenge stayed unanswered for 200 us (R179). -/
def execSafetyMonitorReset (t : Ticks) (s : State) : Host.Outcome State Fault Refusal :=
  if s.atSettled ∧ s.dev.challenge then .next ((s.tick t).softReset 4) else .next s

/-- RESET_RELEASE: 20 us after the reset the device re-enters LIT, provided the hold rail stands above the reset threshold; if
it does not, that is a power reset (R179, R183). -/
def execResetRelease (t : Ticks) (holdRailUp : Bool) (s : State) : Host.Outcome State Fault Refusal :=
  if s.dev.resetWait ∧ s.resetOver t then
    if holdRailUp then .next { s.tick t with dev.power := .lit, dev.resetWait := false }
    else .next ((s.tick t).deviceReset 1 0)
  else .next s

/-! ### The ladder (R164) -/

/-- The policy default of lane `n` in word 0x101. -/
def policyDefault (cfg101 : DWord) (n : LaneIx) : Word := word (bits cfg101 (4 * n.val) 3)

/-- FUSE_SENSE_DONE: trims, configuration, life cycle and identity are fixed, and the device enters SENSED (R121, R124, R125,
R403). -/
def execFuseSenseDone (s : State) : Host.Outcome State Fault Refusal :=
  if s.dev.power = Power.lit then
    let m := s.fuse.array
    let cfg0 := sensedConfig m 0x100
    let cfg1 := sensedConfig m 0x101
    let cfg2 := sensedConfig m 0x102
    let s := { s with
      dev.power := .sensed
      fuse := { s.fuse with
        image := m
        lifecycle := lifeCycleOf m
        trims := Vector.ofFn fun i => sensedTrim m i.val
        cfg100 := cfg0
        cfg101 := cfg1
        cfg102 := cfg2
        senseDone := true
        critFail := senseFails m }
      pit.hostPitch := ⟨bits cfg0 9 3, by unfold bits; omega⟩
      pwr.request := BitVec.ofNat 2 (bits cfg0 12 2)
      host.leaseLen := if bits cfg2 0 8 = 0 then 1 else BitVec.ofNat 8 (bits cfg2 0 8) }
    .next (s.eachLane fun s n => s.modLn n fun l =>
      { l with
        car.policy := policyDefault cfg1 n
        car.policyShadow := policyDefault cfg1 n
        sense.offset := s.factoryOffset n l.sense.set.live.gain })
  else .next s

/-- SETTLED: the PLL is locked to the crystal, the host port lives, the VGD buck may start and seeding starts (R86, R164,
R166). With the crystal in use XTAL_OK becomes 1 (log entry 42). -/
def execSettled (t : Ticks) (s : State) : Host.Outcome State Fault Refusal :=
  if s.dev.power = Power.sensed then
    let s := { s.tick t with
      dev.power := .settled
      dev.settledAt := t
      clk.pllLock := true
      clk.xtalOk := true
      clk.rootOk := true }
    .next s.buckStart
  else .next s

/-- SEEDED is entered once JOINED, a healthy DRBG and KEYS_DONE hold together; SEED_TIME is in 0.1 ms (R164, chapter 06,
*SEED_TIME*). -/
def State.enterSeeded (s : State) : State :=
  if s.dev.power = Power.joined ∧ s.pit.drbgHealthy ∧ s.fuse.keysDone then
    { s with dev.power := .seeded, dev.seedTime := satNat 16 ((s.now - s.dev.settledAt) / 16000), pit.seededOnce := true }
  else s

/-- KEY_SLOT_SELECT: every pitch's active slot is selected and KEYS_DONE set (R126, R153); `weak` lists the slots whose validity
word fails its margin read. -/
def execKeySlotSelect (weak : List Nat) (s : State) : Host.Outcome State Fault Refusal :=
  if s.atSettled ∧ !s.fuse.keysDone then
    let s := { s with
      fuse.weak := weak
      fuse.keyActive := Vector.ofFn fun p => activeSlot s.fuse.image s.serial weak p.val
      fuse.keysDone := true }
    .next s.enterSeeded
  else .next s

/-- The flashing opens at `t`: JOINED, with the class granted, `JOINED_SEEN`, the lease set to end L bells after the first boundary (R321),
the sensor supplies tried and a failed critical word closing the market (R178, R125, R34). -/
def State.join (s : State) (cls : BitVec 2) (t : Ticks) : State :=
  let s := ({ s with
    dev.power := .joined
    pwr.granted := cls
    host := { s.host with leaseOn := true, leaseOut := false, leaseLeft := s.host.leaseLen.toNat } }).devEventSet 0x0001
  let s := (s.wsTryAll).enterSeeded
  if s.fuse.critFail then s.declareCause 4 t none else s

/-! ### Seeding (R167 to R176, R264 to R267, R652) -/

/-- Both health tests take one raw bit: the tests after it, and whether the repetition-count and the adaptive-proportion cutoff are
reached (R264). -/
def Entropy.test (e : Entropy) (b : Bool) : Entropy × Bool × Bool :=
  let run := if e.rctBit = b then e.rctRun + 1 else 1
  let fresh := decide (e.aptSeen = 0 ∨ e.aptSeen = Config.aptWindow)
  let same := if fresh then 1 else e.aptSame + bit01 (b == e.aptBit)
  ({ e with
      rctBit := b
      rctRun := run
      aptBit := if fresh then b else e.aptBit
      aptSeen := if fresh then 1 else e.aptSeen + 1
      aptSame := same },
    decide (run = Config.rctCutoff), decide (same = Config.aptCutoff))

/-- A health test fails: the pool and any DRBG instance are discarded and seeding restarts from the start-up bits (R265, R652). Once SEEDED
has been entered, every session is dropped and the state returns to JOINED (R175, R176, R267, R273). -/
def State.healthFail (s : State) (rct apt : Bool) : State :=
  let m : Word := (if rct then 1 else 0) ||| if apt then 2 else 0
  let p := { s.pit with
    entropy := {}
    drbg := none
    drbgHealthy := false
    drbgReseeding := s.pit.seededOnce
    drbgEvent := s.pit.drbgEvent ||| m
    fresh := s.pit.fresh.set s.now m }
  if s.pit.seededOnce then
    let p := { p with session := Vector.replicate 8 none, sessionNext := Vector.replicate 8 none }
    ({ s with pit := p, dev.power := .joined }).devEventSet 0x0002
  else { s with pit := p }

/-- A tested pool is complete: it instantiates the DRBG, or reseeds it (R265, R266). -/
def State.seed (s : State) (pool : List Bool) : State :=
  let p := s.pit
  { s with pit := { p with
      drbg := some (Drbg.seed p.drbg (Config.seedMaterial p.seedings pool))
      seedings := p.seedings + 1
      drbgHealthy := true
      drbgReseeding := false
      seededAt := s.bell.bellNo
      entropy := { p.entropy with pool := [] } } }.enterSeeded

/-- A pool is being gathered: the DRBG is unseeded, or reseeds. -/
def Pitches.gathering (p : Pitches) : Bool := !p.drbgHealthy || p.drbgReseeding

/-- One raw bit: tested; a start-up bit first, then a bit of the pool while one is gathered (R265). -/
def State.rawBit (s : State) (b : Bool) : State :=
  match s.pit.entropy.test b with
  | (e, false, false) =>
    if e.startup < Config.startupBits then { s with pit.entropy := { e with startup := e.startup + 1 } }
    else if !s.pit.gathering then { s with pit.entropy := e }
    else
      let pool := b :: e.pool
      if pool.length < Config.poolBits then { s with pit.entropy := { e with pool := pool } }
      else { s with pit.entropy := e }.seed pool.reverse
  | (_, rct, apt) => s.healthFail rct apt

/-- The raw bits that a row brings, at `t`; the source runs from SETTLED (chapter 06, *Seeding, and what is served before it*). -/
def State.rawBits (s : State) (t : Ticks) (raw : List Bool) : State :=
  if s.atSettled then raw.foldl State.rawBit (s.tick t) else s

/-- SEEDED: the raw bits up to the one that completes a tested pool (R265, R266). -/
def execSeeded (t : Ticks) (raw : List Bool) (s : State) : Host.Outcome State Fault Refusal := .next (s.rawBits t raw)

/-- SEED_SLOW: SEEDED has never been reached, 60 ms after SETTLED (R174). -/
def execSeedSlow (t : Ticks) (s : State) : Host.Outcome State Fault Refusal :=
  if s.atSettled ∧ !s.pit.seededOnce ∧ s.dev.settledAt + Config.seedSlowMs * Config.ticksPerMs ≤ t then
    .next { s.tick t with dev.seedSlow := true }
  else .next s

/-- HEALTH_TEST_FAIL: the raw bits up to the one that fails a test (R175, R264, R265, R267, R652). -/
def execHealthTestFail (t : Ticks) (raw : List Bool) (s : State) : Host.Outcome State Fault Refusal := .next (s.rawBits t raw)

/-- DRBG_RESEED: a healthy DRBG gathers a fresh pool from these raw bits on, and is reseeded when it is complete (R266); a reseed in
progress goes on. -/
def execDrbgReseed (t : Ticks) (raw : List Bool) (s : State) : Host.Outcome State Fault Refusal :=
  .next ({ s with pit.drbgReseeding := s.pit.drbgReseeding || s.pit.drbgHealthy }.rawBits t raw)

/-- At a bell boundary a DRBG whose seed grows old begins to gather a fresh pool (R266; log entry 40). -/
def State.reseedDue (s : State) : State :=
  if s.pit.drbgHealthy ∧ s.pit.seededAt + Config.reseedBells ≤ s.bell.bellNo then { s with pit.drbgReseeding := true } else s

end Sys2Proof.Machine
end

