-- ==== Sys2Proof/Machine/Clocks.lean ====
section
/-! DEFINITION. The root and its references: the rows SYNTONY_SWITCH to ROOT_RECOVER and WATCH_CHECK_RESET (chapter 04). -/

namespace Sys2Proof.Machine

/-- Some lane assigned to a pitch has ON_CLOCK_LOSS SAFE (R97). -/
def State.safeLaneAssigned (s : State) : Bool :=
  laneIxs.any fun n => (s.laneOwner n).isSome && !runThroughPolicy (s.ln n).car.policy

/-- Every queued packet is discarded, and those that name a pitch's data count as lost by it; the port is idle (R612). -/
def Observe.discard (o : Observe) : Observe :=
  let own (p : Pitch) : Nat := o.queue[p].length
  let dev (p : Pitch) : Nat := (o.devQueue.filter fun k => k.cls != 8 && k.pitch == p.val).length
  let o := pitchIxs.foldl (fun (o : Observe) p => o.lose p (own p + dev p)) o
  { o with devQueue := [], queue := Vector.replicate 8 [], sent := none }

/-- The root fails at `t`: every domain takes its source on root loss; the market closes if an assigned lane is SAFE; a SAFE lane takes
its safe levels and every RUN_THROUGH lane's counters take WATCH; queued trace packets are lost (R90, R91, R95 to R97, R612). PLL_LOCK
clears whatever the cause, and reads 0 until ROOT_RECOVER (log entry 41). A fuse operation already in its window goes on (log entry
44). -/
def State.rootFailure (s : State) (t : Ticks) : State :=
  if s.clk.rootOk then
    let s := ({ s with clk := { s.clk with
      rootOk := false, pllLock := false, runThrough := true, watchAt := t } }).clkEventSet 0x0001
    let s := { s with obs := s.obs.discard }
    let s := if s.safeLaneAssigned then s.declareCause 3 t none else s
    s.eachLane fun s n =>
      if runThroughPolicy (s.ln n).car.policy then
        s.modLn n fun l => { l with car := { l.car with runThrough := true, watchAt := t } }
      else s.forceSafe n t 3 fun s => s.modLn n fun l => { l with latch.safeClock := true }
  else s

/-- The PLL reverts to the crystal; on a failed crystal it loses its lock, a root failure (R87, R88). -/
def State.revert (s : State) (t : Ticks) : State :=
  let s := { s with clk.refRing := false }
  if s.clk.xtalOk then s else s.rootFailure t

/-! ### Windows (R91, R94, R653) -/

/-- Both windows count a number of CD00 / 8 cycles outside 218 to 294 (R91). -/
def rootOff (w : ClockWindows) : Bool :=
  [w.root1, w.root2].all fun c => decide (c < 218 ∨ 294 < c)

/-- In both windows WATCH, measured by its 256 cycles against the CD00 / 8 cycles counted, leaves 8 % of 40 MHz (R94; log entry 49). -/
def watchOff (w : ClockWindows) : Bool :=
  [w.root1, w.root2].all fun c => decide (256 * 100 < 92 * c ∨ 108 * c < 256 * 100)

/-- The crystal reads within 8 % of 20 MHz in both windows (R653). -/
def xtalNear (w : ClockWindows) : Bool :=
  [w.xtal1, w.xtal2].all fun f => decide (18400 ≤ f ∧ f ≤ 21600)

/-- Two windows of a root held healthy are judged: where the root's count and the WATCH check both fail, a good crystal tells that it is the
root; otherwise a failed WATCH check is a device reset (R91, R94, R653). -/
def State.judgeWindows (s : State) (t : Ticks) (w : ClockWindows) : State :=
  if !s.clk.rootOk then s
  else if rootOff w && s.clk.xtalOk && xtalNear w then s.rootFailure t
  else if watchOff w then s.softReset 2
  else s

/-! ### Rows -/

/-- WATCH_CHECK_RESET: two windows of the WATCH check (R94, R653). -/
def execWatchCheckReset (t : Ticks) (w : ClockWindows) (s : State) : Host.Outcome State Fault Refusal :=
  if s.alive then .next ((s.lanesTick t).judgeWindows t w) else .next s

/-- SYNTONY_SWITCH: after 8 consecutive received bells within 150 ppm the PLL follows the ring (R87). -/
def execSyntonySwitch (s : State) : Host.Outcome State Fault Refusal :=
  if s.atSettled ∧ s.clk.syntonyEn ∧ 8 ≤ s.clk.syntonyRun then .next { s with clk.refRing := true } else .next s

/-- SYNTONY_LOSS: the recovered clock loses its transitions or drifts; a PLL that follows it reverts to the crystal. Drift is not judged
while XTAL_OK is 0 (R88). RING_REF_OK falls with either (log entry 43). -/
def execSyntonyLoss (t : Ticks) (why : RefLoss) (s : State) : Host.Outcome State Fault Refusal :=
  let s := s.lanesTick t
  if why = .drift ∧ !s.clk.xtalOk then .next s
  else
    let was := s.clk.refRing
    let s := { s with clk := { s.clk with ringRefOk := false, syntonyRun := 0 } }
    if was then .next ((s.clkEventSet 0x0004).revert t) else .next s

/-- A write of CLK_CTRL by P0: SYNTONY_EN at 0 reverts a PLL that follows the ring to the crystal (R87). -/
def State.clkCtrl (s : State) (data : Word) : State :=
  let s := { s with clk.syntonyEn := bit data 0 }
  if s.clk.refRing && !bit data 0 then s.revert s.now else s

/-- XTAL_FAIL: XTAL_OK clears; a PLL that follows the crystal loses its lock, a root failure (R93; chapter 04, *Clock monitors and
WATCH*). -/
def execXtalFail (t : Ticks) (s : State) : Host.Outcome State Fault Refusal :=
  let s := s.lanesTick t
  if s.alive then
    let s := ({ s with clk.xtalOk := false }).clkEventSet 0x0002
    .next (if s.clk.refRing then s else s.rootFailure t)
  else .next s

/-- XTAL_RECOVER (R93). -/
def execXtalRecover (s : State) : Host.Outcome State Fault Refusal :=
  if s.alive then .next { s with clk.xtalOk := true } else .next s

/-- ROOT_FAIL: root failure is declared on a lost lock, a stopped root, or two windows (R91, R653). -/
def execRootFail (t : Ticks) (why : RootFault) (s : State) : Host.Outcome State Fault Refusal :=
  let s := s.lanesTick t
  match why with
  | .windows w => .next (s.judgeWindows t w)
  | _ => .next (s.rootFailure t)

/-- ROOT_RECOVER: domains return to the root; a RUN_THROUGH lane follows at its next carrier boundary (R100). -/
def execRootRecover (t : Ticks) (s : State) : Host.Outcome State Fault Refusal :=
  let s := s.lanesTick t
  if s.atSettled ∧ !s.clk.rootOk then
    let s := ({ s with clk := { s.clk with rootOk := true, pllLock := true, runThrough := false } }).clkEventSet 0x0008
    .next (s.eachLane fun s n =>
      if (s.ln n).latch.safeClock then
        s.releaseSafe n t fun s => s.modLn n fun l => { l with latch.safeClock := false }
      else s)
  else .next s

end Sys2Proof.Machine
end

