-- ==== Sys2Proof/Machine/Bell.lean ====
section
/-! DEFINITION. The reception and emission of bells: the rows BELL_FRAME, ISLAND_BELL_FRAME, RIDGE_TIMEOUT and ISLAND_BELL_EMIT
(chapters 04 and 07). The boundary itself is in Boundary.lean. -/

namespace Sys2Proof.Machine

/-! ### BELL frames (chapter 07, *The BELL frame*) -/

/-- The header of every BELL frame: TYPE 0x1, LEN 8, DEST, PITCH and SEQ 0. -/
def bellHeader : BitVec 48 := 0x000900000000

/-- The CRC of a BELL frame, over bytes 3 to 16 (R203). -/
def bellCrc (header : BitVec 48) (payload : BitVec 64) : DWord := crc32 (bytesOf 6 header.toNat ++ bytesOf 8 payload.toNat)

/-- A BELL frame with its CRC. -/
def sealBell (epoch : DWord) (island : Bool) (ridgeAddr : Byte) (ringGen : Word) : BellFrame :=
  let flags : Byte := if island then 1 else 0
  let payload : BitVec 64 := epoch ++ flags ++ ridgeAddr ++ ringGen
  { header := bellHeader, payload := payload, crc := bellCrc bellHeader payload }

/-- The CRC of a BELL frame holds. -/
def bellOk (f : BellFrame) : Bool := f.crc == bellCrc f.header f.payload

/-- EPOCH, FLAGS.ISLAND and RIDGE_ADDR of a BELL frame. -/
def bellEpoch (f : BellFrame) : DWord := f.payload.extractLsb' 32 32

/-- FLAGS [0]. -/
def bellIsland (f : BellFrame) : Bool := bit f.payload 24

/-- RIDGE_ADDR. -/
def bellRidge (f : BellFrame) : Byte := f.payload.extractLsb' 16 8

/-- A BELL frame leaves an inserted node on pair A, and on pair B where the node is the fold (R199, R226). -/
def State.passBell (s : State) (f : BellFrame) : State :=
  if s.ring.inserted then
    { s with ring := { s.ring with bellA := some f, bellB := if s.ring.folded then some f else s.ring.bellB } }
  else s

/-! ### Reception -/

/-- The epoch of the last bell received or begun, or of the bell in progress. -/
def Bell.latest (b : Bell) : DWord :=
  match b.next with
  | some (e, _) => e
  | none => b.epoch

/-- A received epoch is a jump: it is not the previous one plus one, once a boundary has been made (R112; log entry 68). -/
def Bell.jumps (b : Bell) (epoch : DWord) : Bool := b.seen && epoch != b.latest + 1

/-- A candidate's counters at a received bell before JOINED (R223, R224). A GRANT whose epoch has passed is dropped (R219), and pair A, if
opened for it, closes again (log entry 47). -/
def RingPort.candidateBell (r : RingPort) (epoch : DWord) : RingPort :=
  let gone := r.grant.any fun g => decide (16 < (g.epoch - epoch).toNat)
  { r with
    holdoff := r.holdoff.map fun k => k - 1
    grant := if gone then none else r.grant
    insertPending := r.insertPending && !gone
    answered := if gone then none else r.answered.map fun k => k + 1
    aOpen := r.aOpen && !gone }

/-- A bell cycle opens: no slot of an island's cycle is answered (R239), and an answer whose slot has not returned by the end of the cycle
after its own is dropped. -/
def RingPort.cycle (r : RingPort) (island : Bool) : RingPort :=
  { r with
    islandCycle := island
    replies := if island then [] else (r.replies.filter fun x => !x.old).map fun x => { x with old := true } }

/-- The recovered clock lies within 150 ppm of the crystal; `offset` is in 0.1 ppm (R87). -/
def syntonic (offset : Word) : Bool := decide (-1500 ≤ offset.toInt ∧ offset.toInt ≤ 1500)

/-- A bell is received: its epoch is judged, and its boundary is to come (R87, R111, R112). RING_REF_OK shows this bell's reading (log
entry 43). -/
def State.bellReceived (s : State) (epoch : DWord) (kind : BellKind) (offset : Word) : State :=
  let jump := s.bell.jumps epoch
  let near := syntonic offset
  let s := { s with
    bell := { s.bell with
      bellOk := true
      flyRun := 0
      ridge := false
      jump := s.bell.jump || jump
      next := some (epoch, kind) }
    clk := { s.clk with
      syntonyRun := if near then min 8 (s.clk.syntonyRun + 1) else 0
      ringRefOk := near
      refOffset := offset }
    ring := { s.ring.cycle (decide (kind = .island)) with
      rxA := Config.rxLevel 0 s.bell.bellNo
      rxB := Config.rxLevel 1 s.bell.bellNo } }
  let s := if s.atJoined then s else { s with ring := s.ring.candidateBell epoch }
  if jump then s.bellEventSet 0x0002 else s

/-- A bell is not received (R106, R213): BELL_OK clears, and the count of R87 starts again. -/
def State.bellLost (s : State) : State := { s with clk.syntonyRun := 0, bell.bellOk := false }

/-- The node enters an island: ISLAND and ISLAND_SEEN; ALIGNED stays 0 (R108, R660). -/
def State.enterIsland (s : State) : State :=
  let was := s.bell.island
  let s := { s with bell := { s.bell with island := true, aligned := false } }
  if was then s else s.bellEventSet 0x0004

/-- A ridge node follows an ISLAND bell only from a lower ridge address; another it neither follows nor sends on (R654). -/
def State.ignoresIsland (s : State) (f : BellFrame) : Bool :=
  s.bell.ridge && decide (s.ring.ringAddr.toNat ≤ (bellRidge f).toNat)

/-- A BELL frame arrives on RING_A_IN: a head bell ends island timing, an ISLAND bell is followed; one with a bad CRC is counted and not
received (R110 to R112, R213, R241, R654). RING_GEN shows the last ROLL's generation, not the bell's. -/
def State.bellArrives (s : State) (f : BellFrame) (offset : Word) : State :=
  if !s.atSettled then s
  else if !bellOk f then
    (({ s with ring := { s.ring with crcA := satInc s.ring.crcA } }).passBell f).bellLost
  else if bellIsland f then
    if s.ignoresIsland f then s else ((s.passBell f).bellReceived (bellEpoch f) .island offset).enterIsland
  else
    let s := (s.passBell f).bellReceived (bellEpoch f) .head offset
    { s with bell.island := false }

/-- BELL_FRAME: a BELL frame arrives, and is judged by its CRC and its FLAGS. -/
def execBellFrame (t : Ticks) (f : BellFrame) (offset : Word) (s : State) : Host.Outcome State Fault Refusal :=
  .next ((s.tick t).bellArrives f offset)

/-- ISLAND_BELL_FRAME: a BELL frame with FLAGS.ISLAND arrives and is followed (R110, R654). -/
def execIslandBellFrame (t : Ticks) (f : BellFrame) (offset : Word) (s : State) : Host.Outcome State Fault Refusal :=
  if bellIsland f then .next ((s.tick t).bellArrives f offset) else .next s

/-! ### The ridge node (R107 to R109, R238) -/

/-- The ridge node begins its next ISLAND bell (R109, R238); its boundary comes 48 us later (R108). -/
def State.emitIsland (s : State) : State :=
  let e := s.bell.epoch + 1
  let s := { s with
    bell := { s.bell with next := some (e, .own) }
    ring := s.ring.cycle true }
  s.passBell (sealBell e true (s.ring.ringAddr.setWidth 8) s.ring.ringGen)

/-- RIDGE_TIMEOUT: after four flywheel bells and its address term the inserted node becomes ridge node, with RIDGE, ISLAND, RIDGE_SEEN and
ISLAND_SEEN (R107 to R109). A node without a valid address may become ridge node too, and sends RIDGE_ADDR 0 (log entry 45). -/
def execRidgeTimeout (t : Ticks) (s : State) : Host.Outcome State Fault Refusal :=
  let s := s.tick t
  if s.ring.inserted ∧ !s.bell.ridge ∧ s.bell.flyRun = 4 ∧ s.bell.next = none then
    let s := (s.enterIsland).bellEventSet 0x000C
    .next ({ s with bell := { s.bell with ridge := true } }).emitIsland
  else .next s

/-- ISLAND_BELL_EMIT: the ridge node begins an ISLAND bell every 1.000 ms (R108, R238). -/
def execIslandBellEmit (s : State) : Host.Outcome State Fault Refusal :=
  if s.bell.ridge ∧ s.bell.next = none then .next s.emitIsland else .next s

end Sys2Proof.Machine
end

