-- ==== Sys2Proof/Machine/Ring.lean ====
section
/-! DEFINITION. The ring port: frames and their check, insertion, the fold, addresses and tallies: the rows BEYOND_FOLD_DETECT to
FRAME_FORWARD, ENUM_ROLL, ROLL_RETURN, SET_DELAY, CARRIER_RETURN and CODE_VIOLATION (chapter 07). -/

namespace Sys2Proof.Machine

/-! ### Frames -/

/-- Bytes 3 to 56 of a slot. -/
def frameBytes (header : BitVec 48) (payload : List Byte) (tag : BitVec 64) : List Byte :=
  bytesOf 6 header.toNat ++ payload ++ bytesOf 8 tag.toNat

/-- A frame with its CRC (R203). -/
def sealFrame (header : BitVec 48) (payload : Vector Byte 40) (tag : BitVec 64) : Frame :=
  { header := header, payload := payload, tag := tag, crc := crc32 (frameBytes header payload.toList tag) }

/-- The CRC of a frame holds. -/
def frameOk (f : Frame) : Bool := f.crc == crc32 (frameBytes f.header f.payload.toList f.tag)

/-- A slot that is addressed to no node (R204). -/
def frameNobody (f : Frame) : Bool :=
  decide (40 < Frame.len f) || Frame.reserved f != 0
    || decide ((Frame.type f).toNat = 0 ∨ 9 ≤ (Frame.type f).toNat)

/-- The frame is a SET_DELAY (chapter 07, *ENUM payload*). -/
def isSetDelay (f : Frame) : Bool := (Frame.type f).toNat == 2 && f.byte 0 == 2

/-- The frame is a ROLL. -/
def isRoll (f : Frame) : Bool := (Frame.type f).toNat == 2 && f.byte 0 == 1

/-- The frame is an INSERT of a kind: 1 OFFER, 2 REQUEST, 3 GRANT, 4 REFUSE (chapter 07, *INSERT payload*). -/
def isInsert (kind : Byte) (f : Frame) : Bool := (Frame.type f).toNat == 3 && f.byte 0 == kind

/-- Slots addressed to this node are taken: it is inserted with a valid address (R225), and the cycle is none that an ISLAND bell opened
(R239). -/
def State.takesSlots (s : State) : Bool := s.ring.inserted && s.ring.addrValid && !s.ring.islandCycle

/-- The slot is addressed to this node: SET_DELAY, FOLD, IDENT, SESSION, DATA or TRACE-GRANT to its address (R204; chapter 07, *Frame
types*). -/
def State.addressed (s : State) (f : Frame) : Bool :=
  s.takesSlots && !frameNobody f && decide ((Frame.dest f).toNat + 1 = s.ring.ringAddr.toNat)
    && (decide (4 ≤ (Frame.type f).toNat ∧ (Frame.type f).toNat ≤ 8) || isSetDelay f)

/-- A slot with a bad CRC is counted, from SETTLED on (R166, R241). -/
def State.countCrc (s : State) (p : Pair) (f : Frame) : State :=
  if frameOk f || !s.atSettled then s
  else
    match p with
    | .a => { s with ring := { s.ring with crcA := satInc s.ring.crcA } }
    | .b => { s with ring := { s.ring with crcB := satInc s.ring.crcB } }

/-- A slot leaves an inserted node on pair A, and a fold node turns it onto pair B (R199, R226); a ridge node leaves it idle (R238). -/
def State.passA (s : State) (slot : Fin 36) (f : Frame) : State :=
  if s.ring.inserted then
    let out : Option Sent := if s.bell.ridge then none else some { slot := slot.val, frame := f }
    { s with ring := { s.ring with aOut := out, bOut := if s.ring.folded then out else s.ring.bOut } }
  else s

/-- A slot on pair B leaves an inserted node; a fold node drops what arrives there (R199, R226). -/
def State.passB (s : State) (slot : Fin 36) (f : Frame) : State :=
  if s.ring.inserted && !s.ring.folded then { s with ring := { s.ring with bOut := some { slot := slot.val, frame := f } } } else s

/-- The CRC of a frame changed by exactly the effect of a change of its bits: a frame that arrived corrupt leaves corrupt (R207). -/
def frameChanged (f : Frame) (header : BitVec 48) (payload : Vector Byte 40) : Frame :=
  { f with
    header := header
    payload := payload
    crc := f.crc ^^^ crc32 (frameBytes f.header f.payload.toList f.tag) ^^^ crc32 (frameBytes header payload.toList f.tag) }

/-- A slot with TAKEN set (R207). -/
def frameTaken (f : Frame) : Frame := frameChanged f (f.header ||| 0x10000000) f.payload

/-- A slot arrives on pair A: one addressed to this node leaves with TAKEN set, and `act` follows where its CRC holds; any other leaves
unchanged (R204, R207, R210). -/
def State.takeSlot (s : State) (slot : Fin 36) (f : Frame) (act : State → State) : State :=
  let s := s.countCrc .a f
  if !s.addressed f then s.passA slot f
  else
    let s := s.passA slot (frameTaken f)
    let s := { s with ring := { s.ring with replies := s.ring.replies.filter fun r => r.slot != slot } }
    if frameOk f then act s else s

/-- FRAME_FORWARD: what is not addressed to the node passes unchanged (R22, R204, R206); a fold node turns pair A onto pair B and drops
what arrives there (R226). -/
def execFrameForward (pair : Pair) (what : Passing) (s : State) : Host.Outcome State Fault Refusal :=
  match pair, what with
  | .a, .slot slot f => .next ((s.countCrc .a f).passA slot f)
  | .b, .slot slot f => .next ((s.countCrc .b f).passB slot f)
  | .a, .bell f =>
    let s := if s.atSettled && !bellOk f then { s with ring := { s.ring with crcA := satInc s.ring.crcA } } else s
    .next (s.passBell f)
  | .b, .bell f =>
    if s.ring.inserted && !s.ring.folded then .next { s with ring := { s.ring with bellB := some f } } else .next s

/-- The receive terminations are connected only while the node is inserted (R631). -/
def RingPort.terminated (r : RingPort) : Bool := r.inserted

/-! ### Carrier (R198, R215, R241) -/

/-- CARRIER_LOSS: a receive pair shows no transition for 200 ns (R198, R241). -/
def execCarrierLoss (pair : Pair) (s : State) : Host.Outcome State Fault Refusal :=
  match pair with
  | .a =>
    if s.ring.carrierA then
      .next { s with ring := { s.ring with carrierA := false, carrierTally := satInc s.ring.carrierTally } }
    else .next s
  | .b =>
    if s.ring.carrierB then
      .next { s with ring := { s.ring with carrierB := false, carrierTally := satInc s.ring.carrierTally } }
    else .next s

/-- CARRIER_RETURN: transitions return; on pair B a candidate lies before the fold again (R215). The receivers listen from SETTLED
(R166). -/
def execCarrierReturn (pair : Pair) (s : State) : Host.Outcome State Fault Refusal :=
  if s.atSettled then
    match pair with
    | .a => .next { s with ring := { s.ring with carrierA := true } }
    | .b => .next { s with ring := { s.ring with carrierB := true, beyondFold := false } }
  else .next s

/-- CODE_VIOLATION (R241). -/
def execCodeViolation (s : State) : Host.Outcome State Fault Refusal :=
  if s.atSettled then .next { s with ring := { s.ring with code := satInc s.ring.code } } else .next s

/-- BEYOND_FOLD_DETECT: a node with its flashing closed has seen no carrier on pair B for 50 us (R215). -/
def execBeyondFoldDetect (s : State) : Host.Outcome State Fault Refusal :=
  if s.atSettled ∧ !s.ring.inserted ∧ !s.ring.carrierB then
    .next { s with ring := { s.ring with beyondFold := true } }
  else .next s

/-! ### Insertion (R214 to R225) -/

/-- The flashing policy permits INSERT (R76, R77). -/
def State.insertPermitted (s : State) : Bool := !bit s.fuse.cfg100 8 || s.pwr.insertEn

/-- RING_STATUS.CANDIDATE (R214). -/
def State.candidate (s : State) : Bool :=
  decide (s.dev.power = Power.settled) && !s.ring.inserted && s.pwr.lineOk && s.insertPermitted && s.ring.holdoff.isNone

/-- The header of a REQUEST: TYPE INSERT, LEN 14, TAKEN and RESP set, reserved bits 0 (chapter 07, *Slot header*; R216). -/
def requestHeader (slot : Fin 36) : BitVec 48 :=
  (Config.requestHeader slot.val &&& 0xFF800000FFFF) ||| BitVec.ofNat 48 (3 * 2 ^ 35 + 14 * 2 ^ 29) ||| 0x18000000

/-- The REQUEST of a candidate (chapter 07, *INSERT payload*; R216, R217); a class request of 0 asks for C1. -/
def State.requestFrame (s : State) (slot : Fin 36) : Frame :=
  let cls : Byte := if s.pwr.request = 0 then 1 else s.pwr.request.setWidth 8
  let payload := [0x02] ++ bytesOf 8 s.serial.toNat ++ [cls] ++ bytesOf 4 s.member.toNat
  sealFrame (requestHeader slot) (payloadOf payload) 0

/-- A candidate before the fold sees carrier on RING_B_IN; one beyond it has seen none for 50 us (R215). It answers an OFFER while it
waits for no GRANT (R224), and in no cycle that an ISLAND bell opened (R239). -/
def State.answersOffer (s : State) : Bool :=
  s.candidate && !s.ring.islandCycle && s.ring.answered.isNone && s.ring.grant.isNone && (s.ring.beyondFold || s.ring.carrierB)

/-- A REQUEST goes out on pair B, and a handshake is in progress. -/
def State.requests (s : State) (slot : Fin 36) : State :=
  { s with ring := { s.ring with
    bOut := some { slot := slot.val, frame := s.requestFrame slot }
    insertPending := true
    answered := some 0 } }

/-- INSERT_OFFER: an OFFER arrives in slot s from 1 to 34, and `back` is slot s as it returns on RING_B_IN. A candidate beyond the fold sends
its REQUEST on RING_B_OUT; one before the fold writes it into the returning slot where RESP is 0, and forwards that slot unchanged where
it is 1 (R216, R217). A fold node listens for a REQUEST (R218), unless it is ridge node: its slots stay idle (R238). -/
def execInsertOffer (slot : Fin 36) (offer back : Frame) (s : State) : Host.Outcome State Fault Refusal :=
  let s := (s.countCrc .a offer).passA slot offer
  if slot.val = 0 ∨ slot.val = 35 ∨ !frameOk offer ∨ frameNobody offer ∨ !isInsert 1 offer then .next s
  else if s.ring.inserted then
    if s.ring.folded ∧ !s.bell.ridge then .next { s with ring := { s.ring with foldOffer := some slot } } else .next s
  else if !s.answersOffer then .next s
  else if s.ring.beyondFold then .next (s.requests slot)
  else
    let s := s.countCrc .b back
    if back.resp then .next { s with ring := { s.ring with bOut := some { slot := slot.val, frame := back } } }
    else .next (s.requests slot)

/-- INSERT_REQUEST_AT_FOLD: a REQUEST that arrives on RING_B_IN in time takes the place of slot s in the folded stream (R218). -/
def execInsertRequestAtFold (slot : Fin 36) (request : Frame) (afterNanos : Nat) (s : State) :
    Host.Outcome State Fault Refusal :=
  let s := s.countCrc .b request
  if s.ring.folded ∧ !s.bell.ridge ∧ s.ring.foldOffer = some slot ∧ afterNanos ≤ 28000 then
    .next { s with ring := { s.ring with
      bOut := some { slot := slot.val, frame := request }
      foldOffer := none } }
  else .next s

/-- An INSERT frame of a kind that names this candidate's serial. -/
def State.insertForMe (s : State) (kind : Byte) (f : Frame) : Bool :=
  s.candidate && frameOk f && !frameNobody f && isInsert kind f && decide (f.field 1 8 = s.serial.toNat)

/-- INSERT_GRANT: a GRANT with the candidate's serial and a valid epoch is taken (R219). -/
def execInsertGrant (slot : Fin 36) (f : Frame) (s : State) : Host.Outcome State Fault Refusal :=
  let s := (s.countCrc .a f).passA slot f
  let epoch : DWord := BitVec.ofNat 32 (f.field 10 4)
  let ahead := (epoch - s.bell.latest).toNat
  if s.insertForMe 3 f ∧ 2 ≤ ahead ∧ ahead ≤ 16 then
    .next { s with ring := { s.ring with
      grant := some { cls := (f.byte 9).setWidth 2, epoch := epoch }
      insertPending := true } }
  else .next s

/-- INSERT_REFUSE: the hold-off of 1000 bells starts (R223). -/
def execInsertRefuse (slot : Fin 36) (t : Ticks) (f : Frame) (s : State) : Host.Outcome State Fault Refusal :=
  let s := ((s.tick t).countCrc .a f).passA slot f
  if s.insertForMe 4 f then
    let s := s.abandonInsert
    .next (({ s with ring := { s.ring with holdoff := some 1000 } }).ringEventSet 0x0010)
  else .next s

/-- REFUSE_HOLDOFF_END: the 1000 bells have passed (R223). -/
def execRefuseHoldoffEnd (s : State) : Host.Outcome State Fault Refusal :=
  if s.ring.holdoff = some 0 then .next { s with ring := { s.ring with holdoff := none } } else .next s

/-- GRANT_WAIT_EXPIRY: 8 bells after an answer without a usable GRANT (R224). -/
def execGrantWaitExpiry (s : State) : Host.Outcome State Fault Refusal :=
  match s.ring.answered, s.ring.grant with
  | some k, none =>
    if 8 ≤ k then .next { s with ring := { s.ring with answered := none, insertPending := false } } else .next s
  | _, _ => .next s

/-- The last switch opens: the node is inserted (R222, R225) and JOINED (R178). -/
def State.inserts (s : State) (g : Grant) (folded : Bool) (t : Ticks) : State :=
  let s := s.tick t
  let s := { s with ring := { s.ring with
    aOpen := true, bOpen := true, inserted := true, folded := folded, beyondFold := false, addrValid := false, ringAddr := 0,
    insertPending := false, answered := none, grant := none } }
  s.join g.cls t

/-- FLASHING_OPEN_A: at the insertion epoch, pair A opens; beyond the fold all four switches open and the node folds (R74, R220,
R221). -/
def execFlashingOpenA (t : Ticks) (s : State) : Host.Outcome State Fault Refusal :=
  match s.ring.grant with
  | some g =>
    if s.candidate ∧ !s.ring.aOpen ∧ s.bell.latest = g.epoch then
      if s.ring.beyondFold then .next (s.inserts g true t)
      else .next { s.tick t with ring := { s.ring with aOpen := true } }
    else .next s
  | none => .next s

/-- FLASHING_OPEN_B: before the fold, pair B opens after the BELL frame of E has returned (R220, R222). A node that has ceased to be a
candidate since pair A opened, its INSERT_EN cleared, does not insert; the GRANT stands until its epoch has passed (log entry 47). -/
def execFlashingOpenB (t : Ticks) (s : State) : Host.Outcome State Fault Refusal :=
  match s.ring.grant with
  | some g => if s.candidate ∧ s.ring.aOpen then .next (s.inserts g false t) else .next s
  | none => .next s

/-! ### The fold (R226 to R230) -/

/-- AUTO_FOLD: an inserted, unfolded node without carrier on pair B for 50 us folds (R227). -/
def execAutoFold (t : Ticks) (s : State) : Host.Outcome State Fault Refusal :=
  let s := s.tick t
  if s.ring.inserted ∧ !s.ring.folded ∧ !s.ring.carrierB then
    .next (({ s with ring := { s.ring with folded := true } }).ringEventSet 0x0004)
  else .next s

/-- A FOLD frame's effect on the node it is addressed to: an UNFOLD is taken for its epoch; another payload is ignored (R228, R230). -/
def State.foldTaken (s : State) (f : Frame) : State :=
  if f.byte 0 = 1 then { s with ring := { s.ring with unfoldAt := some (BitVec.ofNat 32 (f.field 1 4)) } } else s

/-- FOLD_FRAME (R207, R228, R230): the slot leaves with TAKEN set, its payload unchanged (log entry 50). -/
def execFoldFrame (slot : Fin 36) (f : Frame) (s : State) : Host.Outcome State Fault Refusal :=
  if (Frame.type f).toNat = 4 then .next (s.takeSlot slot f fun s => s.foldTaken f) else .next s

/-- UNFOLD: at E the node leaves the folded state, or stays folded without carrier on pair B (R228, R229). -/
def execUnfold (t : Ticks) (s : State) : Host.Outcome State Fault Refusal :=
  let s := s.tick t
  if s.ring.folded ∧ s.ring.unfoldAt = some s.bell.latest then
    let s := { s with ring := { s.ring with unfoldAt := none } }
    if s.ring.carrierB then .next { s with ring := { s.ring with folded := false } }
    else .next (s.ringEventSet 0x0008)
  else .next s

/-! ### Addresses (R231 to R235) -/

/-- A ROLL as it leaves: HOP one more, the CRC following the change. -/
def rollOn (f : Frame) (hop : Byte) : Frame := frameChanged f f.header (vset f.payload 1 hop)

/-- ENUM_ROLL: an inserted node takes HOP + 1 as its address, stores RING_GEN and sends the ROLL on with that HOP; with HOP at 64 it takes
none and forwards the ROLL unchanged (R231, R232, R235). A ROLL with a bad CRC gives no address and leaves as it came (log entry 50). -/
def execEnumRoll (slot : Fin 36) (t : Ticks) (f : Frame) (s : State) : Host.Outcome State Fault Refusal :=
  let s := (s.tick t).countCrc .a f
  if !s.ring.inserted ∨ !frameOk f ∨ frameNobody f ∨ !isRoll f then .next (s.passA slot f)
  else if 64 ≤ (f.byte 1).toNat then
    let s := s.passA slot f
    .next (({ s with ring := { s.ring with addrValid := false, ringAddr := 0 } }).ringEventSet 0x0021)
  else
    let hop := f.byte 1 + 1
    let s := s.passA slot (rollOn f hop)
    let a : BitVec 7 := hop.setWidth 7
    let changed := a != s.ring.ringAddr
    let s := { s with ring := { s.ring with addrValid := true, ringAddr := a, ringGen := word (f.field 2 2) } }
    if changed then
      .next (({ s with bell := { s.bell with alignHeld := true, aligned := false } }).ringEventSet 0x0003)
    else .next (s.ringEventSet 0x0001)

/-- ROLL_RETURN: the round trip of the ROLL (R233). -/
def execRollReturn (units : Word) (s : State) : Host.Outcome State Fault Refusal :=
  if s.ring.inserted then .next { s with ring := { s.ring with ringRt := units } } else .next s

/-- A SET_DELAY's effect on the node it is addressed to: the delay is written and judged; above 47.000 us it is not used (R105, R234,
R235). -/
def State.delayTaken (s : State) (f : Frame) : State :=
  let delay := word (f.field 2 2)
  let far := decide (1880 < delay.toNat)
  { s with bell := { s.bell with
    bellDelay := delay
    alignHeld := false
    alignFail := far
    aligned := s.bell.aligned && !far } }

/-- SET_DELAY (R105, R207, R234, R235): the slot leaves with TAKEN set, its payload unchanged (log entry 50). -/
def execSetDelay (slot : Fin 36) (f : Frame) (s : State) : Host.Outcome State Fault Refusal :=
  if isSetDelay f then .next (s.takeSlot slot f fun s => s.delayTaken f) else .next s

/-- FLASH_CTRL.INSERT_EN as written; once inserted, a write is ignored (R77, R78). -/
def State.flashCtrl (s : State) (data : Word) : State :=
  if s.ring.inserted then s else { s with pwr.insertEn := bit data 0 }

end Sys2Proof.Machine
end

