-- ==== Sys2Proof/Machine/Registers.lean ====
section
/-! DEFINITION. The register map: what each address reads, who reaches it, and what a write does (chapter 19 and the register tables
of every chapter). -/

namespace Sys2Proof.Machine

/-- A word from fields, each a value and its lowest bit. -/
def fields (l : List (Nat × Nat)) : Word := word ((l.map fun f => f.1 * 2 ^ f.2).sum)

/-- A word whose bit `k` is `f k`, for the first `n` bits. -/
def bitsOf (n : Nat) (f : Nat → Bool) : Word := word (((List.range n).map fun k => if f k then 2 ^ k else 0).sum)

/-- A flag as a field. -/
def flag (b : Bool) (k : Nat) : Nat × Nat := (bit01 b, k)

/-- The owner code of an object (chapter 08, *ASSIGN arguments*). -/
def ownerCode (o : Option Pitch) : Nat := o.elim 8 Fin.val

/-- Four owner codes from object `4 i` on. -/
def ownerWord (f : Nat → Option (Option Pitch)) (i : Nat) : Word :=
  fields ([0, 1, 2, 3].map fun j => (((f (4 * i + j)).map ownerCode).getD 0, 4 * j))

/-! ### Figures that registers show -/

/-- The tags that pitch `p` holds. -/
def State.tagsHeld (s : State) (p : Pitch) : Nat := (s.q.held.filter fun h => h.pitch == p).length

/-- TAG_FREE (R259). -/
def State.tagFree (s : State) : Nat :=
  512 - ((pitchIxs.map fun p => if s.pit.own.active p then s.pit.front.tag[p] else 0).sum)

/-- Pitch `p` holds a ring session in force. -/
def State.sessionOf (s : State) (p : Pitch) : Option Session :=
  match s.pit.session[p] with
  | some x => if x.since ≤ s.bell.bellNo then some x else none
  | none => none

/-- HOST_STATUS.CQ_PENDING for pitch `p`. -/
def State.cqPending (s : State) (p : Pitch) : Bool :=
  (List.finRange 64).any fun q => s.ownsQueue p q && !s.q.cq[q].entries.isEmpty

/-- HOST_STATUS.EVQ_PENDING for pitch `p`. -/
def State.evqPending (s : State) (p : Pitch) : Bool := !s.q.evq[p].entries.isEmpty

/-- A word of an entry. -/
def Entry.words (e : Entry) : List Word := [e.w0, e.w1, e.w2, e.w3, e.w4, e.w5, e.w6, e.w7]

/-- Word `k` of the entry at the head of a list, 0 without one. -/
def headWord (l : List Entry) (k : Nat) : Word := (l.head?.elim [] Entry.words).getD k 0

/-- The ledger entry at an index (R319). -/
def Ledger.at (l : Ledger) (i : Nat) : LedgerEntry :=
  l.newest.getD ((l.written + 255 - i) % 256) ⟨0, 0, 0, 0⟩

/-- WIN_m is high: an open PIN window of a tracker of the pin's owner targets it, in an open market (R531, R529). -/
def State.winPins (s : State) (p : Pitch) : Nat :=
  (trkIxs.map fun m => if s.pit.own.win[m] = some p ∧ s.winLevel m then 2 ^ m.val else 0).sum

/-- The ADC of lane `n`. -/
def adcOf (n : LaneIx) : Fin 2 := if n.val < 3 then 0 else 1

/-! ### Pages; reserved bits of a shadow read 0, whatever was written to them (log entry 14) -/

/-! As pitch `p` reads them with its selectors; none where it cannot (R280, R639) -/

/-- Page 0x0; addresses 0x04 to 0x07 serve the host port only (R332). -/
def State.page0 (s : State) (host : Bool) (p : Pitch) (a : Nat) : Option Word :=
  match a with
  | 0x00 => some (fields [flag s.dev.seedSlow 5, flag s.dev.closed 4, (s.stateCode, 0)])
  | 0x01 => some s.dev.devEvent
  | 0x02 => some s.dev.resetCause
  | 0x03 => some s.dev.seedTime
  | 0x04 =>
    if host then
      some (fields [(p.val, 8), flag s.host.leaseOut 5, flag (s.evqPending p) 4, flag (s.cqPending p) 3,
        flag s.host.frameErr 2, flag s.host.crcErr 1, flag s.host.noObject 0])
    else none
  | 0x05 => if host then some (word s.host.irqEn.toNat) else none
  | 0x06 => if host then some (word s.host.leaseLen.toNat) else none
  | 0x07 => if host then some (word s.host.leaseLeft) else none
  | 0x08 => some (fields [(s.present.toNat, 8), (s.dev.arisen.toNat, 0)])
  | 0x09 => some (word s.dev.closeFirst.toNat)
  | 0x0A => some (lo16 s.dev.closeEpoch)
  | 0x0B => some (hi16 s.dev.closeEpoch)
  | 0x0C => some s.dev.closeCount
  | _ => none

/-- Page 0x1; LINE_P_EST is rounded down to whole mW (log entry 58). -/
def State.page1 (s : State) (p : Pitch) (a : Nat) : Option Word :=
  match a with
  | 0x00 => some (fields [flag s.pwr.vgdOk 12, (s.pwr.wsDenied.toNat, 8), flag s.pwr.lineOv 5, flag s.classShort 4,
      flag s.pwr.overdraw 3, flag s.pwr.holdOk 2, flag s.pwr.lineOk 0])
  | 0x01 => some s.pwr.pwrEvent
  | 0x02 => some (fields [(s.pwr.granted.toNat, 4), (s.pwr.request.toNat, 0)])
  | 0x03 => some s.pwr.lineV
  | 0x04 => some s.pwr.vholdV
  | 0x05 => some s.pwr.lineMeas
  | 0x06 => some (if s.atSettled then satNat 16 s.lineTotal.floor.toNat else 0)
  | 0x07 => some s.pwr.holdCap
  | 0x08 => some s.pwr.holdTime
  | 0x09 => some (fields [flag (bit s.fuse.cfg100 8) 2, flag s.ring.insertPending 1, flag (!s.ring.inserted) 0])
  | 0x0A => some (fields [flag s.pwr.insertEn 0])
  | 0x0B => some s.pwr.vgdV
  | 0x20 => some (fields [flag s.clk.watchOk 6, flag s.clk.runThrough 5, flag s.clk.rootOk 4, flag s.clk.ringRefOk 3,
      flag s.clk.xtalOk 2, flag s.clk.refRing 1, flag s.clk.pllLock 0])
  | 0x21 => some s.clk.clkEvent
  | 0x22 => some (fields [flag s.clk.syntonyEn 0])
  | 0x23 => some s.clk.refOffset
  | 0x24 => some (lo16 s.bell.epoch)
  | 0x25 => some (hi16 s.bell.epoch)
  | 0x26 => some (fields [flag s.bell.alignFail 5, flag s.bell.aligned 4, flag s.bell.flywheel 3, flag s.bell.ridge 2,
      flag s.bell.island 1, flag s.bell.bellOk 0])
  | 0x27 => some s.bell.bellEvent
  | 0x28 => some s.bell.bellDelay
  | 0x29 => some s.bell.bellMissed
  | _ =>
    if h : 0x10 ≤ a ∧ a < 0x16 then
      let n : LaneIx := ⟨a - 0x10, by omega⟩
      if s.ownsLane p n then some (word (s.ln n).ops.qg.toNat) else none
    else none

/-- Page 0x2. -/
def State.page2 (s : State) (p : Pitch) (a : Nat) : Option Word :=
  match a with
  | 0x00 => some (fields [flag s.ring.carrierB 6, flag s.ring.carrierA 5, flag s.ring.addrValid 4, flag s.ring.folded 3,
      flag s.ring.beyondFold 2, flag s.candidate 1, flag s.ring.inserted 0])
  | 0x01 => some (word s.ring.ringAddr.toNat)
  | 0x02 => some s.ring.ringGen
  | 0x03 => some s.ring.ringRt
  | 0x04 => some (fields [(s.ring.rxB.toNat, 8), (s.ring.rxA.toNat, 0)])
  | 0x05 => some s.ring.ringEvent
  | 0x08 => some s.ring.crcA
  | 0x09 => some s.ring.crcB
  | 0x0A => some s.ring.code
  | 0x0B => some s.ring.carrierTally
  | _ =>
    if a = 0x10 + p.val then some s.ring.authFail[p]
    else if a = 0x18 + p.val then some s.ring.frontRefused[p]
    else none

/-- Page 0x3, reachable by P0 alone. HOST_PITCH reads as written before it takes force (log entry 46). -/
def State.page3 (s : State) (p : Pitch) (a : Nat) : Option Word :=
  if p ≠ 0 then none
  else
    let o := s.pit.own
    match a with
    | 0x00 => some (word (s.pit.hostPitchNext.getD s.pit.hostPitch).val)
    | 0x01 => some (bitsOf 8 fun k => if h : k < 8 then o.active ⟨k, h⟩ else false)
    | 0x02 => some (bitsOf 8 fun k => if h : k < 8 then (s.sessionOf ⟨k, h⟩).isSome else false)
    | 0x03 => some (word s.tagFree)
    | 0x08 => some (ownerWord (fun i => o.lane[i]?) 0)
    | 0x09 => some (ownerWord (fun i => o.lane[i]?) 1)
    | 0x0A => some (ownerWord (fun i => o.wheel[i]?) 0)
    | 0x0B => some (ownerWord (fun i => o.win[i]?) 0)
    | 0x0C => some (ownerWord (fun i => o.ain[i]?) 0)
    | 0x0D => some (ownerWord (fun i => o.ain[i]?) 1)
    | 0x70 => some (fields [flag s.pit.drbgReseeding 1, flag s.pit.drbgHealthy 0])
    | 0x71 => some s.pit.drbgEvent
    | _ =>
      if 0x10 ≤ a ∧ a < 0x14 then some (ownerWord (fun i => o.group[i]?) (a - 0x10))
      else if 0x18 ≤ a ∧ a < 0x28 then some (ownerWord (fun i => o.tally[i]?) (a - 0x18))
      else if h : 0x40 ≤ a ∧ a < 0x48 then some (word (s.pit.front.tag[a - 0x40]'(by omega)))
      else if h : 0x48 ≤ a ∧ a < 0x50 then some (word (s.pit.front.ring[a - 0x48]'(by omega)))
      else if h : 0x50 ≤ a ∧ a < 0x58 then some (word (s.pit.front.line[a - 0x50]'(by omega)))
      else if h : 0x58 ≤ a ∧ a < 0x60 then some (word (s.pit.front.heat[a - 0x58]'(by omega)))
      else if h : 0x60 ≤ a ∧ a < 0x68 then some (word (s.tagsHeld ⟨a - 0x60, by omega⟩))
      else none

/-- The queue named in QSEL. -/
def Selectors.queue (x : Selectors) : QueueIx := ⟨x.qsel.toNat, by omega⟩

/-- Page 0x4 for the acting pitch (R330 to R332). -/
def State.page4 (s : State) (host : Bool) (p : Pitch) (x : Selectors) (a : Nat) : Option Word :=
  let q := x.queue
  let mine := s.ownsQueue p q
  let c := s.q.cq[q]
  let led := s.q.ledger[p].at x.ledgerSel.toNat
  match a with
  | 0x00 => some (word x.qsel.toNat)
  | 0x01 => if mine then some (word c.entries.length) else none
  | 0x02 => if mine then some (word c.head.toNat) else none
  | 0x03 => if mine then some (word (s.q.held.filter fun h => h.queue == q).length) else none
  | 0x10 => if mine ∧ host then some 0 else none
  | 0x20 => if host then some 0 else none
  | 0x21 => if host then some (word s.host.subResult.toNat) else none
  | 0x22 => if host then some s.host.subEpoch else none
  | 0x28 => some (word s.q.evq[p].entries.length)
  | 0x29 => some (word s.q.evq[p].lost.toNat)
  | 0x38 => if host then some 0 else none
  | 0x40 => some (word x.ledgerSel.toNat)
  | 0x41 => some (word s.q.ledger[p].written)
  | 0x42 => some led.w0
  | 0x43 => some led.w1
  | 0x44 => some led.w2
  | 0x45 => some led.w3
  | 0x46 => some (word (s.tagsHeld p))
  | _ =>
    if 0x08 ≤ a ∧ a < 0x10 then (if mine then some (headWord c.entries (a - 0x08)) else none)
    else if h : 0x18 ≤ a ∧ a < 0x20 then (if host then some (s.host.desc[a - 0x18]'(by omega)) else none)
    else if 0x30 ≤ a ∧ a < 0x38 then some (headWord s.q.evq[p].entries (a - 0x30))
    else none

/-- A LANE page, for the lane's owner. -/
def State.lanePage (s : State) (host : Bool) (n : LaneIx) (a : Nat) : Option Word :=
  let l := s.ln n
  let c := l.car.set.shadow
  let x := l.sense
  let y := x.set.shadow
  let m := l.com
  let z := m.set.shadow
  match a with
  | 0x00 => some c.ctrl
  | 0x01 => some c.period
  | 0x02 => some c.periodMin
  | 0x03 => some c.periodMax
  | 0x04 => some c.cmp
  | 0x05 => some c.tOn
  | 0x06 => some c.tOff
  | 0x07 => some c.deadMp
  | 0x08 => some c.sampleAt
  | 0x09 => if host then some 0 else none
  | 0x0A => some (fields [(l.car.battenResult.toNat, 8), flag l.car.mask.armed.isSome 3, flag l.car.set.armed.isSome 2,
      flag l.car.battenDone 1, flag l.car.battenBusy 0])
  | 0x18 => some (l.car.policyShadow &&& 0x0077)
  | 0x1A => some (fields [(l.car.set.live.mode, 8), flag l.car.runThrough 6, flag l.latch.latched 5, flag (s.forced n) 4,
      flag l.car.onPhase 3, (l.car.row.val, 0)])
  | 0x1B => some (word l.latch.src.toNat)
  | 0x1C => some l.car.periodLast
  | 0x1D => some l.car.mergeCount
  | 0x1E => some l.car.mpCount
  | 0x20 => some y.ctrl
  | 0x21 => some y.ilim
  | 0x22 => some y.winHi
  | 0x23 => some y.winLo
  | 0x24 => some y.slope
  | 0x25 => some y.leb
  | 0x26 => some y.iAt
  | 0x27 => some y.valleyVds
  | 0x28 => some y.route
  | 0x30 => some (fields [flag s.ana.flt1 6, flag s.ana.flt0 5, flag x.uc 4, flag x.oc 3, flag l.car.valley 2, flag x.peak 1,
      flag (decide (x.ilimEff < x.set.live.limit)) 0])
  | 0x31 => some (word x.ilimEff.toNat)
  | 0x32 => some (word x.ilimTh.toNat)
  | 0x33 => some (word x.ilimFr.toNat)
  | 0x34 => some x.derateConflict
  | 0x35 => some (word x.iRaw.toNat)
  | 0x36 => some (if s.ana.adcBad[adcOf n] then 0x8000 else sword (clampInt (-32768) 32767 x.iNet))
  | 0x37 => some (sword x.offset &&& 0x07FF)
  | 0x38 => some x.tripCount
  | 0x39 => some x.ocCount
  | 0x3A => some x.ucCount
  | 0x3B => some (word x.calReason.toNat)
  | 0x3C => some (word x.calMean.toNat)
  | 0x60 => some (z.ctrl &&& 0x07FF)
  | 0x61 => some (z.blankMin &&& 0x00FF)
  | 0x62 => some (z.advance &&& 0x001F)
  | 0x63 => some z.kp
  | 0x64 => some z.ki
  | 0x65 => some z.accel
  | 0x66 => some z.runMin
  | 0x67 => some z.revLimit
  | 0x68 => some z.stopBrakeTime
  | 0x69 => some (z.restartDelay &&& 0x00FF)
  | 0x6A => some z.decel
  | 0x6C => some m.staged.hdr
  | 0x6D => some m.staged.alignI
  | 0x6E => some m.staged.alignTime
  | 0x6F => some m.staged.hoLimit
  | 0x70 => some (fields [flag m.rotDir 12, (m.missed.toNat, 9), (m.restarts.toNat, 6), flag m.set.armed.isSome 5,
      flag m.seated 4, flag m.dir 3, (m.state.code, 0)])
  | 0x71 => some m.speedMeas
  | 0x72 => some (satNat 16 (m.speedRef / Config.ticksPerMs))
  | 0x73 => some m.target
  | 0x74 => some (word m.iDem.toNat)
  | 0x75 => some (satNat 16 (m.t60 / Config.ticksPerUs))
  | 0x76 => some (word m.blankNow.toNat)
  | 0x77 => some m.zcCount
  | 0x78 => some m.stallCount
  | _ =>
    if h : 0x10 ≤ a ∧ a < 0x16 then some (l.car.mask.shadow.rows[a - 0x10]'(by omega))
    else if h : 0x40 ≤ a ∧ a < 0x60 then
      let k : Fin 16 := ⟨(a - 0x40) / 2, by omega⟩
      some (if a % 2 = 0 then m.staged.interval[k] else m.staged.step[k])
    else none

/-- Page 0xB. -/
def State.gatePage (s : State) (p : Pitch) (a : Nat) : Option Word :=
  if a = 0x60 then some (fields [flag s.pwr.vgdOv 1, flag s.pwr.vgdUv 0])
  else if h : a < 0x60 then
    let n : LaneIx := ⟨a / 16, by omega⟩
    if s.ownsLane p n then
      let l := s.ln n
      let g := l.gate
      let d := g.diag[(⟨g.diagSel.toNat, by omega⟩ : Fin 4)]
      let testing := l.ops.measure.any fun m => m.ended.isNone && m.kind != .calibrate && m.kind != .reseat
      match a % 16 with
      | 0x0 => some (g.set.shadow.ctrl &&& 0x0777)
      | 0x1 => some (g.set.shadow.vdsCfg &&& 0x0FFF)
      | 0x2 => some (g.set.shadow.retryCfg &&& 0x07FF)
      | 0x3 => some (g.set.shadow.openLevel &&& 0x0FFF)
      | 0x4 => some (fields [(g.openPhase.toNat, 6), flag g.openUnverified 5, flag g.waiting 4, flag testing 3,
          (min 7 (g.recent s.bell.bellNo), 0)])
      | 0x5 => some (fields [(g.kind.toNat, 4), (g.hb.toNat, 0)])
      | 0x6 => some g.faultCount
      | 0x7 => some g.probeCount
      | 0x8 => some (word g.diagResult.toNat)
      | 0x9 => some (word g.diagVb.toNat)
      | 0xA => some (word g.diagSel.toNat)
      | 0xB => some (word d.u.toNat)
      | 0xC => some (word d.v.toNat)
      | 0xD => some (word d.w.toNat)
      | 0xE => some (fields [(g.selfVds.toNat, 8), (g.selfCmp.toNat, 0)])
      | _ => none
    else none
  else none

/-- A tracker's block on page 0xC. -/
def State.trackerBlock (s : State) (n : TrkIx) (o : Nat) : Option Word :=
  let x := s.tk n
  match o with
  | 0x0 => some x.shadow.cls
  | 0x1 => some (x.shadow.cfg &&& 0x0FFF)
  | 0x2 => some (x.shadow.tol &&& 0x003F)
  | 0x3 => some x.shadow.slow
  | 0x4 => some (x.shadow.still &&& 0x00FF)
  | 0x5 => some (fields [flag x.table.free 15, (x.table.n, 0)])
  | 0x6 => some (fields [flag x.seated 12, flag (x.sync == .sync) 11, flag s.clk.runThrough 10, flag x.sensorWarn 9,
      flag x.wsShort 8, flag x.wsOpen 7, flag x.standstill 6, flag x.dirUnknown 5, flag x.dir 4, (x.sync.code, 0)])
  | 0x7 => some x.angle
  | 0x8 => some (word x.tooth)
  | 0x9 => some (x.period.setWidth 16)
  | 0xA => some (word (x.period.toNat / 65536))
  | 0xB => some x.toothRate
  | 0xC => some x.synthCount
  | 0xD => some x.syncLossCount
  | 0xE => some x.badPulse
  | 0xF => some x.revCount
  | _ => none

/-- The tracker and window named in WIN_VIEW_SEL. -/
def Selectors.viewed (x : Selectors) : TrkIx × WinIx :=
  (⟨bits x.winView 4 2, by unfold bits; omega⟩, ⟨bits x.winView 0 4, by unfold bits; omega⟩)

/-- Page 0xC. -/
def State.wheelPage (s : State) (p : Pitch) (x : Selectors) (a : Nat) : Option Word :=
  let (vt, vw) := x.viewed
  let w := (s.tk vt).windows[vw]
  let seen (v : Word) : Option Word := if s.ownsTrk p vt then some v else none
  match a with
  | 0x40 => some (word x.winView.toNat)
  | 0x41 => seen w.start
  | 0x42 => seen w.stop
  | 0x43 => seen w.cfg
  | 0x50 => some (word (s.winPins p))
  | _ =>
    if h : a < 0x40 then
      let n : TrkIx := ⟨a / 16, by omega⟩
      if s.ownsTrk p n then s.trackerBlock n (a % 16) else none
    else if h : 0x48 ≤ a ∧ a < 0x4C then
      let n : TrkIx := ⟨a - 0x48, by omega⟩
      if s.ownsTrk p n then some (s.tk n).armedMask else none
    else if h : 0x4C ≤ a ∧ a < 0x50 then
      let n : TrkIx := ⟨a - 0x4C, by omega⟩
      if s.ownsTrk p n then some (s.tk n).openMask else none
    else if h : 0x58 ≤ a ∧ a < 0x60 then
      let m : AinIx := ⟨a - 0x58, by omega⟩
      if s.pit.own.ain[m] = some p then some s.ana.burstMissed[m] else none
    else none

/-- A sensor's register may be read by pitch `p`. -/
def State.sensorReach (s : State) (p : Pitch) (i : SensorIx) : Bool :=
  match sensorLane i with
  | some n => s.ownsLane p n
  | none => true

/-- Page 0xD. The four limits read as written before they take force (log entry 46). -/
def State.thermalPage (s : State) (p : Pitch) (a : Nat) : Option Word :=
  let sensor (k : Nat) (f : Sensor → Word) : Option Word :=
    if h : k < 14 then (if s.sensorReach p ⟨k, h⟩ then some (f (s.sn ⟨k, h⟩)) else none) else none
  match a with
  | 0x30 => some (word (s.heat.dieWarnNext.getD s.heat.dieWarn).toNat)
  | 0x31 => some (word (s.heat.dieStopNext.getD s.heat.dieStop).toNat)
  | 0x32 => some (word (s.heat.dieRateNext.getD s.heat.dieRateLim).toNat)
  | 0x33 => some (word (s.heat.ntcRateNext.getD s.heat.ntcRateLim).toNat)
  | 0x34 => some (fields [flag (bit s.dev.arisen 0 && s.heat.dieAt s.heat.tWarn) 1, flag s.heat.warm 0])
  | 0x35 => some 0x00A5
  | 0x68 => some s.ana.vba
  | 0x69 => some s.ana.vbb
  | 0x6A => some (fields [flag s.ana.adcBad[(1 : Fin 2)] 5, flag s.ana.adcBad[(0 : Fin 2)] 4, (s.ana.bulk.toNat, 0)])
  | _ =>
    if a < 0x10 then sensor a Sensor.tempWord
    else if a < 0x20 then sensor (a - 0x10) Sensor.stateWord
    else if a < 0x30 then sensor (a - 0x20) fun x => sword (rateShown x.rate)
    else if h : 0x40 ≤ a ∧ a < 0x58 then
      let n : LaneIx := ⟨(a - 0x40) / 4, by omega⟩
      if s.ownsLane p n then
        let x := (s.ln n).heat.shadow
        match a % 4 with
        | 0 => some x.ntcCfg
        | 1 => some x.ntcLim
        | 2 => some x.gain
        | _ => some (x.sw &&& 0x7FFF)
      else none
    else if h : 0x58 ≤ a ∧ a < 0x5E then
      let n : LaneIx := ⟨a - 0x58, by omega⟩
      if s.ownsLane p n then some (word (s.ln n).heat.est) else none
    else if h : 0x60 ≤ a ∧ a < 0x68 then
      let m : AinIx := ⟨a - 0x60, by omega⟩
      if s.pit.own.ain[m] = some p then
        some (if s.ana.adcBad[(⟨m.val / 4, by omega⟩ : Fin 2)] then 0x8000 else word s.ana.ain[m].toNat)
      else none
    else if a = 0x70 + p.val then some (word s.heat.heatSum[p])
    else none

/-- KEY_STATE of pitch `p` (chapter 05). -/
def State.keyState (s : State) (p : Pitch) : Word :=
  let m := s.fuse.image
  let r := 8 + p.val
  let next := nextSlot m p.val
  fields [flag (degradedFuse m r) 11, flag (s.rlocked r) 10, flag (wlocked m r) 9, flag (s.budgetLow p) 8,
    flag (next == 8) 7, (next % 8, 4), flag s.fuse.keyActive[p].isNone 3, ((s.fuse.keyActive[p].map Fin.val).getD 0, 0)]

/-- Page 0xE; addresses 0x00 to 0x06 serve the host port only (R332). -/
def State.fusePage (s : State) (host : Bool) (p : Pitch) (a : Nat) : Option Word :=
  let m := s.fuse.image
  if a < 0x07 then
    if !host then none
    else
      match a with
      | 0x00 => some (word s.fuse.fuseAddr.toNat)
      | 0x01 => some s.fuse.dataLo
      | 0x02 => some s.fuse.dataHi
      | 0x03 => some 0
      | 0x04 => some (fields [(s.fuse.result.toNat, 8), (sparesLeft m p, 4), flag s.supplyOk 3, flag s.fuse.done 1,
          flag s.fuse.busy[p] 0])
      | 0x05 => some (lo16 s.fuse.rdata)
      | _ => some (hi16 s.fuse.rdata)
  else
    match a with
    | 0x07 => some (word s.fuse.lifecycle.code)
    | 0x08 => if p = 0 then some (bitsOf 16 (wlocked m)) else none
    | 0x09 => if p = 0 then some (bitsOf 16 s.rlocked) else none
    | 0x0A => if p = 0 then some (bitsOf 16 (degradedFuse m)) else none
    | 0x0B =>
      if p = 0 then
        some (bitsOf 8 (fun k => decide (128 ≤ redirByte m k))
          ||| (bitsOf 8 fun k => decide (redirByte m k < 128) && !spareBlank m k) <<< 8)
      else none
    | 0x0C => some (fields [flag s.fuse.keysDone 2, flag s.fuse.critFail 1, flag s.fuse.senseDone 0])
    | 0x18 => some (s.serial.setWidth 16)
    | 0x19 => some ((s.serial >>> 16).setWidth 16)
    | 0x1A => some ((s.serial >>> 32).setWidth 16)
    | 0x1B => some ((s.serial >>> 48).setWidth 16)
    | 0x1C => some (lo16 s.member)
    | 0x1D => some (hi16 s.member)
    | _ => if a = 0x10 + p.val then some (s.keyState p) else none

/-- The tally named in TALLY_SEL. -/
def Selectors.tally (x : Selectors) : TallyIx := ⟨x.tallySel.toNat, by omega⟩

/-- Page 0xF. -/
def State.observePage (s : State) (p : Pitch) (x : Selectors) (a : Nat) : Option Word :=
  let i := x.tally
  let t := s.obs.tally[i]
  let mine (w : Word) : Option Word := if s.pit.own.tally[i] = some p then some w else none
  match a with
  | 0x00 => some (word x.tallySel.toNat)
  | 0x01 => mine t.src
  | 0x02 => mine (lo16 t.value)
  | 0x03 => mine x.tallyHi
  | 0x04 => mine (fields [flag (!s.tallyLive i) 0])
  | 0x08 => some (fields [flag s.obs.active 0])
  | 0x09 => some (fields [((s.obs.effective p).toNat, 8), (s.obs.grant[p].toNat, 0)])
  | 0x0A => some s.obs.lost[p]
  | _ =>
    if h : 0x10 ≤ a ∧ a < 0x18 then
      if p = 0 then some (word (s.obs.countersign[a - 0x10]'(by omega)).toNat) else none
    else none

/-- What pitch `p` reads at an address of a page, through the host port or by a command; none where the address is absent or beyond
its reach (R280, R639). PAGE_SEL at 0x7F is the host port's own. -/
def State.readReg (s : State) (host : Bool) (p : Pitch) (x : Selectors) (page a : Nat) : Option Word :=
  match page with
  | 0x0 => s.page0 host p a
  | 0x1 => s.page1 p a
  | 0x2 => s.page2 p a
  | 0x3 => s.page3 p a
  | 0x4 => s.page4 host p x a
  | 0xB => s.gatePage p a
  | 0xC => s.wheelPage p x a
  | 0xD => s.thermalPage p a
  | 0xE => s.fusePage host p a
  | 0xF => s.observePage p x a
  | _ =>
    if h : 5 ≤ page ∧ page < 11 then
      let n : LaneIx := ⟨page - 5, by omega⟩
      if s.ownsLane p n then s.lanePage host n a else none
    else none

/-! ### Writes (R11, R643; chapter 19, *Immediate registers*) -/

/-- A pitch's selectors changed. -/
def State.setSel (s : State) (p : Pitch) (f : Selectors → Selectors) : State :=
  { s with q.sel := vmod s.q.sel p f }

/-- W1C bits of a word after a write at `t`: a bit set in the same CD17 cycle stays set (R641). -/
def w1c {w : Nat} (old : BitVec w) (data : Word) (f : Fresh) (t : Ticks) : BitVec w := old &&& ~~~ ((data &&& ~~~ f.kept t).setWidth w)

/-- A W1C flag at bit `k`. -/
def w1cFlag (old : Bool) (k : Nat) (data : Word) (f : Fresh) (t : Ticks) : Bool := old && !bit (data &&& ~~~ f.kept t) k

/-- A write on a LANE page: shadows and staging registers; status registers ignore it. -/
def Lane.write (l : Lane) (t : Ticks) (a : Nat) (d : Word) : Lane :=
  let car (f : CarrierSet → CarrierSet) : Lane := { l with car.set := { l.car.set with shadow := f l.car.set.shadow } }
  let sen (f : SenseSet → SenseSet) : Lane := { l with sense.set := { l.sense.set with shadow := f l.sense.set.shadow } }
  let com (f : CommutSet → CommutSet) : Lane := { l with com.set := { l.com.set with shadow := f l.com.set.shadow } }
  match a with
  | 0x00 => car fun c => { c with ctrl := d &&& 0x000F }
  | 0x01 => car fun c => { c with period := d }
  | 0x02 => car fun c => { c with periodMin := d }
  | 0x03 => car fun c => { c with periodMax := d }
  | 0x04 => car fun c => { c with cmp := d }
  | 0x05 => car fun c => { c with tOn := d }
  | 0x06 => car fun c => { c with tOff := d }
  | 0x07 => car fun c => { c with deadMp := d }
  | 0x08 => car fun c => { c with sampleAt := d }
  | 0x0A => { l with car.battenDone := w1cFlag l.car.battenDone 1 d l.car.fresh t }
  | 0x18 => { l with car.policyShadow := d }
  | 0x20 => sen fun x => { x with ctrl := d &&& 0x0003 }
  | 0x21 => sen fun x => { x with ilim := d &&& 0x03FF }
  | 0x22 => sen fun x => { x with winHi := d &&& 0x03FF }
  | 0x23 => sen fun x => { x with winLo := d &&& 0x07FF }
  | 0x24 => sen fun x => { x with slope := d &&& 0x00FF }
  | 0x25 => sen fun x => { x with leb := d &&& 0x00FF }
  | 0x26 => sen fun x => { x with iAt := d }
  | 0x27 => sen fun x => { x with valleyVds := d &&& 0x00FF }
  | 0x28 => sen fun x => { x with route := d &&& 0x03FF }
  | 0x60 => com fun x => { x with ctrl := d }
  | 0x61 => com fun x => { x with blankMin := d }
  | 0x62 => com fun x => { x with advance := d }
  | 0x63 => com fun x => { x with kp := d }
  | 0x64 => com fun x => { x with ki := d }
  | 0x65 => com fun x => { x with accel := d }
  | 0x66 => com fun x => { x with runMin := d }
  | 0x67 => com fun x => { x with revLimit := d }
  | 0x68 => com fun x => { x with stopBrakeTime := d }
  | 0x69 => com fun x => { x with restartDelay := d }
  | 0x6A => com fun x => { x with decel := d }
  | 0x6C => { l with com.staged := { l.com.staged with hdr := d &&& 0x071F } }
  | 0x6D => { l with com.staged := { l.com.staged with alignI := d &&& 0x03FF } }
  | 0x6E => { l with com.staged := { l.com.staged with alignTime := d &&& 0x00FF } }
  | 0x6F => { l with com.staged := { l.com.staged with hoLimit := d &&& 0x00FF } }
  | _ =>
    if h : 0x10 ≤ a ∧ a < 0x16 then
      let m : MaskSet := { rows := l.car.mask.shadow.rows.set (a - 0x10) (d &&& 0x003F) (by omega) }
      { l with car.mask := { l.car.mask with shadow := m } }
    else if h : 0x40 ≤ a ∧ a < 0x60 then
      let k : Fin 16 := ⟨(a - 0x40) / 2, by omega⟩
      if a % 2 = 0 then { l with com.staged := { l.com.staged with interval := vset l.com.staged.interval k d } }
      else { l with com.staged := { l.com.staged with step := vset l.com.staged.step k d } }
    else l

/-- A write of a GATE block. -/
def LaneGate.write (g : LaneGate) (o : Nat) (d : Word) : LaneGate :=
  let x := g.set.shadow
  match o with
  | 0x0 => { g with set := { g.set with shadow := { x with ctrl := d } } }
  | 0x1 => { g with set := { g.set with shadow := { x with vdsCfg := d } } }
  | 0x2 => { g with set := { g.set with shadow := { x with retryCfg := d } } }
  | 0x3 => { g with set := { g.set with shadow := { x with openLevel := d } } }
  | 0xA => { g with diagSel := d.setWidth 2 }
  | _ => g

/-- A write of a TRACK block. -/
def Tracker.write (x : Tracker) (o : Nat) (d : Word) : Tracker :=
  match o with
  | 0x0 => { x with shadow := { x.shadow with cls := d } }
  | 0x1 => { x with shadow := { x.shadow with cfg := d } }
  | 0x2 => { x with shadow := { x.shadow with tol := d } }
  | 0x3 => { x with shadow := { x.shadow with slow := d } }
  | 0x4 => { x with shadow := { x.shadow with still := d } }
  | _ => x

/-- A write of a HEAT block. -/
def LaneHeat.write (x : LaneHeat) (o : Nat) (d : Word) : LaneHeat :=
  match o with
  | 0 => { x with shadow := { x.shadow with ntcCfg := d } }
  | 1 => { x with shadow := { x.shadow with ntcLim := d } }
  | 2 => { x with shadow := { x.shadow with gain := d } }
  | _ => { x with shadow := { x.shadow with sw := d } }

/-- A write on the device-wide pages 0x0 to 0x4, by pitch `p`; what it may not write stays (R83, R84, R113, R193, R242, R262,
R263). -/
def State.writeDevice (s : State) (host : Bool) (p : Pitch) (page a : Nat) (d : Word) : State :=
  let p0 := decide (p = 0)
  match page, a with
  | 0x0, 0x01 => if p0 then { s with dev.devEvent := w1c s.dev.devEvent d s.dev.fresh s.now } else s
  | 0x0, 0x02 => if p0 then { s with dev.resetCause := s.dev.resetCause &&& ~~~d } else s
  | 0x0, 0x04 =>
    { s with host := { s.host with
      frameErr := s.host.frameErr && !bit d 2, crcErr := s.host.crcErr && !bit d 1, noObject := s.host.noObject && !bit d 0 } }
  | 0x0, 0x05 => { s with host.irqEn := d.setWidth 4 }
  | 0x1, 0x01 => if p0 then { s with pwr.pwrEvent := w1c s.pwr.pwrEvent d s.pwr.fresh s.now } else s
  | 0x1, 0x02 => if p0 then { s with pwr.request := d.setWidth 2 } else s
  | 0x1, 0x0A => if p0 || host then s.flashCtrl d else s
  | 0x1, 0x21 => if p0 then { s with clk.clkEvent := w1c s.clk.clkEvent d s.clk.fresh s.now } else s
  | 0x1, 0x22 => if p0 then s.clkCtrl d else s
  | 0x1, 0x27 => if p0 then { s with bell.bellEvent := w1c s.bell.bellEvent d s.bell.fresh s.now } else s
  | 0x2, 0x05 => if p0 then { s with ring.ringEvent := w1c s.ring.ringEvent d s.ring.fresh s.now } else s
  | 0x3, 0x00 => if bits d 3 13 = 0 then { s with pit.hostPitchNext := some ⟨bits d 0 3, by unfold bits; omega⟩ } else s
  | 0x3, 0x71 => { s with pit.drbgEvent := w1c s.pit.drbgEvent d s.pit.fresh s.now }
  | 0x4, 0x00 => s.setSel p fun x => { x with qsel := d.setWidth 6 }
  | 0x4, 0x29 => { s with q.evq := vmod s.q.evq p fun f => { f with lost := w1c f.lost d f.fresh s.now } }
  | 0x4, 0x40 => s.setSel p fun x => { x with ledgerSel := d.setWidth 8 }
  | 0x1, _ =>
    if h : 0x10 ≤ a ∧ a < 0x16 then s.modLn ⟨a - 0x10, by omega⟩ fun l => { l with ops.qg := d.setWidth 10 } else s
  | 0x4, _ =>
    if h : 0x18 ≤ a ∧ a < 0x20 then { s with host.desc := s.host.desc.set (a - 0x18) d (by omega) } else s
  | _, _ => s

/-- A write on pages 0xB to 0xF. -/
def State.writeBlockPage (s : State) (p : Pitch) (x : Selectors) (page a : Nat) (d : Word) : State :=
  match page with
  | 0xB => if h : a < 0x60 then s.modLn ⟨a / 16, by omega⟩ fun l => { l with gate := l.gate.write (a % 16) d } else s
  | 0xC =>
    if h : a < 0x40 then s.modTk ⟨a / 16, by omega⟩ fun t => t.write (a % 16) d
    else if a = 0x40 then s.setSel p fun y => { y with winView := d.setWidth 6 }
    else s
  | 0xD =>
    if h : 0x40 ≤ a ∧ a < 0x58 then s.modLn ⟨(a - 0x40) / 4, by omega⟩ fun l => { l with heat := l.heat.write (a % 4) d }
    else if p = 0 then { s with heat := s.heat.limitWrite a d }
    else s
  | 0xE =>
    match a with
    | 0x00 => { s with fuse.fuseAddr := d.setWidth 12 }
    | 0x01 => { s with fuse.dataLo := d }
    | 0x02 => { s with fuse.dataHi := d }
    | 0x04 => { s with fuse.done := w1cFlag s.fuse.done 1 d s.fuse.fresh s.now }
    | _ => s
  | 0xF =>
    match a with
    | 0x00 => s.setSel p fun y => { y with tallySel := d.setWidth 6 }
    | 0x01 => { s with obs := { s.obs with tally := vset s.obs.tally x.tally { value := 0, src := d }, restarted := x.tally :: s.obs.restarted } }
    | _ => s
  | _ => s

/-- A write of pitch `p` to an address it reaches, resolved with the selectors `x` (R644); DOORBELL, the pops, FUSE_CMD and
BATTEN_COMMIT are the host port's (Host.lean). -/
def State.writeReg (s : State) (host : Bool) (p : Pitch) (x : Selectors) (page a : Nat) (d : Word) : State :=
  if page < 5 then s.writeDevice host p page a d
  else if h : page < 11 then
    if h' : 5 ≤ page then s.modLn ⟨page - 5, by omega⟩ fun l => l.write s.now a d else s
  else s.writeBlockPage p x page a d

end Sys2Proof.Machine
end

