-- ==== Sys2Proof/Machine/Queues.lean ====
section
/-! DEFINITION. Queues: acceptance, the frame around an application, completions, events and consumption (chapter 09). -/

namespace Sys2Proof.Machine

/-! ### Acceptance (R301 to R305, R323) -/

/-- The epochs ahead of the bell in progress that an EPOCH_AT names: 2 for 0xFFFF, and none where the epoch is late (R102, R302). -/
def epochsAhead (now : DWord) (epochAt : Word) : Option Nat :=
  if epochAt = 0xFFFF then some 2
  else
    let k := (epochAt - lo16 now).toNat
    if 2 ≤ k ∧ k ≤ 32768 then some k else none

/-- The lease is out (R323). -/
def State.leaseIsOut (s : State) : Bool := s.host.leaseOn && s.host.leaseLeft == 0

/-- Check 4: the node JOINED, the market open or the opcode admitted while closed, the lease not out for a lane start. -/
def State.check4 (s : State) (p : Pitch) (op : Byte) : Bool :=
  let o := opcodeOf op
  s.atJoined && (!s.dev.closed || o.any Opcode.whileClosed)
    && !(s.leaseIsOut && decide (p = s.pit.hostPitch) && (o == some .laneStart || o == some .laneReverse))

/-- The first check that refuses a submission of pitch `p` to queue `q` (R301), or the epochs ahead at which it applies. -/
def State.judge301 (s : State) (p : Pitch) (q : QueueIx) (d : Desc) : Byte × Nat :=
  let tag := (Desc.tag d).toNat
  let front := s.pit.front.tag[p]
  if !s.ownsQueue p q then (stNoObject, 0)
  else if s.q.held.any fun h => h.queue == q && h.seq.toNat % 16 == (Desc.seq d).toNat % 16 then (stQueueFull, 0)
  else if front ≤ tag ∨ (s.q.held.any fun h => h.pitch == p && h.tag == Desc.tag d) ∨ front ≤ s.tagsHeld p then (stTagFull, 0)
  else if !s.check4 p (Desc.opcode d) then (stClosed, 0)
  else
    match epochsAhead s.bell.epoch (Desc.epochAt d) with
    | some k => (stOk, k)
    | none => (stLate, 0)

/-- What a submission answers: its verdict and effective epoch, 0 where refused. -/
structure Verdict where
  status : Byte
  epoch : DWord
  deriving DecidableEq, Repr

/-- The door code of a SUBMIT packet. -/
def doorCode : Door → Nat
  | .ring => 0
  | _ => 1

/-- The SUBMIT packet of a submission (chapter 17). -/
def State.traceSubmit (s : State) (p : Pitch) (door : Door) (q : QueueIx) (d : Desc) (v : Verdict) : State :=
  s.trace 7 p [word (v.status.toNat * 256 + doorCode door * 64 + q.val), d.w0, d.w1, lo16 v.epoch]

/-- An accepted command joins those that wait and holds its entry and tag (R304). -/
def State.accept (s : State) (c : Cmd) : State :=
  { s with q := { s.q with
    accepted := s.q.accepted ++ [c]
    held := s.q.held ++ [{ pitch := c.pitch, queue := c.queue, seq := Desc.seq c.desc, tag := Desc.tag c.desc }] } }

/-- A submission of pitch `p` to an existing queue is judged, counted and traced; an accepted one waits for its epoch (R303,
R304). Before the first boundary the bell in progress is taken as epoch 0 (log entry 68). -/
def State.submit (s : State) (p : Pitch) (door : Door) (q : QueueIx) (d : Desc) : State × Verdict :=
  let (st, ahead) := s.judge301 p q d
  let e : DWord := s.bell.epoch + BitVec.ofNat 32 ahead
  let g := (groupOf q).val
  if st = stOk then
    let v : Verdict := { status := st, epoch := e }
    let s := s.accept { pitch := p, door := door, queue := q, epoch := e, desc := d }
    ((s.count 0x30 g (some p)).traceSubmit p door q d v, v)
  else
    let v : Verdict := { status := st, epoch := 0 }
    ((s.count 0x31 g (some p)).traceSubmit p door q d v, v)

/-- A register-path command of the host pitch: check 4 alone refuses it, and it holds nothing (R657). -/
def State.submitRegister (s : State) (d : Desc) : State × Byte :=
  let p := s.pit.hostPitch
  if s.check4 p (Desc.opcode d) then
    let c : Cmd := { pitch := p, door := .register, queue := 0, epoch := s.bell.epoch + 2, desc := d }
    ({ s with q.accepted := s.q.accepted ++ [c] }, stOk)
  else (s, stClosed)

/-! ### The frame around an application (R306 to R310, R318, R326) -/

/-- The effect of a command at its application: the state, and what it completes with at once; none for a long operation. -/
abbrev Effect := State × Option Result

/-- A command that completes at once. -/
def State.done (s : State) (st : Byte) (r0 r1 r2 r3 : Word := 0) : Effect :=
  (s, some { status := st, r0 := r0, r1 := r1, r2 := r2, r3 := r3 })

/-- An opcode that its pitch may not issue, or whose lane or tracker is not its own (R245, R246, R279, R308, R324, R325). -/
def State.issuerRefusal (s : State) (c : Cmd) (o : Opcode) : Option Byte :=
  let no (b : Bool) : Option Byte := if b then none else some stNoObject
  match o with
  | .laneStart | .laneStop | .laneSetSpeed | .laneReverse | .laneReseat | .laneCalibrate | .laneOffstateDiag | .laneSelftest
  | .laneClearLatch =>
    match Cmd.lane c with
    | some n => no (s.ownsLane c.pitch n)
    | none => some stNoObject
  | .wheelLoadTable | .windowArm | .windowDisarm => no (s.ownsTrk c.pitch ⟨bits c.desc.w3 12 2, by unfold bits; omega⟩)
  | .assign | .reopen | .benchHold | .benchRelease => no (decide (c.pitch = 0))
  | .leaseRenew => no (decide (c.door = .host ∧ c.pitch = s.pit.hostPitch))
  | .sessionOpen => some stInconsistent
  | _ => none

/-- The FLAGS bits that an opcode does not define are 0 (R308). -/
def flagsFit (c : Cmd) (o : Opcode) : Bool := if o.isLane then bits c.desc.w0 3 5 == 0 else bits c.desc.w0 0 8 == 0

/-- A command refused before its effect: its queue group moved away, a hold, a closure, its opcode, its issuer or object, or its FLAGS
(R279, R308, R309, R326). Ownership of a lane or tracker goes before the FLAGS, that of a fuse region after them (log entry 78). -/
def State.refusal (s : State) (c : Cmd) : Option Byte :=
  let o := opcodeOf (Desc.opcode c.desc)
  if c.door ≠ .register ∧ !s.ownsQueue c.pitch c.queue then some stNoObject
  else if s.q.hold && !o.any Opcode.duringHold then some stLate
  else if s.dev.closed && !o.any Opcode.whileClosed then some stClosed
  else
    match o with
    | none => some stInconsistent
    | some o =>
      match s.issuerRefusal c o with
      | some st => some st
      | none => if flagsFit c o then none else some stInconsistent

/-- A command is applied: it takes its order index; refused or not, it gets its ledger status; what completes at once is posted at the
next boundary (R281, R307, R310), that of a command whose queue group has moved away since its acceptance among them (log entry 39). -/
def State.applyWith (s : State) (c : Cmd) (f : Applied → State → Effect) : State × Applied × Byte :=
  let a : Applied := { cmd := c, order := s.q.orderNext[c.pitch] }
  let s := { s with q := { s.q with
    orderNext := vmod s.q.orderNext c.pitch fun k => k + 1
    accepted := s.q.accepted.erase c } }
  match s.refusal c with
  | some st =>
    (s.finish a st 0 0 0 0, a, st)
  | none =>
    match f a s with
    | (s, some r) => (s.finish a r.status r.r0 r.r1 r.r2 r.r3, a, r.status)
    | (s, none) => (s, a, stOk)

/-- A command applied by itself, with its ledger entry (R318). -/
def State.applyRow (s : State) (o : Opcode) (c : Cmd) (f : Applied → State → Effect) : State :=
  let (s, a, st) := s.applyWith (Cmd.withOpcode c o) f
  s.ledgerWrite a st

/-- A command completed with ST_LATE without being applied (R112, R189): it leaves no ledger entry, and is posted at the boundary in
progress. -/
def State.lapse (s : State) (c : Cmd) (order : Nat) : State :=
  ({ s with q.accepted := s.q.accepted.erase c }).finishIn 0 { cmd := c, order := order } stLate 0 0 0 0

/-! ### Posting (R310 to R313) -/

/-- Earlier effective epoch first, then lower order index (R311); `now` fixes the wrap. -/
def Done.before (now : DWord) (a b : Done) : Bool :=
  let x := (a.what.cmd.epoch - now).toInt
  let y := (b.what.cmd.epoch - now).toInt
  decide (x < y) || (decide (x = y) && decide (a.what.order ≤ b.what.order))

/-- Insertion in order. -/
def insertBy {α : Type} (le : α → α → Bool) (x : α) : List α → List α
  | [] => [x]
  | y :: r => if le x y then x :: y :: r else y :: insertBy le x r

/-- A list in order, equal elements in their own order. -/
def sortBy {α : Type} (le : α → α → Bool) : List α → List α
  | [] => []
  | x :: r => insertBy le x (sortBy le r)

/-- Result word 0 as posted: a FUSE_PROGRAM_WORD, refused or not, carries the spares its pitch has left at that moment (R148, R661). -/
def State.postedR0 (s : State) (d : Done) : Word :=
  if opcodeOf (Desc.opcode d.what.cmd.desc) = some .fuseProgramWord then
    (d.r0 &&& 0x000F) ||| word (sparesLeft s.fuse.image d.what.cmd.pitch * 16)
  else d.r0

/-- The completion entry (chapter 09, *Completion entry*). -/
def State.completionEntry (s : State) (d : Done) : Entry :=
  let c := d.what.cmd
  ⟨word (c.seq.toNat * 512 + c.tag.toNat), word (bit01 (s.budgetLow c.pitch) * 256 + d.status.toNat), lo16 c.epoch, hi16 c.epoch,
   s.postedR0 d, d.r1, d.r2, d.r3⟩

/-- The outcome of a register-path command, whose pitch is busy no more (R163, R282, R359, R657). -/
def State.postRegister (s : State) (d : Done) : State :=
  match opcodeOf (Desc.opcode d.what.cmd.desc) with
  | some .commitBatten =>
    let page := bits d.what.cmd.desc.w3 12 4
    if h : 5 ≤ page ∧ page < 11 then
      s.modLn ⟨page - 5, by omega⟩ fun l =>
        if l.car.battenBusy then
          { l with car := { l.car with
              battenResult := d.status, battenDone := true, fresh := l.car.fresh.set s.now 2, battenBusy := false } }
        else l
    else s
  | o =>
    let data := if o = some .fuseRead ∧ d.status = stOk then d.r1 ++ d.r0 else s.fuse.rdata
    { s with fuse := { s.fuse with
        result := d.status, done := true, fresh := s.fuse.fresh.set s.now 2
        busy := vset s.fuse.busy d.what.cmd.pitch false, rdata := data } }

/-- One completion is posted, with its packet (R310, R606). -/
def State.postDone (s : State) (d : Done) : State :=
  let c := d.what.cmd
  if d.what.mute then s
  else if c.door = .register then s.postRegister d
  else
    let e := s.completionEntry d
    let s := { s with q.cq := vmod s.q.cq c.queue fun r => { r with entries := r.entries ++ [e] } }
    s.trace 2 c.pitch (word c.queue.val :: e.words)

/-- The completions that are due are posted (R311). -/
def State.postCompletions (s : State) : State :=
  let due := s.q.outcomes.filter fun d => d.due ≤ s.bell.bellNo
  let s := { s with q.outcomes := s.q.outcomes.filter fun d => !decide (d.due ≤ s.bell.bellNo) }
  (sortBy (Done.before s.bell.epoch) due).foldl State.postDone s

/-- One event is posted, or dropped and counted (R312, R313, R599). -/
def State.postEvent (s : State) (x : EventOut) : State :=
  let f := s.q.evq[x.pitch]
  if f.entries.length < 16 then
    ({ s with q.evq := vset s.q.evq x.pitch { f with entries := f.entries ++ [x.entry] } }).trace 3 x.pitch x.entry.words
  else { s with q.evq := vset s.q.evq x.pitch { f with lost := satInc f.lost, fresh := f.fresh.set s.now 0x00FF } }

/-- The events of the bell are posted. -/
def State.postEvents (s : State) : State :=
  let l := s.q.events
  l.foldl State.postEvent { s with q.events := [] }

/-! ### Consumption (R304, R314, R315) -/

/-- The entry and tag that a consumed completion of a queue frees. -/
def freeHeld (q : QueueIx) (e : Entry) (l : List Held) : List Held :=
  l.filter fun h => !(h.queue == q && word (h.seq.toNat * 512 + h.tag.toNat) == e.w0)

/-- Consumption asked for in the last bell takes effect. -/
def State.consume (s : State) : State :=
  let cqs := s.q.cq
  let held := (List.finRange 64).foldl (fun l q => (cqs[q].entries.take cqs[q].pops).foldl (fun l e => freeHeld q e l) l) s.q.held
  { s with q := { s.q with
    held := held
    cq := vmap (fun r =>
      { entries := r.entries.drop r.pops, head := r.head + BitVec.ofNat 8 (min r.pops r.entries.length), pops := 0 }) s.q.cq
    evq := vmap (fun f =>
      { f with entries := f.entries.drop f.pops, head := f.head + BitVec.ofNat 8 (min f.pops f.entries.length), pops := 0 })
      s.q.evq } }

/-- One completion of a queue, and of those already asked for, is to be consumed. -/
def Ring.pop (r : Ring) : Ring := { r with pops := min (r.pops + 1) r.entries.length }

/-- One event is to be consumed. -/
def EventFifo.pop (f : EventFifo) : EventFifo := { f with pops := min (f.pops + 1) f.entries.length }

/-- A new head consumes up to it where it lies within the entries that wait (R314). -/
def popsFor (head new : Byte) (waiting pops : Nat) : Nat :=
  let k := (new - head).toNat
  if k ≤ waiting then max pops k else pops

/-! ### IRQ_N (R317) -/

/-- An enabled completion, event or lease source is pending for the host pitch. -/
def State.irqPending (s : State) : Bool :=
  let p := s.pit.hostPitch
  (bit s.host.irqEn 0 && s.cqPending p) || (bit s.host.irqEn 1 && s.evqPending p)
    || (bit s.host.irqEn 2 && s.host.leaseOn && decide (s.host.leaseLeft ≤ 2))

/-- IRQ_N is low: a source of the last boundary, or the ERROR source as it stands. -/
def State.irqLow (s : State) : Bool :=
  s.atSettled && (s.host.irqBell || (bit s.host.irqEn 3 && (s.host.crcErr || s.host.frameErr)))

end Sys2Proof.Machine
end

