-- ==== Sys2Proof/Machine/LaneCommands.lean ====
section
/-! DEFINITION. The lane commands LANE_START to LANE_CLEAR_LATCH (0x10 to 0x18) at their application (chapters 10 to 13). -/

namespace Sys2Proof.Machine

/-! ### Shared parts -/

/-- The argument words after the first `k` are 0x0000 (chapter 09, *Opcodes*). -/
def restZero (d : Desc) (k : Nat) : Bool := ([d.w3, d.w4, d.w5, d.w6, d.w7].drop k).all (· == 0)

/-- A lane command's refusal, with its reason in result word 2. -/
def State.reason (s : State) (st : Byte) (reason : Nat) : Effect := s.done st 0 0 (word reason) 0

/-- The first failing check of a list: its status and reason. -/
def firstFail : List (Bool × Byte × Nat) → Option (Byte × Nat)
  | [] => none
  | (ok, st, r) :: l => if ok then firstFail l else some (st, r)

/-- An effect on the lane that the command names; a command with an argument word that its opcode does not name is refused
first. -/
def onLane (named : Nat) (f : LaneIx → Applied → State → Effect) (a : Applied) (s : State) : Effect :=
  match Cmd.lane a.cmd with
  | some n => if restZero a.cmd.desc named then f n a s else s.reason stInconsistent 0
  | none => s.reason stNoObject 0

/-- One of the commands of check 3 of R397 is applied on lane `n`; `test` tells it from LANE_START. -/
def State.markApplied (s : State) (n : LaneIx) (test : Bool) : State :=
  s.modLn n fun l =>
    { l with ops := { l.ops with
        busyAt := some s.bell.bellNo
        testAt := if test then some s.bell.bellNo else l.ops.testAt } }

/-- Check 3 of R397, with R401, R432 and R483: another command of the five was applied at this epoch, or a measurement or test is in
progress. -/
def State.laneBusy (s : State) (n : LaneIx) : Bool :=
  decide ((s.ln n).ops.busyAt = some s.bell.bellNo) || (s.ln n).ops.measure.isSome

/-! ### LANE_START (R411, R419 to R428, R451) -/

/-- The target of a start or of LANE_SET_SPEED is in range. -/
def targetOk (w : Word) : Bool := decide (1 ≤ w.toNat ∧ w.toNat ≤ 0xBB80)

/-- Checks 1 to 11 of R419 on a STOPPED lane. -/
def State.startChecks (s : State) (p : Pitch) (n : LaneIx) (d : Desc) : List (Bool × Byte × Nat) :=
  let l := s.ln n
  let term := laneTerm l.ops.qg l.car.set.live.freqPeriod
  [ (!l.pin, stInconsistent, 2),
    (l.com.seated, stInconsistent, 3),
    (l.car.set.live.mode == 2 || l.sense.set.live.routeOf 0 == 1, stInconsistent, 4),
    (targetOk d.w3 && bits d.w4 1 15 == 0, stInconsistent, 5),
    (!l.latch.latched, stBusy, 1),
    (!(l.ops.measure.isSome || decide (l.ops.testAt = some s.bell.bellNo)), stBusy, 2),
    (decide (l.com.speedMeas ≤ l.com.set.live.revLimit) || l.com.rotDir == bit d.w4 0, stSpeedHigh, 0),
    (s.lineAllows p term, stFrontage, 1),
    (!s.railOut n, stFrontage, 2),
    (s.clk.rootOk && s.pwr.vgdOk, stFrontage, 3),
    (!s.thermalStop n, stFrontage, 4) ]

/-- What a start sets before it turns the motor: its direction and target, a restart count of 0, QG_n in force (R52, R441). -/
def Lane.startSet (l : Lane) (a : Applied) : Lane :=
  let d := a.cmd.desc
  { l with
    ops := { l.ops with start := some a, qgLive := l.ops.qg }
    com := { l.com with dir := bit d.w4 0, target := d.w3, targetNext := none, restarts := 0 } }

/-- A start that passed enters RUN from a turning motor (R426), or ALIGN (R421). -/
def State.startTurning (s : State) (n : LaneIx) (t : Ticks) : State :=
  let l := s.ln n
  if l.com.set.live.revLimit < l.com.speedMeas ∧ l.com.rotDir = l.com.dir then
    let x := l.tracked t
    s.enterRunTurning n t x.1 x.2.1 x.2.2
  else s.enterAlign n t

/-- LANE_START on lane `n`; armed sets of a stopped lane take force before the checks (R451). -/
def State.laneStart (s : State) (n : LaneIx) (a : Applied) : Effect :=
  if (s.ln n).running then (s.markApplied n false).reason stNotStopped 0
  else
    let s := s.takeAll n s.now
    match firstFail (s.startChecks a.cmd.pitch n a.cmd.desc) with
    | some (st, r) => (s.markApplied n false).reason st r
    | none =>
      let s := (s.markApplied n false).modLn n fun l => l.startSet a
      (s.startTurning n s.now, none)

/-! ### LANE_STOP, LANE_SET_SPEED, LANE_REVERSE (R435, R436, R442 to R449, R474) -/

/-- The mode that LANE_STOP names (R442). -/
def Lane.namedMode (l : Lane) (w : Word) : Option StopMode :=
  match w.toNat with
  | 0 => some l.com.set.live.stopMode
  | 1 => some .coast
  | 2 => some .brake
  | 3 => some .ramp
  | _ => none

/-- LANE_STOP on lane `n`; it ends the retry wait of a PIN-mode lane too (R474). -/
def State.laneStop (s : State) (n : LaneIx) (a : Applied) : Effect :=
  match (s.ln n).namedMode a.cmd.desc.w3 with
  | none => s.reason stInconsistent 0
  | some m =>
    if (s.ln n).running then (s.beginStop n s.now m false (some a) 1 false, none)
    else if (s.ln n).gate.waiting then (s.endPinWait n s.now).done stOk (word StopMode.coast.code) 0 0 (s.ln n).com.speedMeas
    else s.done stOk

/-- The lane is neither STOPPED nor STOPPING: LANE_SET_SPEED and LANE_REVERSE act. -/
def Lane.steerable (l : Lane) : Bool := decide (l.com.state ≠ .stopped ∧ l.com.state ≠ .stopping)

/-- LANE_SET_SPEED on lane `n`: the target, raised to RUN_MIN, takes force at the next carrier boundary. -/
def State.laneSetSpeed (s : State) (n : LaneIx) (a : Applied) : Effect :=
  let l := s.ln n
  let w := a.cmd.desc.w3
  if !l.steerable then s.reason stInconsistent 1
  else if !targetOk w then s.reason stInconsistent 5
  else
    let target := if w < l.com.set.live.runMin then l.com.set.live.runMin else w
    (s.modLn n fun l => { l with com.targetNext := some target }).done stOk target

/-- What a passing LANE_REVERSE sets; during a retry wait the lane is to resume from ALIGN (R474). -/
def Lane.reverseSet (l : Lane) (a : Applied) : Lane :=
  { l with
    ops := { l.ops with start := some a }
    com := { l.com with dir := !l.com.dir, restarts := 0 }
    gate := { l.gate with resume := if l.gate.waiting then .align else l.gate.resume }
    car := l.car.dropRows }

/-- LANE_REVERSE on lane `n`. -/
def State.laneReverse (s : State) (n : LaneIx) (a : Applied) : Effect :=
  let l := s.ln n
  if !l.steerable then s.reason stInconsistent 1
  else if l.com.set.live.revLimit < l.com.speedMeas then s.reason stSpeedHigh 0
  else
    let s := (s.endStart n 5).modLn n fun l => l.reverseSet a
    if l.com.state = .restartWait then (s, none) else ((s.gatesOff n s.now).enterAlign n s.now, none)

/-! ### Measurements and tests (R397 to R401, R430 to R432, R475, R481, R483) -/

/-- Checks 4 to 6 of R397 at the application boundary. -/
def State.quietChecks (s : State) (n : LaneIx) : List (Bool × Byte × Nat) :=
  [ (s.clk.rootOk, stCalCondition, 5),
    ((s.ln n).floated s.now, stCalCondition, 1),
    ((s.ln n).quiet s.now, stCalCondition, 2) ]

/-- A measurement or test starts on lane `n`. -/
def State.startMeasure (s : State) (n : LaneIx) (m : Measuring) : State :=
  s.modLn n fun l => { l with ops.measure := some m }

/-- A measurement is refused; a failed precondition is shown in CAL_REASON at once. -/
def State.measureRefused (s : State) (n : LaneIx) (st : Byte) (r : Nat) : Effect :=
  let s := if st = stCalCondition then s.modLn n fun l => { l with sense.calReason := BitVec.ofNat 3 r } else s
  s.reason st r

/-- LANE_CALIBRATE on lane `n`. -/
def State.laneCalibrate (s : State) (n : LaneIx) (a : Applied) : Effect :=
  let checks := (!(s.ln n).running, stNotStopped, 0) :: (!s.laneBusy n, stBusy, 0) :: s.quietChecks n
  let s := s.markApplied n true
  match firstFail checks with
  | some (st, r) => s.measureRefused n st r
  | none => (s.startMeasure n { what := a, kind := .calibrate }, none)

/-- LANE_RESEAT on lane `n`. -/
def State.laneReseat (s : State) (n : LaneIx) (a : Applied) : Effect :=
  let staged := (s.ln n).com.staged
  let checks := (!(s.ln n).running, stNotStopped, 0) :: (!s.laneBusy n, stBusy, 0) :: (!staged.bad, stInconsistent, 16)
    :: s.quietChecks n
  let s := s.markApplied n true
  match firstFail checks with
  | some (st, r) => s.measureRefused n st r
  | none => (s.startMeasure n { what := a, kind := .reseat, profile := staged }, none)

/-- V_B of a lane's rail at 100 mV per LSB, from its 10 mV reading. -/
def State.railTenths (s : State) (n : LaneIx) : BitVec 10 :=
  let v := match railOf n with
    | .a => s.ana.vba
    | .b => s.ana.vbb
  satNat 10 (roundHalfAway v.toNat 10).toNat

/-- LANE_OFFSTATE_DIAG on lane `n`. -/
def State.laneDiag (s : State) (n : LaneIx) (a : Applied) : Effect :=
  let w := a.cmd.desc.w3
  let checks := [ (bits w 0 2 != 3 && bits w 2 14 == 0 && restZero a.cmd.desc 1, stInconsistent, 5),
      (!(s.ln n).running, stNotStopped, 0), (!(s.ln n).pin, stInconsistent, 2), (!s.laneBusy n, stBusy, 0) ]
    ++ s.quietChecks n ++ [ (!s.railOut n, stCalCondition, 6), (s.pwr.vgdOk, stCalCondition, 7) ]
  let s := s.markApplied n true
  match firstFail checks with
  | some (st, r) => s.reason st r
  | none =>
    ((s.modLn n fun l => { l with gate.diagNew := Vector.replicate 4 {} }).startMeasure n
      { what := a, kind := .diag 0, vb := s.railTenths n }, none)

/-- LANE_SELFTEST on lane `n`. -/
def State.laneSelftest (s : State) (n : LaneIx) (a : Applied) : Effect :=
  let checks := [ (!(s.ln n).running, stNotStopped, 0), (!(s.ln n).pin, stInconsistent, 2), (!s.laneBusy n, stBusy, 0),
    (s.clk.rootOk, stCalCondition, 5), ((s.ln n).allOff, stCalCondition, 1) ]
  let s := s.markApplied n true
  match firstFail checks with
  | some (st, r) => s.reason st r
  | none => (s.startMeasure n { what := a, kind := .selftest }, none)

/-! ### LANE_CLEAR_LATCH (R365 to R367) -/

/-- A latch source of lane `n` that still asserts, the lowest code first. -/
def State.latchSource (s : State) (n : LaneIx) : Option Byte :=
  match [0, 1, 2, 3, 4].find? fun i => s.asserts n i && (s.ln n).sense.set.live.routeOf i == 2 with
  | some i => some (sourceCode i)
  | none => if s.pwr.ovStop then some 0x60 else none

/-- The latch and `LATCH_SRC` are clear. -/
def Lane.unlatch (l : Lane) : Lane := { l with latch.latched := false, latch.src := 0 }

/-- The latch of lane `n` is cleared, and the lane is left stopped, a retry wait included (R365). -/
def State.clearLatch (s : State) (n : LaneIx) (t : Ticks) : State :=
  let s := s.releaseSafe n t fun s => s.modLn n Lane.unlatch
  if (s.ln n).running then s.toStopped n t else s

/-- LANE_CLEAR_LATCH on lane `n`: a source that still asserts sets the latch again before the gates follow anything else (R365 to
R367). -/
def State.laneClearLatch (s : State) (n : LaneIx) (_a : Applied) : Effect :=
  if (s.ln n).latch.latched then
    match s.latchSource n with
    | some src => ((s.modLn n Lane.unlatch).setLatch n src s.now).done stOk 1
    | none => (s.clearLatch n s.now).done stOk 0
  else s.done stOk 0

/-- The effect of LANE_START. -/
def effLaneStart : Applied → State → Effect := onLane 2 fun n a s => s.laneStart n a
/-- The effect of LANE_STOP. -/
def effLaneStop : Applied → State → Effect := onLane 1 fun n a s => s.laneStop n a
/-- The effect of LANE_SET_SPEED. -/
def effLaneSetSpeed : Applied → State → Effect := onLane 1 fun n a s => s.laneSetSpeed n a
/-- The effect of LANE_REVERSE. -/
def effLaneReverse : Applied → State → Effect := onLane 0 fun n a s => s.laneReverse n a
/-- The effect of LANE_RESEAT. -/
def effLaneReseat : Applied → State → Effect := onLane 0 fun n a s => s.laneReseat n a
/-- The effect of LANE_CALIBRATE. -/
def effLaneCalibrate : Applied → State → Effect := onLane 0 fun n a s => s.laneCalibrate n a
/-- The effect of LANE_OFFSTATE_DIAG, whose checks take in its arguments. -/
def effLaneOffstateDiag : Applied → State → Effect := onLane 5 fun n a s => s.laneDiag n a
/-- The effect of LANE_SELFTEST. -/
def effLaneSelftest : Applied → State → Effect := onLane 0 fun n a s => s.laneSelftest n a
/-- The effect of LANE_CLEAR_LATCH. -/
def effLaneClearLatch : Applied → State → Effect := onLane 0 fun n a s => s.laneClearLatch n a

end Sys2Proof.Machine
end

