-- ==== Sys2Proof/Machine/Blocks.lean ====
section
/-! DEFINITION. READ_BLOCK, WRITE_BATTEN and COMMIT_BATTEN (chapters 09 and 10), with the battens of chapters 11 to 15. -/

namespace Sys2Proof.Machine

/-! ### Blocks of registers (R320, R348, R639, R644) -/

/-- The page of a block, argument word 3 [15:12]. -/
def blockPage (d : Desc) : Nat := bits d.w3 12 4

/-- The addresses of a block, in order. -/
def blockAddrs (d : Desc) : List Nat := (List.range (bits d.w3 8 2 + 1)).map fun i => bits d.w3 0 7 + i

/-- The reserved bits of a block's word 3. -/
def blockReserved (d : Desc) : Bool := bits d.w3 10 2 != 0 || bit d.w3 7

/-- What pitch `p` reads at an address by a command; a TALLY_HI read after TALLY_LO in its block shows the same value's high half. -/
def State.readBlockWord (s : State) (p : Pitch) (page start a : Nat) : Option Word :=
  let x := s.q.sel[p]
  if page = 15 ∧ a = 3 ∧ start ≤ 2 then (s.readReg false p x 15 2).map fun _ => hi16 s.obs.tally[x.tally].value
  else s.readReg false p x page a

/-- The words of a block as pitch `p` reads them, none where one address is absent or out of reach. -/
def State.readBlockWords (s : State) (p : Pitch) (d : Desc) : Option (List Word) :=
  (blockAddrs d).mapM fun a => s.readBlockWord p (blockPage d) (bits d.w3 0 7) a

/-- READ_BLOCK, with the values as they stood in `snap` (R320). -/
def State.readBlock (s snap : State) (a : Applied) : Effect :=
  let d := a.cmd.desc
  match snap.readBlockWords a.cmd.pitch d with
  | none => s.done stNoObject
  | some ws =>
    if blockReserved d || !restZero d 1 then s.done stInconsistent
    else s.done stOk (ws.getD 0 0) (ws.getD 1 0) (ws.getD 2 0) (ws.getD 3 0)

/-- WRITE_BATTEN: reach is judged for the whole block first, with the selectors of that moment (R644). Its FLASH_CTRL write counts as the
host port's for no pitch, whatever its door (R84; log entry 48). -/
def State.writeBlock (s : State) (a : Applied) : Effect :=
  let d := a.cmd.desc
  let p := a.cmd.pitch
  let addrs := blockAddrs d
  let x := s.q.sel[p]
  match s.readBlockWords p d with
  | none => s.done stNoObject
  | some _ =>
    if blockReserved d || (d.tail4.drop addrs.length).any (· != 0) then s.done stInconsistent
    else ((addrs.zip d.tail4).foldl (fun s w => s.writeReg false p x (blockPage d) w.1 w.2) s).done stOk

/-! ### Battens and their commits (R347 to R357, R404 to R406, R450 to R452, R490 to R492, R539, R540, R579, R580) -/

/-- A batten, with its lane or tracker. -/
inductive BattenId where
  | carrier (n : LaneIx)
  | mask (n : LaneIx)
  | policy (n : LaneIx)
  | sense (n : LaneIx)
  | commut (n : LaneIx)
  | gate (n : LaneIx)
  | track (n : TrkIx)
  | heat (n : LaneIx)
  deriving DecidableEq, Repr

/-- The lane of a LANE page. -/
def pageLane (page : Nat) : Option LaneIx := if h : 5 ≤ page ∧ page < 11 then some ⟨page - 5, by omega⟩ else none

/-- The batten that a page and number name. -/
def battenOf (page b : Nat) : Option BattenId :=
  match pageLane page with
  | some n =>
    match b with
    | 1 => some (.carrier n)
    | 2 => some (.mask n)
    | 3 => some (.policy n)
    | 4 => some (.sense n)
    | 5 => some (.commut n)
    | _ => none
  | none =>
    if h : page = 11 ∧ 6 ≤ b ∧ b < 12 then some (.gate ⟨b - 6, by omega⟩)
    else if h : page = 12 ∧ 1 ≤ b ∧ b < 5 then some (.track ⟨b - 1, by omega⟩)
    else if h : page = 13 ∧ 1 ≤ b ∧ b < 7 then some (.heat ⟨b - 1, by omega⟩)
    else none

/-- Pitch `p` owns the batten's object. -/
def State.ownsBatten (s : State) (p : Pitch) : BattenId → Bool
  | .carrier n | .mask n | .policy n | .sense n | .commut n | .gate n | .heat n => s.ownsLane p n
  | .track n => s.ownsTrk p n

/-- PIN mode is selected where R458 refuses it. -/
def State.pinForbidden (s : State) (n : LaneIx) (g : GateSet) : Bool := g.pin && !(decide (n.val < 2) && bit s.fuse.cfg100 (6 + n.val))

/-- The shadow set is inconsistent. -/
def State.battenBad (s : State) : BattenId → Bool
  | .carrier n => (s.ln n).car.set.shadow.bad
  | .mask n => (s.ln n).car.mask.shadow.bad
  | .policy n => bit (s.ln n).car.policyShadow 3 || bits (s.ln n).car.policyShadow 7 9 != 0
  | .sense n => (s.ln n).sense.set.shadow.bad
  | .commut n => (s.ln n).com.set.shadow.bad
  | .gate n =>
    let g := (s.ln n).gate.set.shadow
    g.retryWait == 0 || g.reserved || s.pinForbidden n g
  | .track n => (s.tk n).shadow.bad
  | .heat n => (s.ln n).heat.shadow.bad

/-- The set changes what only a stopped lane may change (R353, R406, R492). -/
def Lane.frozen (l : Lane) : BattenId → Bool
  | .policy _ => bits l.car.policyShadow 4 3 != bits l.car.policy 4 3
  | .sense _ => l.sense.set.shadow.gain != l.sense.set.live.gain
  | .gate _ => l.gate.set.shadow.pin != l.gate.set.live.pin
  | _ => false

/-- The lane of a batten. -/
def BattenId.lane : BattenId → Option LaneIx
  | .carrier n | .mask n | .policy n | .sense n | .commut n | .gate n | .heat n => some n
  | .track _ => none

/-- A running lane's new carrier frequency keeps the pitch's line-power sum within its frontage (R54). -/
def State.carrierFits (s : State) (p : Pitch) (n : LaneIx) : Bool :=
  let l := s.ln n
  decide (s.lineSum p - l.term + laneTerm l.ops.qgLive l.car.set.shadow.freqPeriod ≤ (s.pit.front.line[p] : Rat))

/-- The checks of a commit (R353), none where it passes. -/
def State.commitCheck (s : State) (p : Pitch) (d : Desc) (b : BattenId) : Option Byte :=
  if !s.ownsBatten p b then some stNoObject
  else if bits d.w3 4 8 ≠ 0 ∨ !restZero d 1 ∨ s.battenBad b then some stInconsistent
  else
    match b.lane with
    | some n =>
      if !(s.ln n).running then none
      else if (s.ln n).frozen b then some stNotStopped
      else
        match b with
        | .carrier n => if s.carrierFits p n then none else some stFrontage
        | _ => none
    | none => none

/-- The committed set is armed, or takes force at once where the batten's application point is the present boundary. -/
def State.armBatten (s : State) (b : BattenId) : State :=
  match b with
  | .carrier n =>
    let s := s.modLn n fun l => { l with car.set := { l.car.set with armed := some l.car.set.shadow } }
    if (s.ln n).running then s else s.takeCarrier n
  | .mask n =>
    let s := s.modLn n fun l => { l with car.mask := { l.car.mask with armed := some l.car.mask.shadow } }
    if (s.ln n).running then s else s.takeMask n
  | .policy n =>
    let s := (s.modLn n fun l => { l with car.policy := l.car.policyShadow }).traceLane n 6 3 0
    s.drive n s.now
  | .sense n =>
    let s := s.modLn n fun l => { l with sense.set := { l.sense.set with armed := some l.sense.set.shadow } }
    if (s.ln n).running then s else (s.takeSense n).pinNewTrip n s.now
  | .commut n =>
    let s := s.modLn n fun l => { l with com.set := { l.com.set with armed := some l.com.set.shadow } }
    if (s.ln n).running then s else s.takeCommut n
  | .gate n =>
    let s := s.modLn n fun l => { l with gate.set := { l.gate.set with armed := some l.gate.set.shadow } }
    if (s.ln n).running then s else s.takeGate n s.now
  | .track n => s.modTk n fun x => { x with live := x.shadow }
  | .heat n => (s.modLn n fun l => { l with heat := { l.heat with live := l.heat.shadow } }).traceLane n 6 (1 + n.val) 0

/-- COMMIT_BATTEN: on a LANE page ownership comes first; a number not defined for its page is inconsistent (R353). -/
def State.commitBatten (s : State) (a : Applied) : Effect :=
  let d := a.cmd.desc
  let p := a.cmd.pitch
  let page := blockPage d
  match battenOf page (bits d.w3 0 4) with
  | some b =>
    match s.commitCheck p d b with
    | some st => s.done st
    | none => (s.armBatten b).done stOk
  | none =>
    match pageLane page with
    | some n => s.done (if s.ownsLane p n then stInconsistent else stNoObject)
    | none => s.done stInconsistent

end Sys2Proof.Machine
end

