-- ==== Sys2Proof/Machine/Assign.lean ====
section
/-! DEFINITION. ASSIGN: changes of owner and of frontage, and what a moved object is left as (chapter 08, R257). -/

namespace Sys2Proof.Machine

/-! ### Moved objects (R254 to R257, R535) -/

/-- An operation of the old owner ends with ST_NO_OBJECT (R402, R428, R484). -/
def State.endForeign (s : State) (a : Applied) : State := s.finish a stNoObject 0 0 0 0

/-- A calibration or a reseat whose measurement is over, its completion still to be posted (R398, R402). -/
def Lane.measured (l : Lane) (a : Applied) : Bool :=
  l.ops.measure.any fun m => m.ended.isSome && (m.kind == .calibrate || m.kind == .reseat) && m.what == a

/-- The operations of lane `n` that a change of owner ends: those in progress, and a calibration up to the boundary of its completion
(R402, R428, R484). -/
def Lane.opsOpen (l : Lane) : List Applied :=
  l.ops.start.toList ++ l.ops.stops.map StopWait.what
    ++ ((l.ops.measure.toList.map Measuring.what).filter fun a => l.measured a || l.ops.measure.any fun m => m.ended.isNone)

/-- An ended calibration's own completion gives way to that of the move (R402). -/
def State.recall (s : State) (l : Lane) : State :=
  { s with q.outcomes := s.q.outcomes.filter fun d => !l.measured d.what }

/-- A lane as a change of owner leaves it: everything at reset values with the fuse defaults of its policy and offset, but for the levels and
times of its gates and pins, how long it has stood still, and what holds every lane (R257). -/
def State.freshLane (s : State) (n : LaneIx) (l : Lane) (bridges : Vector HalfBridge 3) : Lane :=
  let policy := policyDefault s.fuse.cfg101 n
  let fresh : Lane := {}
  { fresh with
    car := { fresh.car with
      policyShadow := policy, policy := policy, bridges := vmap (fun b => { b with tripHold := false }) bridges
      runThrough := s.clk.runThrough && runThroughPolicy policy, watchAt := s.clk.watchAt }
    latch := { fresh.latch with
      safeLine := l.latch.safeLine, forcedAt := l.latch.forcedAt
      safeClock := l.latch.safeClock || (s.clk.runThrough && !runThroughPolicy policy) }
    sense := { fresh.sense with offset := s.factoryOffset n fresh.sense.set.live.gain }
    ops := { fresh.ops with lastBemf := l.ops.lastBemf, stoppedAt := if l.running then s.now else l.ops.stoppedAt } }

/-- Lane `n` moves: a running one is set to its safe levels, its operations end, and it returns to the state of R257. Its NTC keeps its
readings and its substitution, which last until device reset (R550, R551). -/
def State.moveLane (s : State) (n : LaneIx) (new : Option Pitch) : State :=
  let l := s.ln n
  let s := l.opsOpen.foldl State.endForeign (s.recall l)
  let s := if l.ops.lineLoss then s.laneEvent n 0x01 1 0 0 0 else s
  let s := (s.laneState n .stopped).gatesOff n s.now
  let s := s.setLn n (s.freshLane n l (s.ln n).car.bridges)
  let s := s.modSn (ntcIx n) fun x => { x with notEvaluated := new.isNone }
  let s := { s with pit.own.lane := vset s.pit.own.lane n new }
  (s.rederate n).drive n s.now

/-- Tracker `n` moves: its windows close, a burst it started is abandoned, its supply goes off, and a latched PERIOD_HI is gone (R257); what
the sensor brought in the tick of the move is yet to be judged (R534). -/
def State.moveTracker (s : State) (n : TrkIx) (new : Option Pitch) : State :=
  let s := (s.closeWindows n s.now).setDenied n false
  let fresh : Tracker := { waiting := (s.tk n).waiting }
  let s := s.setTk n fresh
  { s with
    pit.own.wheel := vset s.pit.own.wheel n new
    host.periodHi := vset s.host.periodHi n none
    ana.burst := vmap (fun b => if b.any fun x => x.tracker == n then none else b) s.ana.burst }

/-- The armed windows of a tracker that satisfy `f` are disarmed, with a WINDOW_DROPPED event where there is one (R535). -/
def State.dropWindows (f : Window → Bool) (s : State) (n : TrkIx) : State :=
  let hit := winIxs.filter fun w => ((s.tk n).windows[w].armed || (s.tk n).windows[w].isOpen) && f (s.tk n).windows[w]
  let mask := word ((hit.map fun w => 2 ^ w.val).sum)
  if hit = [] then s else (s.disarm n mask).trkEvent n 0x23 mask 0 0 0

/-- WIN_m moves: low, and no window targets it. -/
def State.movePin (s : State) (m : TrkIx) (new : Option Pitch) : State :=
  let s := s.eachTrk (State.dropWindows fun w => w.action == 1 && w.target == m.val)
  { s with pit.own.win := vset s.pit.own.win m new }

/-- A WINDOW_BURST event of input `m` that is not yet posted. -/
def EventOut.burstOf (e : EventOut) (m : AinIx) : Bool :=
  bits e.entry.w0 8 8 == 2 && e.entry.w1 == 0x21 && bits e.entry.w4 4 3 == m.val

/-- AIN_m moves: no window targets it, and its results not yet delivered are discarded. -/
def State.moveAin (s : State) (m : AinIx) (new : Option Pitch) : State :=
  let s := s.eachTrk (State.dropWindows fun w => w.action == 2 && w.target == m.val)
  { s with
    pit.own.ain := vset s.pit.own.ain m new
    ana := { s.ana with
      ain := vset s.ana.ain m 0, burst := vset s.ana.burst m none, burstMissed := vset s.ana.burstMissed m 0 }
    q.events := s.q.events.filter fun e => !e.burstOf m }

/-- A command came through a queue of group `g`. -/
def Cmd.inGroup (c : Cmd) (g : Fin 16) : Bool := decide (c.door ≠ .register) && groupOf c.queue == g

/-- An operation of a discarded group gets no completion. -/
def Applied.discard (g : Fin 16) (a : Applied) : Applied := { a with mute := a.mute || Cmd.inGroup a.cmd g }

/-- The operations of a lane, those of group `g` without a completion. -/
def LaneOps.discard (g : Fin 16) (x : LaneOps) : LaneOps :=
  { x with
    start := x.start.map (Applied.discard g)
    stops := x.stops.map fun w => { w with what := w.what.discard g }
    measure := x.measure.map fun m => { m with what := m.what.discard g } }

/-- Queue group `g` moves, its rings left empty (R257): with FORCE what it held is discarded, and waiting fuse operations are cancelled
(R256). Without FORCE it held nothing at its application (R255); a command accepted since keeps its entry and its tag, and is refused at its
epoch (R304; log entry 39). -/
def State.moveGroup (s : State) (g : Fin 16) (new : Option Pitch) (force : Bool) : State :=
  { s with
    pit.own.group := vset s.pit.own.group g new
    q := { s.q with
      accepted := s.q.accepted.filter fun c => !(force && Cmd.inGroup c g)
      held := s.q.held.filter fun h => !(force && groupOf h.queue == g)
      cq := Vector.ofFn fun q => if groupOf q = g then {} else s.q.cq[q]
      outcomes := s.q.outcomes.filter fun d => !Cmd.inGroup d.what.cmd g }
    fuse := { s.fuse with
      ops := s.fuse.ops.filter fun o => !Cmd.inGroup o.what.cmd g
      run := s.fuse.run.map fun r => { r with op := { r.op with what := r.op.what.discard g } } }
    lane := vmap (fun l => { l with ops := l.ops.discard g }) s.lane }

/-- Tally `i` moves: it is cleared and idle. -/
def State.moveTally (s : State) (i : TallyIx) (new : Option Pitch) : State :=
  { s with
    pit.own.tally := vset s.pit.own.tally i new
    obs.tally := vset s.obs.tally i {} }

/-- Queue group `g` is busy (R255): an accepted command of its queues is not completed, or a completion is not consumed. -/
def State.groupBusy (s : State) (g : Fin 16) : Bool := s.q.held.any fun h => groupOf h.queue == g

/-! ### Checks (R247 to R249, R251 to R253, R258 to R260, R651) -/

/-- CLASS is defined. -/
def assignClass (c : Nat) : Bool := decide ((1 ≤ c ∧ c ≤ 6) ∨ (0x10 ≤ c ∧ c ≤ 0x13))

/-- What CLASS and INDEX name, none where the index is out of range. -/
def assignTo (c i : Nat) : Option AssignTo :=
  match c with
  | 0x01 => if h : i < 6 then some (.lane ⟨i, h⟩) else none
  | 0x02 => if h : i < 4 then some (.wheel ⟨i, h⟩) else none
  | 0x03 => if h : i < 4 then some (.pin ⟨i, h⟩) else none
  | 0x04 => if h : i < 8 then some (.ain ⟨i, h⟩) else none
  | 0x05 => if h : i < 16 then some (.group ⟨i, h⟩) else none
  | 0x06 => if h : i < 64 then some (.tally ⟨i, h⟩) else none
  | 0x10 => if h : i < 8 then some (.tagFront ⟨i, h⟩) else none
  | 0x11 => if h : i < 8 then some (.ringFront ⟨i, h⟩) else none
  | 0x12 => if h : i < 8 then some (.lineFront ⟨i, h⟩) else none
  | 0x13 => if h : i < 8 then some (.heatFront ⟨i, h⟩) else none
  | _ => none

/-- The object exists: a lane is licensed (R248). -/
def State.assignExists (s : State) : AssignTo → Bool
  | .lane n => s.licensed n
  | _ => true

/-- The owner code or frontage value of what an ASSIGN names. -/
def Pitches.assigned (x : Pitches) : AssignTo → Nat
  | .lane n => ownerCode x.own.lane[n]
  | .wheel n => ownerCode x.own.wheel[n]
  | .pin m => ownerCode x.own.win[m]
  | .ain m => ownerCode x.own.ain[m]
  | .group g => ownerCode x.own.group[g]
  | .tally i => ownerCode x.own.tally[i]
  | .tagFront p => x.front.tag[p]
  | .ringFront p => x.front.ring[p]
  | .lineFront p => x.front.line[p]
  | .heatFront p => x.front.heat[p]

/-- The values that check 4 of R651 admits. -/
def AssignTo.range : AssignTo → Nat × Nat
  | .tagFront _ => (32, 512)
  | .ringFront _ => (0, 36)
  | .lineFront _ => (0, 5000)
  | .heatFront _ => (0, 32767)
  | _ => (0, 8)

/-- A frontage, not an object. -/
def AssignTo.isFront : AssignTo → Bool
  | .tagFront _ | .ringFront _ | .lineFront _ | .heatFront _ => true
  | _ => false

/-- The owner that a code names. -/
def ownerOf (v : Nat) : Option Pitch := if h : v < 8 then some ⟨v, h⟩ else none

/-- The tag frontages of the active pitches add up within 512 (R259). -/
def tagsFit (o : Owners) (f : Frontages) : Bool :=
  decide ((pitchIxs.map fun p => if o.active p then f.tag[p] else 0).sum ≤ 512)

/-- The owners and frontages once an ASSIGN has taken force. -/
def Pitches.assign (x : Pitches) (m : Move) : Pitches :=
  let o := x.own
  let f := x.front
  match m.what with
  | .lane n => { x with own := { o with lane := vset o.lane n (ownerOf m.value) } }
  | .wheel n => { x with own := { o with wheel := vset o.wheel n (ownerOf m.value) } }
  | .pin i => { x with own := { o with win := vset o.win i (ownerOf m.value) } }
  | .ain i => { x with own := { o with ain := vset o.ain i (ownerOf m.value) } }
  | .group g => { x with own := { o with group := vset o.group g (ownerOf m.value) } }
  | .tally i => { x with own := { o with tally := vset o.tally i (ownerOf m.value) } }
  | .tagFront p => { x with front := { f with tag := vset f.tag p m.value } }
  | .ringFront p => { x with front := { f with ring := vset f.ring p m.value } }
  | .lineFront p => { x with front := { f with line := vset f.line p m.value } }
  | .heatFront p => { x with front := { f with heat := vset f.heat p m.value } }

/-- The owners and frontages that the ASSIGNs applied so far in this epoch leave (R251). -/
def Pitches.projected (x : Pitches) : Pitches := x.moves.foldl Pitches.assign x

/-- Check 7 of R651: the tag and ring sums after the change. -/
def Pitches.assignFits (x : Pitches) (k : AssignTo) (v : Nat) : Bool :=
  let o := x.own
  let f := x.front
  match k with
  | .group g => tagsFit { o with group := vset o.group g (ownerOf v) } f
  | .tagFront p => tagsFit o { f with tag := vset f.tag p v }
  | .ringFront p => decide ((vset f.ring p v).toList.sum ≤ 36)
  | _ => true

/-- A change takes force. -/
def State.assignDo (s : State) (m : Move) : State :=
  match m.what with
  | .lane n => s.moveLane n (ownerOf m.value)
  | .wheel n => s.moveTracker n (ownerOf m.value)
  | .pin i => s.movePin i (ownerOf m.value)
  | .ain i => s.moveAin i (ownerOf m.value)
  | .group g => s.moveGroup g (ownerOf m.value) m.force
  | .tally i => s.moveTally i (ownerOf m.value)
  | .tagFront _ | .ringFront _ | .lineFront _ | .heatFront _ => { s with pit := s.pit.assign m }

/-- The ASSIGNs of the epoch that ends take force at the boundary after it, in their application order (R250, R251, R254; chapter 08,
*Registers*). -/
def State.takeMoves (s : State) : State := s.pit.moves.foldl State.assignDo { s with pit.moves := [] }

/-- Check 6 of R651, without FORCE; what an earlier ASSIGN of the epoch has moved is stopped and free (R251). -/
def State.assignFree (s : State) (k : AssignTo) : Option Byte :=
  if s.pit.moves.any fun m => m.what == k then none
  else
    match k with
    | .lane n => if (s.ln n).running then some stNotStopped else none
    | .group g => if s.groupBusy g then some stBusy else none
    | _ => none

/-- ASSIGN: the checks of R651, against what the earlier ones of the epoch leave; the change waits for the next boundary (R250 to
R252). -/
def State.assign (s : State) (a : Applied) : Effect :=
  let d := a.cmd.desc
  let x := s.pit.projected
  let v := bits d.w4 0 15
  let force := bit d.w4 15
  if a.cmd.pitch ≠ 0 then s.done stNoObject
  else if !assignClass (bits d.w3 8 8) then s.done stInconsistent
  else
    match assignTo (bits d.w3 8 8) (bits d.w3 0 8) with
    | none => s.done stNoObject
    | some k =>
      let now := word (x.assigned k)
      if !s.assignExists k then s.done stNoObject
      else if v < k.range.1 ∨ k.range.2 < v ∨ (k.isFront ∧ force) ∨ !restZero d 2 ∨ k = .group 0 then s.done stInconsistent now
      else if x.assigned k = v then s.done stOk now
      else
        match if force then none else s.assignFree k with
        | some st => s.done st now
        | none =>
          if x.assignFits k v then
            let m : Move := { what := k, value := v, force := force }
            ({ s with pit.moves := s.pit.moves ++ [m] }).done stOk now
          else s.done stFrontage now

end Sys2Proof.Machine
end

