-- ==== Sys2Proof/Machine/Commands.lean ====
section
/-! DEFINITION. The other descriptor opcodes at their application: wheels, windows, heat, fuses, tallies, consent, lease, bench hold
and REOPEN (chapters 05, 08, 09 and 14 to 17). -/

namespace Sys2Proof.Machine

/-- A meaning that answers a state and a result, as an effect. -/
def atOnce (r : State × Result) : Effect := (r.1, some r.2)

/-- A descriptor whose word 3 [15:14] is set, for the rows that are one operation of their opcode. -/
def Cmd.withOp (c : Cmd) (op : Nat) : Cmd :=
  { c with desc := { c.desc with w3 := word (bits c.desc.w3 0 14 + op * 2 ^ 14) } }

/-! ### Wheels and windows (R505 to R508, R525 to R527) -/

/-- The effect of WHEEL_LOAD_TABLE. -/
def effLoadTable (a : Applied) (s : State) : Effect := atOnce (s.loadTable a.cmd.pitch a.cmd.desc)

/-- The effect of WINDOW_ARM. -/
def effWindowArm (a : Applied) (s : State) : Effect := atOnce (s.armWindow a.cmd.pitch a.cmd.desc)

/-- The effect of WINDOW_DISARM. -/
def effWindowDisarm (a : Applied) (s : State) : Effect := atOnce (s.disarmWindows a.cmd.pitch a.cmd.desc)

/-! ### THERMAL_QUERY (R576, R577) -/

/-- The effect of THERMAL_QUERY, with the values of `snap`: index, reach, then the other argument bits. -/
def effThermalQuery (snap : State) (a : Applied) (s : State) : Effect :=
  let d := a.cmd.desc
  if h : bits d.w3 0 4 < 14 then
    let i : SensorIx := ⟨bits d.w3 0 4, h⟩
    if !s.sensorReach a.cmd.pitch i then s.done stNoObject
    else if bits d.w3 4 12 ≠ 0 ∨ !restZero d 1 then s.done stInconsistent
    else
      let x := snap.sn i
      let m := match snap.heat.median i with
        | some m => sword m
        | none => 0x8000
      s.done stOk x.tempWord (sword (rateShown x.rate)) x.stateWord m
  else s.done stInconsistent

/-! ### Fuse commands (R127 to R141, R148, R649) -/

/-- The effect of FUSE_READ. -/
def effFuseRead (a : Applied) (s : State) : Effect := atOnce (s, s.fuseReadResult a.cmd.pitch a.cmd.desc)

/-- The effect of FUSE_PROGRAM_WORD: a word that passes its checks waits for its window; the spares left join its completion when it is posted
(R661). So does a lock that is set already (R134; log entry 77). -/
def effFuseProgramWord (a : Applied) (s : State) : Effect :=
  let st := s.fuseProgramCheck a.cmd.pitch a.cmd.desc
  if st = stOk then
    (s.fuseQueue a (.word (a.cmd.desc.w3.setWidth 12) (Desc.fuseValue a.cmd.desc)), none)
  else s.done st

/-- The effect of LIFECYCLE_ADVANCE. -/
def effLifecycleAdvance (a : Applied) (s : State) : Effect :=
  match s.advanceCheck a.cmd.pitch a.cmd.desc with
  | (_, some l) => (s.fuseQueue a (.lifeCycle l), none)
  | (st, none) => s.done st

/-- The party salt S_p in words 3 to 6. -/
def partySalt (d : Desc) : BitVec 64 := d.w3 ++ d.w4 ++ d.w5 ++ d.w6

/-- The effect of KEY_ROLL. -/
def effKeyRoll (a : Applied) (s : State) : Effect :=
  let st := s.rollCheck a.cmd.pitch a.cmd.desc
  if st = stOk then (s.fuseQueue a (.keyRoll (partySalt a.cmd.desc)), none) else s.done st

/-! ### TALLY_SNAPSHOT (R616, R617) -/

/-- The tallies that a snapshot names, none where one does not exist. -/
def snapshotTallies (d : Desc) : Option (List TallyIx) :=
  let f := bits d.w3 0 6
  if bit d.w3 8 then (if h : f + 1 < 64 then some [⟨f, by omega⟩, ⟨f + 1, h⟩] else none)
  else if h : f < 64 then some [⟨f, h⟩] else none

/-- A tally as a snapshot reads it: as at the boundary, 0 once an earlier snapshot of the epoch has cleared it. -/
def State.tallyAt (s snap : State) (i : TallyIx) : DWord := if s.obs.cleared.contains i then 0 else snap.obs.tally[i].value

/-- A snapshot clears a tally at the boundary: what was counted since stays, and all that was counted since a write of TALLY_SRC in this
epoch set it to 0 (R613, R617). -/
def State.clearTally (snap s : State) (i : TallyIx) : State :=
  if s.obs.cleared.contains i then s
  else
    let now := s.obs.tally[i].value
    let since := if s.obs.restarted.contains i then now else now - snap.obs.tally[i].value
    { s with obs := { s.obs with
        cleared := i :: s.obs.cleared
        tally := vmod s.obs.tally i fun t => { t with value := since } } }

/-- The effect of TALLY_SNAPSHOT, with the values of `snap`. -/
def effTallySnapshot (snap : State) (a : Applied) (s : State) : Effect :=
  let d := a.cmd.desc
  let p := a.cmd.pitch
  match snapshotTallies d with
  | none => s.done stNoObject
  | some l =>
    if l.any fun i => s.pit.own.tally[i] != some p then s.done stNoObject
    else if bit d.w3 6 || bits d.w3 9 7 != 0 || !restZero d 1 then s.done stInconsistent
    else
      let v := l.map (s.tallyAt snap)
      let (x, y) := (v.getD 0 0, v.getD 1 0)
      let s := if bit d.w3 7 then l.foldl (State.clearTally snap) s else s
      (s.trace 6 p [d.w3, lo16 x, hi16 x, lo16 y, hi16 y]).done stOk (lo16 x) (hi16 x) (lo16 y) (hi16 y)

/-! ### TRACE_CONSENT (R600, R601, R604) -/

/-- The effective mask of pitch `p` once the changes of this epoch are in force. -/
def Observe.effectiveNext (o : Observe) (p : Pitch) : Byte :=
  if p = 0 then o.grantNext[p] else o.grantNext[p] &&& o.countersignNext[p]

/-- The effect of TRACE_CONSENT; a change waits for the next boundary (R603). -/
def effTraceConsent (a : Applied) (s : State) : Effect :=
  let d := a.cmd.desc
  let p := a.cmd.pitch
  let op := bits d.w3 14 2
  let mask : Byte := BitVec.ofNat 8 (bits d.w3 0 8)
  let named : Pitch := ⟨bits d.w3 8 3, by unfold bits; omega⟩
  if op = 2 ∧ p ≠ 0 then s.done stNoObject
  else if op = 3 ∨ bits d.w3 11 3 ≠ 0 ∨ bit d.w3 7 ∨ !restZero d 1 ∨ (op ≠ 2 ∧ bits d.w3 8 3 ≠ 0) ∨ (op = 1 ∧ mask ≠ 0) then
    s.done stInconsistent
  else if op = 2 then
    let s := { s with obs := { s.obs with countersignNext := vset s.obs.countersignNext named mask } }
    s.done stOk (word mask.toNat)
  else
    let s := { s with obs := { s.obs with grantNext := vset s.obs.grantNext p (if op = 0 then mask else 0) } }
    s.done stOk (word (s.obs.effectiveNext p).toNat)

/-! ### Lease and bench hold (R322, R324 to R326) -/

/-- The effect of LEASE_RENEW. -/
def effLeaseRenew (a : Applied) (s : State) : Effect :=
  let c := a.cmd
  if c.door ≠ .host ∨ c.pitch ≠ s.pit.hostPitch then s.done stNoObject
  else if bits c.desc.w3 8 8 ≠ 0 ∨ !restZero c.desc 1 then s.done stInconsistent
  else
    let l : Byte := BitVec.ofNat 8 (bits c.desc.w3 0 8)
    let len := if l = 0 then s.host.leaseLen else l
    ({ s with host := { s.host with leaseLen := len, leaseLeft := len.toNat, leaseOn := true, leaseOut := false } }).done stOk

/-- The effect of BENCH_HOLD (true) or BENCH_RELEASE (false): it takes force at the next boundary. -/
def effBench (on : Bool) (a : Applied) (s : State) : Effect :=
  if a.cmd.pitch ≠ 0 then s.done stNoObject
  else if !restZero a.cmd.desc 0 then s.done stInconsistent
  else ({ s with q := { s.q with holdNext := some on } }).done stOk

/-- The effect of REOPEN (R592, R593). -/
def effReopen (a : Applied) (s : State) : Effect := atOnce (s.reopenCommand a.cmd.pitch a.cmd.desc)

/-! ### Every opcode -/

/-- The effect of an opcode at its application; `snap` is the state at the boundary, before any command of its epoch. -/
def effectOf (snap : State) (o : Opcode) : Applied → State → Effect :=
  match o with
  | .readBlock => fun a s => s.readBlock snap a
  | .writeBatten => fun a s => s.writeBlock a
  | .commitBatten => fun a s => s.commitBatten a
  | .laneStart => effLaneStart
  | .laneStop => effLaneStop
  | .laneSetSpeed => effLaneSetSpeed
  | .laneReverse => effLaneReverse
  | .laneReseat => effLaneReseat
  | .laneCalibrate => effLaneCalibrate
  | .laneOffstateDiag => effLaneOffstateDiag
  | .laneSelftest => effLaneSelftest
  | .laneClearLatch => effLaneClearLatch
  | .wheelLoadTable => effLoadTable
  | .windowArm => effWindowArm
  | .windowDisarm => effWindowDisarm
  | .thermalQuery => effThermalQuery snap
  | .fuseRead => effFuseRead
  | .fuseProgramWord => effFuseProgramWord
  | .lifecycleAdvance => effLifecycleAdvance
  | .sessionOpen => fun _ s => s.done stInconsistent
  | .keyRoll => effKeyRoll
  | .tallySnapshot => effTallySnapshot snap
  | .traceConsent => effTraceConsent
  | .leaseRenew => effLeaseRenew
  | .benchHold => effBench true
  | .benchRelease => effBench false
  | .assign => fun a s => s.assign a
  | .reopen => effReopen

end Sys2Proof.Machine
end

