-- ==== Sys2Proof/Machine/Host.lean ====
section
/-! DEFINITION. The host port: frames, paging, latched reads, the doorbell, the pops and the register paths (chapters 05, 06, 09, 10
and 19). A row of one register stands for the valid frame that writes it, its response included. -/

namespace Sys2Proof.Machine

/-- The port serves frames: at SETTLED and while RST_N is high (R32, R171). -/
def State.hostUp (s : State) : Bool := s.atSettled && !s.host.rstLow

/-- A response frame with its CRC-8 (R290, R291). -/
def respond (err : Bool) (a : Nat) (d : Word) : DWord :=
  let head : BitVec 8 := BitVec.ofNat 8 (bit01 err * 128 + a % 128)
  let b1 : BitVec 8 := (d >>> 8).setWidth 8
  let b0 : BitVec 8 := d.setWidth 8
  head ++ b1 ++ b0 ++ crc8 [head, b1, b0]

/-- The response to the access just made (R291). -/
def State.answer (s : State) (a : Nat) (d : Word) : State := { s with host.response := respond false a d }

/-! ### Reads (R280, R295, R639, R642) -/

/-- Page and address, where the host pitch's own TALLY_LO or a LO register of R642 stands. -/
def isLo (page a : Nat) : Bool :=
  (page == 0x1 && a == 0x24) || (page == 0x0 && a == 0x0A) || (page == 0xE && a == 0x05)
    || (page == 0xC && decide (a < 0x40) && a % 16 == 9) || (page == 0xF && a == 0x02)

/-- A read of a LO register latches its HI partner, and a read of HI uses the latch up (R642; chapter 17, *TALLY_LO*). -/
def State.readLatch (s : State) (page a : Nat) : State :=
  let p := s.pit.hostPitch
  match page, a with
  | 0x1, 0x24 => { s with host.epochHi := some (hi16 s.bell.epoch) }
  | 0x1, 0x25 => { s with host.epochHi := none }
  | 0x0, 0x0A => { s with host.closeEpochHi := some (hi16 s.dev.closeEpoch) }
  | 0x0, 0x0B => { s with host.closeEpochHi := none }
  | 0xE, 0x05 => { s with host.rdataHi := some (hi16 s.fuse.rdata) }
  | 0xE, 0x06 => { s with host.rdataHi := none }
  | 0xF, 0x02 => s.setSel p fun x => { x with tallyHi := hi16 s.obs.tally[x.tally].value }
  | 0xC, _ =>
    if h : a < 0x40 then
      let n : TrkIx := ⟨a / 16, by omega⟩
      if a % 16 = 9 then
        { s with host.periodHi := vset s.host.periodHi n (some (word ((s.tk n).period.toNat / 65536))) }
      else if a % 16 = 10 then { s with host.periodHi := vset s.host.periodHi n none }
      else s
    else s
  | _, _ => s

/-- The value a latch holds for a HI register. -/
def State.latched (s : State) (page a : Nat) : Option Word :=
  match page, a with
  | 0x1, 0x25 => s.host.epochHi
  | 0x0, 0x0B => s.host.closeEpochHi
  | 0xE, 0x06 => s.host.rdataHi
  | 0xC, _ => if h : a < 0x40 ∧ a % 16 = 10 then s.host.periodHi[a / 16]'(by omega) else none
  | _, _ => none

/-- A host read of an address of the selected page, with what it returns. -/
def State.hostRead (s : State) (a : Nat) : State × Word :=
  let page := s.host.pageSel.toNat
  let p := s.pit.hostPitch
  if a = 0x7F then (s, word page)
  else
    match s.readReg true p s.q.sel[p] page a with
    | none => (s.noObject, 0)
    | some v => (s.readLatch page a, (s.latched page a).getD v)

/-! ### Register paths (R160, R162, R298, R299, R315, R358, R360, R657) -/

/-- A DOORBELL write: the staged descriptor goes to a queue; the verdict is recorded and answered. -/
def State.doorbell (s : State) (d : Word) : State × Word :=
  let x := s.host.desc
  let desc : Desc := ⟨x[0], x[1], x[2], x[3], x[4], x[5], x[6], x[7]⟩
  let (s, v) := s.submit s.pit.hostPitch .host ⟨bits d 0 6, by unfold bits; omega⟩ desc
  ({ s with host := { s.host with
      subResult := v.status
      subEpoch := if v.status = stOk then lo16 v.epoch else s.host.subEpoch } }, word v.status.toNat)

/-- A CQ_POP write of 1 for the queue in QSEL, if it is the host pitch's. -/
def State.cqPop (s : State) (d : Word) : State :=
  let p := s.pit.hostPitch
  let q := s.q.sel[p].queue
  if s.ownsQueue p q then
    if bit d 0 then { s with q.cq := vmod s.q.cq q Ring.pop } else s
  else s.noObject

/-- An EVQ_POP write of 1. -/
def State.evqPop (s : State) (d : Word) : State :=
  if bit d 0 then { s with q.evq := vmod s.q.evq s.pit.hostPitch EventFifo.pop } else s

/-- The descriptor a FUSE_CMD write submits. -/
def State.fuseDesc (s : State) (o : Opcode) : Desc :=
  let program := decide (o = .fuseProgramWord)
  { w0 := o.code ++ (0 : Byte), w1 := 0, w2 := 0xFFFF, w3 := s.fuse.fuseAddr.setWidth 16
    w4 := if program then s.fuse.dataLo else 0, w5 := if program then s.fuse.dataHi else 0, w6 := 0, w7 := 0 }

/-- The operation a FUSE_CMD write names under its guard, if any. -/
def fuseCmdOp (d : Word) : Option Opcode :=
  if bits d 8 8 = 0xA6 then
    match bits d 0 2 with
    | 1 => some .fuseRead
    | 2 => some .fuseProgramWord
    | _ => none
  else none

/-- A FUSE_CMD write; ignored while an operation of the host pitch is BUSY (R160, R282). -/
def State.fuseCmd (s : State) (d : Word) : State :=
  match if s.fuse.busy[s.pit.hostPitch] then none else fuseCmdOp d with
  | none => s
  | some o =>
    let (s, st) := s.submitRegister (s.fuseDesc o)
    if st = stOk then { s with fuse.busy := vset s.fuse.busy s.pit.hostPitch true }
    else { s with fuse := { s.fuse with result := st, done := true, fresh := s.fuse.fresh.set s.now 2 } }

/-- A BATTEN_COMMIT write of lane `n`, if it is the host pitch's. -/
def State.battenCommit (s : State) (n : LaneIx) (d : Word) : State :=
  if !s.ownsLane s.pit.hostPitch n then s.noObject
  else if (s.ln n).car.battenBusy || bits d 0 2 == 0 then s
  else
    let desc : Desc :=
      { w0 := Opcode.commitBatten.code ++ (0 : Byte), w1 := 0, w2 := 0xFFFF
        w3 := word ((5 + n.val) * 4096 + bits d 0 2), w4 := 0, w5 := 0, w6 := 0, w7 := 0 }
    let (s, st) := s.submitRegister desc
    if st = stOk then s.modLn n fun l => { l with car.battenBusy := true }
    else s.modLn n fun l => { l with car := { l.car with battenResult := st, battenDone := true, fresh := l.car.fresh.set s.now 2 } }

/-! ### Writes (R280, R295, R296, R639, R643) -/

/-- A host write to a register without behaviour of its own. -/
def State.plainWrite (s : State) (page a : Nat) (d : Word) : State :=
  let p := s.pit.hostPitch
  let x := s.q.sel[p]
  match s.readReg true p x page a with
  | none => s.noObject
  | some _ => s.writeReg true p x page a d

/-- A host write to an address of a page, with the DATA of its response (R291). -/
def State.hostWrite (s : State) (page a : Nat) (d : Word) : State × Word :=
  if a = 0x7F then ({ s with host.pageSel := d.setWidth 4 }, 0)
  else if page = 4 ∧ a = 0x20 then s.doorbell d
  else if page = 4 ∧ a = 0x10 then (s.cqPop d, 0)
  else if page = 4 ∧ a = 0x38 then (s.evqPop d, 0)
  else if page = 14 ∧ a = 0x03 then (s.fuseCmd d, 0)
  else if h : 5 ≤ page ∧ page < 11 ∧ a = 0x09 then (s.battenCommit ⟨page - 5, by omega⟩ d, 0)
  else (s.plainWrite page a d, 0)

/-! ### Accesses (R288, R291, R292, R640) -/

/-- The response to the frame before goes out, and the access acts; a frame acts if its CRC holds (R291, R292). -/
def State.serveFrame (s : State) (x : HostAccess) : State :=
  let s := { s with host.sdo := some s.host.response }
  match x with
  | .frame bits =>
    let b (k : Nat) : Byte := (bits >>> k).setWidth 8
    let a := (b 24).toNat % 128
    if crc8 [b 24, b 16, b 8] ≠ b 0 then
      { s with host := { s.host with crcErr := true, response := respond true a 0 } }
    else
      let r := if bits.msb then s.hostWrite s.host.pageSel.toNat a (b 16 ++ b 8) else s.hostRead a
      r.1.answer a r.2
  | .write a d =>
    let r := s.hostWrite s.host.pageSel.toNat a.toNat d
    r.1.answer a.toNat r.2
  | .read a =>
    let r := s.hostRead a.toNat
    r.1.answer a.toNat r.2
  | .register page a d =>
    let r := s.hostWrite page.toNat a.toNat d
    r.1.answer a.toNat r.2
  | .ofP0 _ _ _ | .abort => s

/-- An access acts: one of the host port, a write of P0 through either door, which answers nothing, or an aborted frame, whose response
carries FRAME_ERR with no address and no data (R289; log entry 65). -/
def State.serve (s : State) (x : HostAccess) : State :=
  match x with
  | .ofP0 page a d => s.writeReg false 0 s.q.sel[(0 : Pitch)] page.toNat a.toNat d
  | .read a => if isLo s.host.pageSel.toNat a.toNat then s.serveFrame x else s
  | .abort => { s with host := { s.host with frameErr := true, response := respond true 0 0 } }
  | _ => s.serveFrame x

/-- The accesses that waited for a boundary act. -/
def State.serveWaiting (s : State) : State := s.host.waiting.foldl State.serve { s with host.waiting := [] }

/-- What waited for the commands of a boundary acts, once they are all applied: first the trackers (R534), then the host accesses
(R640). -/
def State.serveDue (s : State) : State := if s.commandsWait then s else (s.eachTrk State.wheelServe).serveWaiting

/-- The instants lie in one CD17 cycle. -/
def sameCycle (t u : Ticks) : Bool := t / 2 == u / 2

/-- An access at `t`: one in the CD17 cycle of a bell boundary waits for the commands of that boundary (R640). -/
def State.accessAt (s : State) (t : Ticks) (x : HostAccess) : State :=
  if s.boundaryOpen (sameCycle t) then { s with host.waiting := s.host.waiting ++ [x] }
  else ((s.serveWaiting).lanesTick t).serve x

/-- An access of the host port whose frame ends at `t`. -/
def State.access (s : State) (t : Ticks) (x : HostAccess) : Host.Outcome State Fault Refusal :=
  if s.hostUp then .next (s.accessAt t x) else .next s

/-- A register write by P0 at `t`, through either door. -/
def State.p0Write (s : State) (t : Ticks) (page : BitVec 4) (a : BitVec 7) (d : Word) : Host.Outcome State Fault Refusal :=
  if s.atSettled then .next (s.accessAt t (.ofP0 page a d)) else .next s

/-! ### Rows -/

/-- HOST_FRAME (R288, R291, R292). -/
def execHostFrame (t : Ticks) (bits : DWord) (s : State) : Host.Outcome State Fault Refusal := s.access t (.frame bits)

/-- FRAME_ABORT (R289); frames that wait for a boundary come first. -/
def execFrameAbort (s : State) : Host.Outcome State Fault Refusal :=
  if !s.hostUp then .next s
  else if s.host.waiting = [] then .next (s.serve .abort)
  else .next { s with host.waiting := s.host.waiting ++ [.abort] }

/-- REGISTER_WRITE (R643): a write to the selected page. -/
def execRegisterWrite (t : Ticks) (addr : BitVec 7) (data : Word) (s : State) : Host.Outcome State Fault Refusal :=
  s.access t (.write addr data)

/-- LO_LATCH_READ (R642): a host read of a LO register of the selected page. -/
def execLoLatchRead (t : Ticks) (addr : BitVec 7) (s : State) : Host.Outcome State Fault Refusal :=
  s.access t (.read addr)

/-- PAGE_SEL (R295). -/
def execPageSel (t : Ticks) (data : Word) (s : State) : Host.Outcome State Fault Refusal := s.access t (.write 0x7F data)

/-- DOORBELL (R298, R299). -/
def execDoorbell (t : Ticks) (data : Word) (s : State) : Host.Outcome State Fault Refusal := s.access t (.register 4 0x20 data)

/-- CQ_POP (R315). -/
def execCqPop (t : Ticks) (data : Word) (s : State) : Host.Outcome State Fault Refusal := s.access t (.register 4 0x10 data)

/-- EVQ_POP (R315). -/
def execEvqPop (t : Ticks) (data : Word) (s : State) : Host.Outcome State Fault Refusal := s.access t (.register 4 0x38 data)

/-- The data of a FUSE_CMD row: a write that does not name the row's operation does nothing. -/
def fuseRowData (o : Opcode) (data : Word) : Word := if fuseCmdOp data = some o then data else 0

/-- FUSE_CMD_PROGRAM (R162). -/
def execFuseCmdProgram (t : Ticks) (data : Word) (s : State) : Host.Outcome State Fault Refusal :=
  s.access t (.register 14 0x03 (fuseRowData .fuseProgramWord data))

/-- FUSE_CMD_READ (R162). -/
def execFuseCmdRead (t : Ticks) (data : Word) (s : State) : Host.Outcome State Fault Refusal :=
  s.access t (.register 14 0x03 (fuseRowData .fuseRead data))

/-- BATTEN_COMMIT (R358, R360). -/
def execBattenCommit (n : LaneIx) (t : Ticks) (data : Word) (s : State) : Host.Outcome State Fault Refusal :=
  s.access t (.register (5 + BitVec.ofNat 4 n.val) 0x09 data)

/-- FLASH_CTRL_WRITE (R77, R78). -/
def execFlashCtrlWrite (t : Ticks) (data : Word) (s : State) : Host.Outcome State Fault Refusal := s.access t (.register 1 0x0A data)

/-- TALLY_SRC_WRITE (R613): the tally that the host pitch's TALLY_SEL names, if it is its own. -/
def execTallySrcWrite (t : Ticks) (data : Word) (s : State) : Host.Outcome State Fault Refusal := s.access t (.register 15 0x01 data)

/-- CLK_CTRL_WRITE (R83, R87): P0's write, through either door. -/
def execClkCtrlWrite (t : Ticks) (data : Word) (s : State) : Host.Outcome State Fault Refusal := s.p0Write t 1 0x22 data

/-- HOST_PITCH_WRITE (R262, R263): P0's write, through either door. -/
def execHostPitchWrite (t : Ticks) (data : Word) (s : State) : Host.Outcome State Fault Refusal := s.p0Write t 3 0 data

/-- THERMAL_LIMIT_WRITE (R559): P0's write, through either door. -/
def execThermalLimitWrite (t : Ticks) (addr : BitVec 7) (data : Word) (s : State) : Host.Outcome State Fault Refusal :=
  if 0x30 ≤ addr ∧ addr ≤ 0x33 then s.p0Write t 13 addr data else .next s

/-- The access is the host port's own. -/
def HostAccess.ofPort : HostAccess → Bool
  | .ofP0 _ _ _ => false
  | _ => true

/-- RST_N_ASSERT (R32, R296): the port is detached, SDO at Z, and frames that waited for a boundary act no more. -/
def execRstNAssert (s : State) : Host.Outcome State Fault Refusal :=
  .next { s with host := { s.host with
    rstLow := true, pageSel := 0, sdo := none, waiting := s.host.waiting.filter fun x => !x.ofPort } }

/-- HOST_LOSS (R185): the policy acts at the next boundary. -/
def execHostLoss (s : State) : Host.Outcome State Fault Refusal :=
  if s.host.rstLow && s.atSettled then .next { s with host.hostLoss := true } else .next s

/-- RST_N_RELEASE (R191, R293). -/
def execRstNRelease (s : State) : Host.Outcome State Fault Refusal :=
  if s.host.rstLow then .next { s with host := { s.host with rstLow := false, response := 0x00000069 } } else .next s

end Sys2Proof.Machine
end

