-- ==== Sys2Proof/Machine/Observe.lean ====
section
/-! DEFINITION. The trace port: consent changes taking force, the packets of a boundary, and the service of the queues (chapter 17). -/

namespace Sys2Proof.Machine

/-- The masks in force let a packet out: one of classes 1 to 7 where its pitch consents to the class, a LOST packet where its pitch consents
to any, BELL and CONSENT packets while anyone consents (R602, R606, R607). -/
def Observe.admits (o : Observe) (k : Packet) : Bool :=
  let of (f : Pitch → Bool) : Bool := pitchIxs.any fun p => k.pitch == p.val && f p
  if k.cls = 9 then of fun p => decide (o.effective p ≠ 0)
  else if k.cls ≤ 7 then of fun p => bit (o.effective p) (k.cls - 1)
  else o.active

/-- The consent masks of `o` once the changes of the last epoch are in force; packets of classes that a pitch no longer consents to,
and LOST packets of a pitch without consent, are not emitted, the one being sent included (R603, R606). -/
def Observe.takeConsent (o : Observe) : Observe :=
  let n : Observe := { o with grant := o.grantNext, countersign := o.countersignNext }
  { n with
    sent := n.sent.filter n.admits
    queue := vmap (List.filter n.admits) n.queue
    devQueue := n.devQueue.filter fun k => k.cls != 9 || n.admits k }

/-- Consent changes take force at a boundary, with a CONSENT packet for each pitch whose effective mask changed (R603, R606). -/
def State.takeConsents (s : State) : State :=
  let old := s.obs
  let s := { s with obs := s.obs.takeConsent }
  s.eachPitch fun s p =>
    if s.obs.effective p ≠ old.effective p then s.traceDev 10 (some p) [word (s.obs.effective p).toNat] else s

/-- The BELL packet of a boundary (R607). -/
def State.traceBell (s : State) (code : Nat) : State :=
  if s.obs.active then
    s.traceDev 8 none
      [hi16 s.bell.epoch,
       word (code % 8 + bit01 s.dev.closed * 16 + bit01 s.bell.flywheel * 32 + bit01 s.bell.island * 64),
       word s.ring.ringAddr.toNat]
  else s

/-- The LOST packets of a boundary: one for each consenting pitch that lost packets since its last, once it fits (R606, R611). -/
def State.traceLost (s : State) : State :=
  s.eachPitch fun s p =>
    if s.obs.lostSince[p] ≠ 0 ∧ s.obs.effective p ≠ 0 ∧ queueWords s.obs.devQueue + 4 ≤ 16 then
      { (s.traceDev 9 (some p) [s.obs.lostSince[p]]) with obs.lostSince := vset s.obs.lostSince p 0 }
    else s

/-- The pitches in rotation from `p` on. -/
def rotation (p : Pitch) : List Pitch := pitchIxs.map fun k => p + k

/-- The port sends the next packet: the device queue's first, else the first of the next pitch queue in rotation (R611); with none it is
between packets. -/
def Observe.send (o : Observe) : Observe :=
  match o.devQueue with
  | k :: r => { o with devQueue := r, sent := some k }
  | [] =>
    match (rotation o.turn).find? fun p => !o.queue[p].isEmpty with
    | some p => { o with queue := vmod o.queue p List.tail, sent := o.queue[p].head?, turn := p + 1 }
    | none => { o with sent := none }

/-- The levels of the trace pins after one edge of TRC_CLK. -/
structure TracePins where
  clk : Bool := false
  sync : Bool := false
  d1 : Bool := false
  d0 : Bool := false
  deriving DecidableEq, Repr

/-- TRC_CLK after its `k`-th edge: the edges rise and fall in turn, and the first one of a packet rises (R608). -/
def traceClk (k : Nat) : Bool := decide (k % 2 = 0)

/-- TRC_SYNC and the data at the `k`-th edge of TRC_CLK since the packet being sent began: eight edges carry a word, its most significant pair
first, TRC_D_1 the higher bit, and TRC_SYNC is high over the header word; all are low after the last word and between packets (R608,
R609). -/
def Packet.pins (p : Packet) (k : Nat) : TracePins :=
  match p.words[k / 8]? with
  | some w => { sync := decide (k < 8), d1 := bit w (15 - 2 * (k % 8)), d0 := bit w (14 - 2 * (k % 8)) }
  | none => {}

/-- TRC_CLK runs: some effective mask is nonzero (R608) and the root has not failed (R612). -/
def State.traceRuns (s : State) : Bool := s.clk.rootOk && s.obs.active

/-- The trace pins after the `k`-th edge of TRC_CLK since the packet being sent began, or since any rising edge between packets (R36, R608,
R609, R612): TRC_CLK runs or all are low; the others are low unless a packet is being sent. -/
def State.tracePins (s : State) (k : Nat) : TracePins :=
  if s.traceRuns then { s.obs.sent.elim {} fun p => p.pins k with clk := traceClk k } else {}

/-- TRACE_PACKET_SEND: while some effective mask is nonzero and the root holds (R608, R611, R612). -/
def execTracePacketSend (t : Ticks) (s : State) : Host.Outcome State Fault Refusal :=
  let s := s.lanesTick t
  if s.traceRuns then .next { s with obs := s.obs.send } else .next s

end Sys2Proof.Machine
end

