-- ==== Sys2Proof/Machine/Sense.lean ====
section
/-! DEFINITION. Current sense, comparators, fault pins, converter slots, calibration and the bulk rails: the rows
CURRENT_CAPTURE to BULK_WINDOW_CHANGE and FAULT_PIN_RELEASE (chapter 11). -/

namespace Sys2Proof.Machine

/-! ### Trips and latches by route (R384 to R387, R462) -/

/-- Source `i` of ROUTE acts on lane `n` at `t` (R384, R386); a trip in PIN mode holds the high sides off (R462). -/
def State.sourceActs (s : State) (n : LaneIx) (i : Fin 5) (t : Ticks) : State :=
  let l := s.ln n
  if l.sense.set.live.routeOf i.val = 2 then s.setLatch n (sourceCode i.val) t
  else if l.trips i.val then
    if l.pin then (s.countTrip n i.val).pinTripHold n t else s.tripBy n i t
  else s

/-- A comparator's output as it stands (R383): PEAK, OC or UC asserts or does not. -/
def LaneSense.shows (cmp : Comparator) (b : Bool) (x : LaneSense) : LaneSense :=
  match cmp with
  | .peak => { x with peak := b }
  | .oc => { x with oc := b }
  | .uc => { x with uc := b }

/-- An assertion of OC or UC counts. -/
def LaneSense.countAssert (cmp : Comparator) (x : LaneSense) : LaneSense :=
  match cmp with
  | .peak => x
  | .oc => { x with ocCount := satInc x.ocCount }
  | .uc => { x with ucCount := satInc x.ucCount }

/-- COMPARATOR_ASSERT: the amplifier output reaches `out`, in DAC steps, at `t`. Outside the blanking of R381 and the self-test the
comparator follows it (R379, R380, R383); a new assertion counts and acts by its route (R384). -/
def execComparatorAssert (n : LaneIx) (cmp : Comparator) (t : Ticks) (out : BitVec 10) (s : State) :
    Host.Outcome State Fault Refusal :=
  let s := s.laneTick n t
  if s.hears n t then
    let new := s.newlyBeyond n cmp t out
    let r := s.modLn n fun l => { l with sense := l.sense.shows cmp (l.beyond cmp t out) }
    if new then .next ((r.modLn n fun l => { l with sense := l.sense.countAssert cmp }).sourceActs n (sourceOf cmp) t)
    else .next r
  else .next s

/-- A fault pin acts in lane `n` by its route (R386). -/
def State.pinActs (i : Fin 5) (t : Ticks) (s : State) (n : LaneIx) : State :=
  if s.licensed n then (s.laneTick n t).sourceActs n i t else s

/-- FAULT_PIN_ASSERT: the pin has been low for 100 ns and acts in each lane by its route (R386). -/
def execFaultPinAssert (pin : FaultPin) (t : Ticks) (s : State) : Host.Outcome State Fault Refusal :=
  let s := s.tick t
  if s.atSettled then
    match pin with
    | .flt0 => .next (({ s with ana.flt0 := true }).eachLane (State.pinActs 3 t))
    | .flt1 => .next (({ s with ana.flt1 := true }).eachLane (State.pinActs 4 t))
  else .next s

/-- FAULT_PIN_RELEASE: the pin is high again and no longer asserts (R366). -/
def execFaultPinRelease (pin : FaultPin) (s : State) : Host.Outcome State Fault Refusal :=
  match pin with
  | .flt0 => .next { s with ana.flt0 := false }
  | .flt1 => .next { s with ana.flt1 := false }

/-! ### Samples and conversions (R377, R392 to R396) -/

/-- A capture that was to come I_AT ticks after `u` comes at `t` (R393): then, or at the end of the on-phase if that comes first and the
period had begun by `u`. -/
def Lane.capturesFor (l : Lane) (t u : Ticks) : Bool :=
  let x := l.car
  let due := x.edges.at (u + l.sense.set.live.iAt.toNat)
  if x.onPhase ∨ x.phaseEnd ≤ u then decide (t = due)
  else decide (t = x.phaseEnd ∧ t ≤ due ∧ x.periodStart ≤ u)

/-- The sample-and-hold captures at `t` (R393): for each high-side turn-on, the high side still being on or the on-phase ending; at 100 % for
the boundary, at 0 % never. -/
def Lane.captureDue (l : Lane) (t : Ticks) : Bool :=
  let x := l.car
  let c := x.set.live
  if x.onTicks = 0 then false
  else if c.mode = 0 ∧ c.period.toNat ≤ c.edgeOn then l.capturesFor t x.periodStart
  else phaseIxs.any fun k => (x.bridges[k].since .high).any (l.capturesFor t)

/-- CURRENT_CAPTURE: the sample-and-hold captures (R393); the capture is measurable after MEAS_MIN of on-phase (chapter 13,
*Open windings while running*). -/
def execCurrentCapture (n : LaneIx) (t : Ticks) (s : State) : Host.Outcome State Fault Refusal :=
  let s := s.laneTick n t
  let l := s.ln n
  if l.running ∧ !l.pin ∧ l.captureDue t then
    let m := decide (l.car.onSince + Config.measMin ≤ t)
    .next (s.modLn n fun l =>
      { l with
        sense.captured := true
        sense.measurable := m
        gate.lateRow := none
        gate.periodSeen := l.gate.periodSeen || m
        gate.rowMeasured := l.gate.rowMeasured || m })
  else .next s

/-- I_NET of a code (R377). -/
def State.netOf (s : State) (n : LaneIx) (raw : BitVec 12) : Int :=
  let w : DWord := s.fuse.trims[(⟨2 + n.val, by omega⟩ : Fin 16)]
  let gt : Int := bits w 10 10
  roundHalfAway (((raw.toNat : Int) - 512 - (s.ln n).sense.offset) * (16384 + gt - 512)) 16384

/-- What a lane conversion leaves (R377, R394, R571). -/
def Lane.converted (raw : BitVec 12) (net : Int) (l : Lane) : Lane :=
  { l with
    sense := { l.sense with iRaw := raw, iNet := net, captured := false, measurable := false }
    heat := { l.heat with sumSq := l.heat.sumSq + (net * net).toNat, count := l.heat.count + 1 } }

/-- A lane conversion (R377, R394, R571); a measurable capture at or above OPEN_LEVEL shows current in the row it was taken in, which
may have ended since (R485). -/
def State.convertLane (s : State) (n : LaneIx) (raw : BitVec 12) : State :=
  let net := s.netOf n raw
  let l := s.ln n
  let shows := !l.pin && l.sense.measurable && decide (net ≥ (l.gate.set.live.level : Int))
  let s := s.modLn n (Lane.converted raw net)
  match l.gate.lateRow with
  | some row => (s.judgeRow n row true shows).modLn n fun l => { l with gate.lateRow := none }
  | none => s.modLn n fun l => { l with gate.rowCurrent := l.gate.rowCurrent || shows }

/-- An analogue input's conversion (R409), with the burst in progress on it (R536, R538). -/
def State.convertAin (s : State) (m : AinIx) (code : BitVec 12) : State :=
  let s := { s with ana.ain := vset s.ana.ain m code }
  match s.ana.burst[m] with
  | none => s
  | some b =>
    let c := code.toNat
    let b := { b with left := b.left - 1, sum := b.sum + c, least := min b.least c, most := max b.most c }
    if b.left = 0 then
      let s := { s with ana.burst := vset s.ana.burst m none }
      (s.count 0x20 m.val).eventFor b.pitch 0x02 b.tracker.val 0x21
        (word (b.window.val + m.val * 2 ^ 4 + (b.size - 1) * 2 ^ 8)) b.angle
        (word (roundHalfAway b.sum b.size).toNat) (word (b.most - b.least))
    else { s with ana.burst := vset s.ana.burst m (some b) }

/-! ### NTC temperatures (R543) -/

/-- ln(num / den) times 2^64, rounded toward zero in its terms: the argument is scaled by a power of two into 1 to 2, then
2 atanh((m - 1) / (m + 1)) is summed to the 27th odd power. -/
def lnScaled (num den : Nat) : Int :=
  let e : Int := (Nat.log2 num : Int) - Nat.log2 den
  let a := if e ≥ 0 then num else num * 2 ^ e.natAbs
  let b := if e ≥ 0 then den * 2 ^ e.natAbs else den
  let z : Int := (((a : Int) - b) * 2 ^ 64) / ((a : Int) + b)
  let term (k : Nat) : Int := (z ^ (2 * k + 1) / 2 ^ (64 * (2 * k))) / (2 * k + 1)
  let at2 : Int := ((List.range 28).map term).sum
  2 * at2 + e * 12786308645202655660

/-- The temperature of an NTC code in 1/16 K above 0 degrees C, rounded half away from zero (R543, log entry 27). -/
def ntcTemp (cfg : Word) (code : BitVec 12) : Int :=
  let b : Nat := bits cfg 8 8 * 20
  let r25 := bits cfg 0 8
  let c := code.toNat
  if c = 0 then -4370
  else if r25 = 0 then Config.ntcBeyond code cfg
  else
    let ln := lnScaled (10 * c) ((4096 - c) * r25)
    let den : Int := (b : Int) * 100 * 2 ^ 64 + 29815 * ln
    let t : Int := roundHalfAway (16 * 29815 * (b : Int) * 2 ^ 64 * 20 - 16 * 5463 * den) (20 * den.natAbs)
    if den ≤ 0 ∨ t > 32767 then Config.ntcBeyond code cfg else t

/-- An NTC's conversion: held while its ADC is bad (R543, R546). -/
def State.convertNtc (s : State) (n : LaneIx) (adc : Fin 2) (code : BitVec 12) : State :=
  if s.ana.adcBad[adc] then s
  else
    let t := ntcTemp (s.ln n).heat.live.ntcCfg code
    s.modSn (ntcIx n) fun x =>
      { x with sum := x.sum + t, count := x.count + 1, sawOpen := decide (4000 < code.toNat),
               sawShort := decide (code.toNat < 40) }

/-! ### The ADC's own check (R396) -/

/-- The VREF or AGND check reading of an ADC lies more than 16 codes off. -/
def checkOff (vref : Bool) (code : BitVec 12) : Bool := if vref then code.toNat < 4095 - 16 else 16 < code.toNat

/-- The NTCs of an ADC become stale or not (R546); a thermal stop holds the gates of a PIN-mode lane off (R569). -/
def State.ntcStale (s : State) (adc : Fin 2) (b : Bool) : State :=
  s.eachLane fun s n =>
    if n.val / 3 = adc.val then (s.modSn (ntcIx n) fun x => { x with stale := b }).drivePins n s.now else s

/-- The second check reading of a frame pair judges the pair (R396). -/
def State.judgePair (s : State) (adc : Fin 2) (fail : Bool) : State :=
  let a := s.ana
  let f := if fail then min 4 (a.failRun[adc] + 1) else 0
  let p := if fail then 0 else min 4 (a.passRun[adc] + 1)
  let bad := if 4 ≤ f then true else if 4 ≤ p then false else a.adcBad[adc]
  let s := { s with ana := { a with
    failRun := vset a.failRun adc f
    passRun := vset a.passRun adc p
    pairFail := vset a.pairFail adc false
    adcBad := vset a.adcBad adc bad } }
  if bad = a.adcBad[adc] then s else s.ntcStale adc bad

/-- A reading of a rotating slot, channel `k` (R392). -/
def State.convertRotating (s : State) (adc : Fin 2) (k : Nat) (code : BitVec 12) : State :=
  let first := adc = 0
  if h : k < 3 then s.convertNtc ⟨3 * adc.val + k, by omega⟩ adc code
  else
    match k with
    | 3 => if first then { s with ana.vba := Config.supplyReading 0 code } else { s with ana.vbb := Config.supplyReading 1 code }
    | 4 =>
      if first then { s with pwr.vgdV := Config.supplyReading 2 code } else { s with pwr.vholdV := Config.supplyReading 3 code }
    | 5 => if first then { s with pwr.lineV := Config.supplyReading 4 code } else s
    | 6 => { s with ana.pairFail := vset s.ana.pairFail adc (checkOff true code) }
    | _ => s.judgePair adc (s.ana.pairFail[adc] || checkOff false code)

/-- ADC_SLOT: the slot's channel is converted (R392, R394, R395, R409). -/
def execAdcSlot (adc : Fin 2) (slot : Fin 32) (oddFrame : Bool) (code : BitVec 12) (s : State) :
    Host.Outcome State Fault Refusal :=
  if s.atSettled then
    let m := slot.val % 8
    if m % 2 = 1 then .next (s.convertAin ⟨4 * adc.val + (slot.val - 1) / 2 % 4, by omega⟩ code)
    else if m = 6 then .next (s.convertRotating adc ((slot.val - 6) / 8 + 4 * bit01 oddFrame) code)
    else
      let n : LaneIx := ⟨3 * adc.val + m / 2 % 3, by omega⟩
      let l := s.ln n
      if l.pin ∨ l.sense.captured then .next (s.convertLane n code) else .next s
  else .next s

/-! ### Calibration (R397 to R400, R430 to R432) -/

/-- OFFSET_MEASURED: the 64 samples of a calibration or reseat are in; checks 6 to 8 of R397 judge them (R398). -/
def execOffsetMeasured (n : LaneIx) (sum : Nat) (s : State) : Host.Outcome State Fault Refusal :=
  let l := s.ln n
  match l.ops.measure with
  | some m =>
    if (m.kind = .calibrate ∨ m.kind = .reseat) ∧ m.ended = none then
      let mean := roundHalfAway sum 64
      let new := mean - 512
      let reason : Nat :=
        if m.disturbed then 2
        else if 327 < new.natAbs then 3
        else if 122 < (new - s.factoryOffset n l.sense.set.live.gain).natAbs then 4
        else 0
      let pass := reason == 0
      let s := s.modLn n fun l =>
        { l with
          ops.measure := some { m with ended := some pass, offset := new }
          sense.calReason := BitVec.ofNat 3 reason
          sense.calMean := if reason = 2 then l.sense.calMean else BitVec.ofInt 12 mean }
      if reason = 2 then .next (s.finish m.what stCalCondition 0 0 2 0)
      else .next (s.finish m.what (if pass then stOk else stCalCondition) (sword mean) (sword new) (word reason) 0)
    else .next s
  | none => .next s

/-- BULK_WINDOW_CHANGE: BULK_STATUS of a rail changes (R407); its owners are told at the next boundary (R408), and a diagnosis
on the rail is aborted where the rail leaves its window (R480). -/
def execBulkWindowChange (rail : Rail) (low high : Bool) (s : State) : Host.Outcome State Fault Refusal :=
  let v : BitVec 4 := BitVec.ofNat 4 (bit01 low + 2 * bit01 high)
  let new : BitVec 4 := match rail with
    | .a => (s.ana.bulk &&& 0xC) ||| v
    | .b => (s.ana.bulk &&& 0x3) ||| (v <<< 2)
  if new = s.ana.bulk then .next s
  else
    let s := match rail with
      | .a => { s with ana.bulk := new, ana.bulkChangedA := true }
      | .b => { s with ana.bulk := new, ana.bulkChangedB := true }
    .next (s.eachLane fun s n => if railOf n = rail ∧ (low ∨ high) then s.abortDiag n else s)

/-- The BULK_WINDOW events of a boundary (R408). -/
def State.bulkEvents (s : State) : State :=
  let s := s.eachLane fun s n =>
    let changed := match railOf n with
      | .a => s.ana.bulkChangedA
      | .b => s.ana.bulkChangedB
    if changed then s.laneEvent n 0x12 (word s.ana.bulk.toNat) 0 0 0 else s
  { s with ana.bulkChangedA := false, ana.bulkChangedB := false }

end Sys2Proof.Machine
end

