-- ==== Sys2Proof/Machine/Boundary.lean ====
section
/-! DEFINITION. The bell boundary: what takes force, what is applied, and what is posted, in one order (chapters 04, 06, 08 and 09), and
the rows BELL_BOUNDARY, FLYWHEEL_BELL and LEASE_EXPIRY. -/

namespace Sys2Proof.Machine

/-! ### Commands of an epoch in their order (R306, R307, R657) -/

/-- The place of a command in the order of R306: pitch, queued before register path, queue, SEQ, TAG. -/
def Cmd.place (c : Cmd) : Nat :=
  let reg := bit01 (c.door == .register)
  let (q, seq, tag) := if c.door = .register then (0, 0, 0) else (c.queue.val, c.seq.toNat, c.tag.toNat)
  (((c.pitch.val * 2 + reg) * 64 + q) * 128 + seq) * 512 + tag

/-- Commands in the order of R306; register-path commands stay in the order of their writes. -/
def inOrder (l : List Cmd) : List Cmd := sortBy (fun a b => decide (Cmd.place a ≤ Cmd.place b)) l

/-- Commands with their order indexes, each pitch numbered from 0 (R307). -/
def numbered (l : List Cmd) : List (Cmd × Nat) :=
  (l.foldl (fun (acc : List (Cmd × Nat)) c => (c, (acc.filter fun x => x.1.pitch == c.pitch).length) :: acc) []).reverse

/-- The accepted commands of which `f` holds complete with ST_LATE, unapplied (R112, R189). -/
def State.lapseAll (s : State) (f : Cmd → Bool) : State :=
  (numbered (inOrder (s.q.accepted.filter f))).foldl (fun s x => s.lapse x.1 x.2) s

/-- What a command does at its application, its opcode taken from its descriptor. -/
def effectFor (snap : State) (c : Cmd) : Applied → State → Effect :=
  match opcodeOf (Desc.opcode c.desc) with
  | some o => effectOf snap o
  | none => fun _ s => s.done stInconsistent

/-- A command of the present epoch, with its order index, is applied; its ledger status joins the list. -/
def applyOne (snap : State) (acc : State × List (Applied × Byte)) (x : Cmd × Nat) : State × List (Applied × Byte) :=
  let (s, l) := acc
  let s := { s with q.orderNext := vset s.q.orderNext x.1.pitch x.2 }
  let (s, a, st) := s.applyWith x.1 (effectFor snap x.1)
  (s, l ++ [(a, st)])

/-- The command is an ASSIGN. -/
def Cmd.isAssign (c : Cmd) : Bool := opcodeOf (Desc.opcode c.desc) == some .assign

/-- The commands whose effective epoch has come are applied, ASSIGNs after all others (R250, R306), and their ledger entries written in
application order (R318). What they read of the boundary stands in `start` (R320). -/
def State.applyEpoch (s : State) : State :=
  let snap := s.atBoundary
  let l := numbered (inOrder (s.q.accepted.filter fun c => c.epoch == s.bell.epoch))
  let r := (l.filter fun x => !Cmd.isAssign x.1).foldl (applyOne snap) (s, [])
  let r := (l.filter fun x => Cmd.isAssign x.1).foldl (applyOne snap) r
  (sortBy (fun a b => decide (Cmd.place a.1.cmd ≤ Cmd.place b.1.cmd)) r.2).foldl (fun s x => s.ledgerWrite x.1 x.2) r.1

/-! ### Host loss and the lease (R186 to R190, R262, R321) -/

/-- The running lanes of pitch `p` take an orderly stop, only the ORDERLY ones where `all` is false; `word4` tells the event, which a lane
that keeps a sooner stop does not cause (R188, R190). -/
def State.hostStop (s : State) (p : Pitch) (all : Bool) (word4 : Word) : State :=
  s.eachLane fun s n =>
    let l := s.ln n
    if s.laneOwner n = some p ∧ l.running = true ∧ (all = true ∨ bit l.car.policy 2 = false) then
      let r := s.beginStop n s.now .ramp false none 4 false
      if l.keepsStop s.now .ramp false then r else r.laneEvent n 0x02 word4 0 0 0
    else s

/-- The lease ends of a boundary: L bells run from the first boundary since JOINED, every later one counts them down (R321). -/
def State.leaseTick (s : State) (first : Bool) : State :=
  if first then s
  else
    { s with host := { s.host with
        leaseLeft := s.host.leaseLeft - 1
        oldLeases := s.host.oldLeases.map fun o => { o with left := o.left - 1 } } }

/-- Host commands not yet applied lapse, and the ORDERLY lanes stop, for an RST_N loss or a change of HOST_PITCH (R186, R189). -/
def State.hostLost (s : State) (p : Pitch) (word4 : Word) : State :=
  let s := s.lapseAll fun c => c.pitch == p && c.door != .ring
  (s.hostStop p false word4).devEventSet 0x0004

/-- A written HOST_PITCH takes force: the old pitch keeps its lease end, the new one gets L bells (R187, R262, R321). -/
def State.takeHostPitch (s : State) : State :=
  match s.pit.hostPitchNext with
  | none => s
  | some new =>
    let old := s.pit.hostPitch
    let s := { s with pit.hostPitchNext := none }
    if new = old then s
    else
      let kept := if s.host.leaseOn && !s.host.leaseOut then [({ pitch := old, left := s.host.leaseLeft } : OldLease)] else []
      let s := { s with
        pit.hostPitch := new
        host := { s.host with
          leaseOn := true
          leaseOut := false
          leaseLeft := s.host.leaseLen.toNat
          oldLeases := (s.host.oldLeases ++ kept).filter fun o => o.pitch != new } }
      s.hostLost old 1

/-- Leases that have run out act once: every running lane of their pitch takes an orderly stop (R186, R187). -/
def State.leaseEnds (s : State) : State :=
  let ended := s.host.oldLeases.filter fun o => o.left == 0
  let s := { s with host.oldLeases := s.host.oldLeases.filter fun o => o.left != 0 }
  let s := ended.foldl (fun s o => (s.hostStop o.pitch true 2).devEventSet 0x0008) s
  if s.host.leaseOn && s.host.leaseLeft == 0 && !s.host.leaseOut then
    ({ (s.hostStop s.pit.hostPitch true 2) with host.leaseOut := true }).devEventSet 0x0008
  else s

/-- A bench hold takes or loses force: HOLD_SAFE lanes go to their safe levels, or leave them (R326, R368, R370, R463). -/
def State.takeHold (s : State) : State :=
  match s.q.holdNext with
  | none => s
  | some on =>
    let s := { s with q := { s.q with holdNext := none } }
    if on = s.q.hold then s
    else
      let s := { s with q := { s.q with hold := on } }
      s.eachLane fun s n =>
        let l := s.ln n
        if on then
          if (s.laneOwner n).isSome && !bit l.car.policy 1 && (l.running || l.pin) then
            let r := s.forceSafe n s.now 3 fun s => s.modLn n fun l => { l with latch.safeHold := true }
            r.laneEvent n 0x11 0 0 0 0
          else s
        else if l.latch.safeHold then
          s.releaseSafe n s.now fun s => s.modLn n fun l => { l with latch.safeHold := false }
        else s

/-! ### Operations that end at a boundary -/

/-- A fuse operation completes two boundaries after its window's start; an advance to RETIRED parks every lane (R141, R147, R650). -/
def State.fuseBoundary (s : State) : State :=
  match s.fuse.run with
  | none => s
  | some r =>
    if s.bell.bellNo < r.bell + 2 then s
    else
      let s := s.fuseStop
      let r := s.fuse.run.getD r
      let was := s.fuse.lifecycle
      let s := s.fuseRefresh r
      let s : State := { s with fuse.run := none }
      let x := r.result
      let s := s.finishIn 0 r.op.what x.status x.r0 x.r1 x.r2 x.r3
      if s.fuse.lifecycle = .retired ∧ was ≠ .retired then s.eachLane fun s n => s.moveLane n none else s

/-- Sessions answered in the last bell come into force; a jump ends all (R271, R274). -/
def State.sessionBoundary (s : State) (jump : Bool) : State :=
  if jump then { s with pit := { s.pit with session := Vector.replicate 8 none, sessionNext := Vector.replicate 8 none } }
  else
    { s with pit := { s.pit with
        session := Vector.ofFn fun p => match s.pit.sessionNext[p] with
          | some k => some { key := k, since := s.bell.bellNo }
          | none => s.pit.session[p]
        sessionNext := Vector.replicate 8 none } }

/-- OPEN is entered at the first boundary with the device SEEDED and the market open (R164). -/
def State.openMarket (s : State) : State :=
  if s.dev.power = Power.seeded ∧ !s.dev.closed then { s with dev.power := .market } else s

/-! ### The boundary -/

/-- What decides whose each happening of the boundary's tick is: consumption (R304, R315), consent (R603), the ASSIGNs of the last epoch
(R250, R605). -/
def State.takeOwners (s : State) : State := ((s.consume).takeConsents).takeMoves

/-- What else takes force before the commands of the epoch: ended measurements, the heat figures, fuse operations, sessions, an epoch jump
(R112), the reopening (R594), the host step and a bench hold. -/
def State.beforeCommands (s : State) (jump first : Bool) : State :=
  let s := s.eachLane fun s n => s.modLn n Lane.settle
  let s := (s.heatBoundary).fuseBoundary
  let s := s.sessionBoundary jump
  let s := if jump then s.lapseAll fun _ => true else s
  let s := ((s.reopenMarket).openMarket).leaseTick first
  let s := s.takeHostPitch
  let s := if s.host.hostLoss then ({ s with host.hostLoss := false }).hostLost s.pit.hostPitch 0 else s
  (s.leaseEnds).takeHold

/-- The commands of the epoch are applied, with the boundary as it stands before them kept (R320), its tallies before any happening of its
tick (R617). -/
def State.atEpoch (s : State) (tally : Vector Tally 64) : State :=
  { s with start := some { s.snapshot with obs := { s.obs with tally := tally } } }.applyEpoch

/-- The commands of the boundary at `t`, and what acts in its tick at the task inputs of the lanes: under the masks and owners of that tick,
and counted after the snapshot (R603, R605, R617). -/
def State.epochBegins (s : State) (t : Ticks) (jump first : Bool) : State :=
  (((s.beforeCommands jump first).atEpoch s.obs.tally)).lanesTick t

/-- What follows them: sensor supplies, each of which that frontage or class still holds off being tried again (R55; log entry 73), power
figures (R64), completions and events (R310 to R313), trace and tally, IRQ_N (R317). -/
def State.afterCommands (s : State) (drawMw : Nat) : State :=
  let s := (s.wsTryAll).powerBoundary drawMw
  let s := (s.postCompletions).postEvents
  let s := ((s.traceBell s.stateCode).traceLost).count 0x40 0
  ({ s with host.irqBell := s.irqPending }).reseedDue

/-- A bell boundary at the instant observed: the epoch is `e` (R101). -/
def State.boundary (s : State) (e : DWord) (obs : BellObs) : State :=
  let s := (s.lanesBefore obs.at_).bulkEvents
  let first := !s.bell.seen
  let jump := s.bell.jump
  let s := { s with
    bell := { s.bell with
      epoch := e
      next := none
      jump := false
      bellNo := s.bell.bellNo + 1
      seen := true
      boundaryAt := s.now }
    ring.counted := Vector.replicate 8 0
    q := { s.q with orderNext := Vector.replicate 8 0 }
    obs := { s.obs with cleared := [], restarted := [] } }
  ((s.takeOwners).epochBegins obs.at_ jump first).afterCommands obs.drawMw

/-- BELL_BOUNDARY: the boundary of the bell received or begun (R103, R105, R108, R660). The host accesses of its CD17 cycle act last
(R640). -/
def execBellBoundary (obs : BellObs) (s : State) : Host.Outcome State Fault Refusal :=
  match s.bell.next with
  | some (e, k) =>
    if s.atJoined then
      let aligned := decide (k = .head) && !s.bell.alignFail && !s.bell.alignHeld
      .next ({ s with bell := { s.bell with flywheel := false, aligned := aligned } }.boundary e obs).serveDue
    else .next s.serveDue
  | none => .next s.serveDue

/-- FLYWHEEL_BELL: an expected bell did not come; at most four in a row (R106, R107). Before a first boundary, and after the fourth, no
boundary is made, but the bell counts as not received (R87; log entry 54). -/
def execFlywheelBell (obs : BellObs) (s : State) : Host.Outcome State Fault Refusal :=
  if s.atJoined ∧ s.bell.seen ∧ s.bell.next = none ∧ s.bell.flyRun < 4 ∧ !s.bell.ridge then
    let s := { s.bellLost with
      bell := { s.bell with
        flyRun := s.bell.flyRun + 1, flywheel := true, bellOk := false, bellMissed := satInc s.bell.bellMissed }
      ring := s.ring.cycle s.ring.islandCycle }
    .next (((s.tick obs.at_).bellEventSet 0x0001).boundary (s.bell.epoch + 1) obs).serveDue
  else if s.atSettled ∧ (s.bell.next = none ∨ !s.atJoined) ∧ !s.bell.ridge then .next (s.bellLost).serveDue
  else .next s.serveDue

/-- LEASE_EXPIRY: a lease end is reached at the boundary at `t`, before its commands (R186, R187). -/
def execLeaseExpiry (t : Ticks) (s : State) : Host.Outcome State Fault Refusal :=
  let s := s.lanesTick t
  let h := s.host
  let due (k : Nat) : Nat := if k ≤ 1 then 0 else k
  .next ({ s with host := { h with
      leaseLeft := if h.leaseOn then due h.leaseLeft else h.leaseLeft
      oldLeases := h.oldLeases.map fun (o : OldLease) => { o with left := due o.left } } }).leaseEnds

end Sys2Proof.Machine
end

