-- ==== Sys2Proof/Machine/Carrier.lean ====
section
/-! DEFINITION. The carrier rows: CARRIER_BOUNDARY, ON_PHASE_END, DEAD_TIME_END and VALLEY_DETECT (chapter 10). -/

namespace Sys2Proof.Machine

/-- CARRIER_BOUNDARY: a carrier period of lane `n` starts (R336), unless R371 and R373 defer it. -/
def execCarrierBoundary (n : LaneIx) (t : Ticks) (s : State) : Host.Outcome State Fault Refusal :=
  let s := s.laneTick n t
  .next (s.taskRow n t .boundary ((s.ln n).boundaryDue t))

/-- ON_PHASE_END: the on-phase ends at its compare value, at the latest instant of COT_OFF, or at a trip that still
asserts (R336, R338, R384). -/
def execOnPhaseEnd (n : LaneIx) (t : Ticks) (why : PhaseEnd) (s : State) : Host.Outcome State Fault Refusal :=
  let s := s.laneTick n t
  match why with
  | .trip =>
    let i := (s.tripSource n).getD 0
    if s.onEndDue n t why then .next (s.tripBy n i t) else .next (s.afterLatch n t (.trip i))
  | _ => if s.onEndDue n t why then .next (s.endOn n t false) else .next s

/-- DEAD_TIME_END: the timed edges of half-bridge `k` up to `t`: the side that waited for its dead time turns on (R340, R361), and the
minimum-pulse filter ends or lets through the pulse it holds (R341). -/
def execDeadTimeEnd (n : LaneIx) (k : PhaseIx) (t : Ticks) (s : State) : Host.Outcome State Fault Refusal :=
  let s := s.laneTick n t
  let l := s.ln n
  let r := s.edges n
  let b := l.car.bridges[k].settle r t
  let on := fun (b : HalfBridge) => s.setLn n (l.setBridges (vset l.car.bridges k b) 0)
  match b.wait with
  | some side =>
    if s.want n k = some side ∧ b.readyAt r (s.extraWait n) side ≤ t then
      .next (on (b.start r t (s.planFor n k (some side)) side))
    else .next (on b)
  | none => .next (on b)

/-- The low side of a phase in PWM state has been on for LEB ticks (R382). -/
def Lane.valleyWatched (l : Lane) (t : Ticks) : Bool :=
  phaseIxs.any fun k =>
    rowState l.car.rowWord k == 3 && l.car.bridges[k].commanded .low
      && (l.car.bridges[k].since .low).any fun u => decide (u + bits l.sense.set.live.leb 0 8 ≤ t)

/-- VALLEY_VDS, in mV. -/
def SenseSet.valley (x : SenseSet) : Nat := bits x.valleyVds 0 8 * 2

/-- VALLEY_DETECT: -V(SH_h) has fallen to `mv` millivolts. Below VALLEY_VDS it is a valley, and counts in the off-phase of COT_ON only
(R337, R382). -/
def execValleyDetect (n : LaneIx) (t : Ticks) (mv : Int) (s : State) : Host.Outcome State Fault Refusal :=
  let s := s.laneTick n t
  let l := s.ln n
  if l.running ∧ l.car.set.live.mode = 1 ∧ !l.car.onPhase ∧ l.valleyWatched t ∧ mv < l.sense.set.live.valley then
    .next (s.modLn n fun l => { l with car.valley := true })
  else .next s

end Sys2Proof.Machine
end

