-- ==== Sys2Proof/Machine/CommandRows.lean ====
section
/-! DEFINITION. The rows of the descriptor opcodes: a command of the present epoch reaches its application by itself (R306 to R310). -/

namespace Sys2Proof.Machine

/-- A command reaches its application; what waits for the commands of the boundary follows the last of them (R534, R640). -/
def State.commandRow (s : State) (o : Opcode) (c : Cmd) (f : Applied → State → Effect) : Host.Outcome State Fault Refusal :=
  .next (s.applyRow o c f).serveDue

/-! ### Blocks and battens (chapters 09 and 10) -/

/-- READ_BLOCK reaches its application, and reads what stood at the boundary of its epoch, with the selectors of that moment (R320,
R644). -/
def execReadBlock (c : Cmd) (s : State) : Host.Outcome State Fault Refusal :=
  s.commandRow .readBlock c (fun a r => r.readBlock s.atBoundary a)

/-- WRITE_BATTEN reaches its application (R348). -/
def execWriteBatten (c : Cmd) (s : State) : Host.Outcome State Fault Refusal := s.commandRow .writeBatten c (fun a s => s.writeBlock a)

/-- COMMIT_BATTEN reaches its application (R349, R353). -/
def execCommitBatten (c : Cmd) (s : State) : Host.Outcome State Fault Refusal := s.commandRow .commitBatten c (fun a s => s.commitBatten a)

/-! ### Lane commands (chapters 10 to 13) -/

/-- LANE_START reaches its application (R419 to R427). -/
def execLaneStart (c : Cmd) (s : State) : Host.Outcome State Fault Refusal := s.commandRow .laneStart c effLaneStart

/-- LANE_STOP reaches its application (R442 to R446). -/
def execLaneStop (c : Cmd) (s : State) : Host.Outcome State Fault Refusal := s.commandRow .laneStop c effLaneStop

/-- LANE_SET_SPEED reaches its application (R435, R436). -/
def execLaneSetSpeed (c : Cmd) (s : State) : Host.Outcome State Fault Refusal := s.commandRow .laneSetSpeed c effLaneSetSpeed

/-- LANE_REVERSE reaches its application (R447 to R449). -/
def execLaneReverse (c : Cmd) (s : State) : Host.Outcome State Fault Refusal := s.commandRow .laneReverse c effLaneReverse

/-- LANE_RESEAT reaches its application (R430 to R432). -/
def execLaneReseat (c : Cmd) (s : State) : Host.Outcome State Fault Refusal := s.commandRow .laneReseat c effLaneReseat

/-- LANE_CALIBRATE reaches its application (R397 to R401). -/
def execLaneCalibrate (c : Cmd) (s : State) : Host.Outcome State Fault Refusal := s.commandRow .laneCalibrate c effLaneCalibrate

/-- LANE_OFFSTATE_DIAG reaches its application (R475, R476). -/
def execLaneOffstateDiag (c : Cmd) (s : State) : Host.Outcome State Fault Refusal := s.commandRow .laneOffstateDiag c effLaneOffstateDiag

/-- LANE_SELFTEST reaches its application (R481). -/
def execLaneSelftest (c : Cmd) (s : State) : Host.Outcome State Fault Refusal := s.commandRow .laneSelftest c effLaneSelftest

/-- LANE_CLEAR_LATCH reaches its application (R365 to R367). -/
def execLaneClearLatch (c : Cmd) (s : State) : Host.Outcome State Fault Refusal := s.commandRow .laneClearLatch c effLaneClearLatch

/-! ### Wheels, heat, fuses, tallies, consent, lease, hold and REOPEN (chapters 05, 08, 09 and 14 to 17) -/

/-- WHEEL_LOAD_TABLE with operation STAGE (R505, R506). -/
def execWheelLoadTableStage (c : Cmd) (s : State) : Host.Outcome State Fault Refusal :=
  s.commandRow .wheelLoadTable (Cmd.withOp c 0) effLoadTable

/-- WHEEL_LOAD_TABLE with operation SEAT (R507, R508). -/
def execWheelLoadTableSeat (c : Cmd) (s : State) : Host.Outcome State Fault Refusal :=
  s.commandRow .wheelLoadTable (Cmd.withOp c 1) effLoadTable

/-- WINDOW_ARM reaches its application (R525, R526). -/
def execWindowArm (c : Cmd) (s : State) : Host.Outcome State Fault Refusal := s.commandRow .windowArm c effWindowArm

/-- WINDOW_DISARM reaches its application (R527). -/
def execWindowDisarm (c : Cmd) (s : State) : Host.Outcome State Fault Refusal := s.commandRow .windowDisarm c effWindowDisarm

/-- THERMAL_QUERY reaches its application (R576, R577), with the values of the boundary of its epoch. -/
def execThermalQuery (c : Cmd) (s : State) : Host.Outcome State Fault Refusal := s.commandRow .thermalQuery c (effThermalQuery s.atBoundary)

/-- FUSE_READ reaches its application (R136 to R138). -/
def execFuseRead (c : Cmd) (s : State) : Host.Outcome State Fault Refusal := s.commandRow .fuseRead c effFuseRead

/-- FUSE_PROGRAM_WORD reaches its application (R138 to R141). -/
def execFuseProgramWord (c : Cmd) (s : State) : Host.Outcome State Fault Refusal := s.commandRow .fuseProgramWord c effFuseProgramWord

/-- LIFECYCLE_ADVANCE reaches its application (R128, R129). -/
def execLifecycleAdvance (c : Cmd) (s : State) : Host.Outcome State Fault Refusal := s.commandRow .lifecycleAdvance c effLifecycleAdvance

/-- KEY_ROLL reaches its application (R649). -/
def execKeyRoll (c : Cmd) (s : State) : Host.Outcome State Fault Refusal := s.commandRow .keyRoll c effKeyRoll

/-- TALLY_SNAPSHOT reaches its application (R616, R617), with the values of the boundary of its epoch. -/
def execTallySnapshot (c : Cmd) (s : State) : Host.Outcome State Fault Refusal :=
  s.commandRow .tallySnapshot c (effTallySnapshot s.atBoundary)

/-- TRACE_CONSENT with operation GRANT (R601). -/
def execTraceConsentGrant (c : Cmd) (s : State) : Host.Outcome State Fault Refusal :=
  s.commandRow .traceConsent (Cmd.withOp c 0) effTraceConsent

/-- TRACE_CONSENT with operation REVOKE (R601). -/
def execTraceConsentRevoke (c : Cmd) (s : State) : Host.Outcome State Fault Refusal :=
  s.commandRow .traceConsent (Cmd.withOp c 1) effTraceConsent

/-- TRACE_CONSENT with operation COUNTERSIGN (R600, R601). -/
def execTraceConsentCountersign (c : Cmd) (s : State) : Host.Outcome State Fault Refusal :=
  s.commandRow .traceConsent (Cmd.withOp c 2) effTraceConsent

/-- LEASE_RENEW reaches its application (R322, R324). -/
def execLeaseRenew (c : Cmd) (s : State) : Host.Outcome State Fault Refusal := s.commandRow .leaseRenew c effLeaseRenew

/-- BENCH_HOLD reaches its application (R325, R326). -/
def execBenchHold (c : Cmd) (s : State) : Host.Outcome State Fault Refusal := s.commandRow .benchHold c (effBench true)

/-- BENCH_RELEASE reaches its application (R325, R326). -/
def execBenchRelease (c : Cmd) (s : State) : Host.Outcome State Fault Refusal := s.commandRow .benchRelease c (effBench false)

/-- REOPEN reaches its application (R592 to R594). -/
def execReopen (c : Cmd) (s : State) : Host.Outcome State Fault Refusal := s.commandRow .reopen c effReopen

/-! ### ASSIGN (chapter 08) -/

/-- ASSIGN reaches its application (R250, R651). -/
def execAssign (c : Cmd) (s : State) : Host.Outcome State Fault Refusal := s.commandRow .assign c (fun a s => s.assign a)

end Sys2Proof.Machine
end

