-- ==== Sys2Proof/Machine/Commut.lean ====
section
/-! DEFINITION. The commutation rows: BEMF_SAMPLE to COAST_SPEED_TIMEOUT (chapter 12). -/

namespace Sys2Proof.Machine

/-- The floating phase of the active row, and whether its expected crossing rises (R412). -/
def Lane.expected (l : Lane) : Option (PhaseIx × Bool) :=
  let next := l.car.mask.live.rows[nextRow l.com.dir l.car.row]
  (phaseIxs.find? fun k => rowState l.car.rowWord k == 0).map fun k => (k, decide (2 ≤ rowState next k))

/-- SPEED_MEAS from crossing intervals in ticks, 12.4 Hz: 1 / the sum of the last six; where fewer are known their mean
stands for the rest (R418, log entry 25). -/
def speedOf (intervals : List Ticks) : Word :=
  let iv := intervals.take 6
  if iv.sum = 0 then 0 else satNat 16 (16 * 160000000 * iv.length / (6 * iv.sum))

/-- The end of blanking as far as a sample at `t` settles it (R414); `pre` says that it shows the pre-crossing output. -/
def LaneCommut.blankAt (x : LaneCommut) (t : Ticks) (pre : Bool) : Option Ticks :=
  let c := x.set.live
  let least := x.rowStart + c.blankTicks
  match x.blankEnd with
  | some e => some e
  | none =>
    if !c.adaptBlank then some (x.blankCap least)
    else if pre then some (x.blankCap (max least t))
    else if x.t60 ≠ 0 ∧ x.rowStart + x.t60 / 2 ≤ t then some (x.rowStart + x.t60 / 2)
    else none

/-- A zero crossing at `inst` (R413, R418, R423, R424, R437). -/
def State.crossing (s : State) (n : LaneIx) (inst : Ticks) : State :=
  let x := (s.ln n).com
  let iv := match x.lastCross with
    | some p => (inst - p) :: x.intervals.take 5
    | none => x.intervals
  let open_ := decide (x.state = .ramp ∨ x.state = .handover)
  let dt := inst - x.rowStart
  let inWindow := decide (x.stepTicks ≤ 8 * dt ∧ 8 * dt ≤ 7 * x.stepTicks)
  let chain := if inWindow then x.consistent + 1 else 0
  let t60 := if open_ && decide (chain < 6) then x.t60 else iv.headD x.t60
  let s := s.modLn n fun l => { l with com := { l.com with
    crossed := true
    zcCount := l.com.zcCount + 1
    intervals := iv
    lastCross := some inst
    lastSeen := inst
    missed := if open_ then l.com.missed else 0
    rotDir := l.com.dir
    consistent := if open_ then chain else l.com.consistent
    rowConsistent := open_ && inWindow
    t60 := t60
    speedMeas := if iv = [] then l.com.speedMeas else speedOf iv } }
  (s.count 0x03 n.val).traceLane n 2 (s.ln n).car.row.val (satNat 16 (t60 / Config.ticksPerUs))

/-- The sample instant of the period in progress, once it is known: SAMPLE_AT ticks after the boundary, in COT_OFF after the on-phase
ends (R336). -/
def LaneCarrier.sampleDue (x : LaneCarrier) : Option Ticks :=
  let c := x.set.live
  if c.mode = 2 then if x.onPhase then none else some (x.edges.at (x.phaseEnd + c.sampleAt.toNat))
  else some (x.edges.at (x.periodStart + c.sampleAt.toNat))

/-- A commutation event of lane `n` falls in the tick of `t`: one that has acted, one that waits for a free tick, or one that stands behind
in the queue (R415; log entry 34). -/
def State.rowChanges (s : State) (n : LaneIx) (t : Ticks) : Bool :=
  let l := s.ln n
  let g := l.car.edges.at t
  decide (t ≤ l.com.rowStart) || (l.car.waiting.any fun w => decide (w.tick = g) && w.event.isRow)
    || s.pending.any fun c => s.brings n g c == some 2

/-- BEMF_SAMPLE: the watched comparator is read at the sample instant (R413 to R415). -/
def execBemfSample (n : LaneIx) (t : Ticks) (above : Bool) (s : State) : Host.Outcome State Fault Refusal :=
  let s := s.laneTick n t
  let l := s.ln n
  match l.expected with
  | some (_, rise) =>
    if l.watching ∧ l.car.sampleDue = some t ∧ !l.com.crossed ∧ !s.rowChanges n t then
      let pre := decide (above ≠ rise)
      match l.com.blankAt t pre with
      | none => .next s
      | some e =>
        let post := !pre && decide (e ≤ t)
        let k := if post then l.com.zcSamples + 1 else 0
        let first := if l.com.zcSamples = 0 then t else l.com.zcFirst
        let s := s.modLn n fun l => { l with com.blankEnd := some e, com.zcSamples := k, com.zcFirst := first }
        if l.com.set.live.zcFilter + 1 ≤ k then .next (s.crossing n first) else .next s
    else .next s
  | none => .next s

/-- COMMUTATION: the event after a crossing makes the next row active (R417, R344); after the sixth consistent crossing
the lane enters RUN (R424). -/
def execCommutation (n : LaneIx) (t : Ticks) (s : State) : Host.Outcome State Fault Refusal :=
  let s := s.laneTick n t
  .next (s.taskRow n t .commutation ((s.ln n).commutationDue t))

/-- A missed crossing is counted at `t` (R437). -/
def Lane.missSet (t : Ticks) (l : Lane) : Lane := { l with com.missed := l.com.missed + 1, com.lastSeen := t }

/-- A stall ends a RAMP stop as COAST (R444). -/
def State.stallStop (s : State) (n : LaneIx) (t : Ticks) : State :=
  let s := s.modLn n fun l =>
    { l with
      ops.stops := l.ops.stops.map fun w => { w with mode := .coast }
      com.stallCount := satInc l.com.stallCount }
  (s.count 0x04 n.val).toStopped n t

/-- MISSED_CROSSING: no crossing within STALL_FACTOR x T60 (R437); the third in a row is a stall (R438), which ends a
RAMP stop as COAST (R444). -/
def execMissedCrossing (n : LaneIx) (t : Ticks) (s : State) : Host.Outcome State Fault Refusal :=
  let s := s.laneTick n t
  let l := s.ln n
  if l.missDue t then
    let s := s.modLn n (Lane.missSet t)
    if 2 ≤ l.com.missed.toNat then
      if l.com.state = .run then .next (s.stall n t) else .next (s.stallStop n t)
    else .next (s.onTask n t .missed)
  else .next (s.afterLatch n t .missed)

/-- ALIGN_END: ALIGN_TIME has passed, RAMP begins with a commutation event (R421, R422). -/
def execAlignEnd (n : LaneIx) (t : Ticks) (s : State) : Host.Outcome State Fault Refusal :=
  let s := s.laneTick n t
  .next (s.taskRow n t .alignEnd ((s.ln n).alignEndDue t))

/-- PROFILE_STEP: the interval of an open-loop step ends (R422, R425). -/
def execProfileStep (n : LaneIx) (t : Ticks) (s : State) : Host.Outcome State Fault Refusal :=
  let s := s.laneTick n t
  .next (s.taskRow n t .profileStep ((s.ln n).stepDue t))

/-- RESTART: RESTART_DELAY after a stall has passed, the lane starts again from ALIGN (R439). -/
def execRestart (n : LaneIx) (t : Ticks) (s : State) : Host.Outcome State Fault Refusal :=
  let s := s.laneTick n t
  let l := s.ln n
  if l.com.state = .restartWait ∧ !l.gate.waiting ∧ l.com.waitFrom + l.com.set.live.restartMs * Config.ticksPerMs ≤ t then
    .next (s.enterAlign n t)
  else .next s

/-- RESTART_COUNT_CLEAR: 1000 ms in RUN without a missed crossing (R441). -/
def execRestartCountClear (n : LaneIx) (s : State) : Host.Outcome State Fault Refusal :=
  if (s.ln n).com.state = .run ∧ (s.ln n).com.missed = 0 then
    .next (s.modLn n fun l => { l with com.restarts := 0 })
  else .next s

/-- BRAKE_END: the time of a BRAKE or of an immediate heat stop has passed (R442, R565). -/
def execBrakeEnd (n : LaneIx) (t : Ticks) (s : State) : Host.Outcome State Fault Refusal :=
  let s := s.laneTick n t
  match (s.ln n).com.state, (s.ln n).com.stopping with
  | .stopping, some st =>
    if st.mode = .brake ∧ st.since + st.declaredMs * Config.ticksPerMs ≤ t then .next (s.toStopped n t) else .next s
  | _, _ => .next s

/-- RAMP_STOP_END: SPEED_MEAS has reached REV_LIMIT or STOP_TIME has passed (chapter 12, *Stop modes*). -/
def execRampStopEnd (n : LaneIx) (t : Ticks) (s : State) : Host.Outcome State Fault Refusal :=
  let s := s.laneTick n t
  let x := (s.ln n).com
  match x.state, x.stopping with
  | .stopping, some st =>
    if st.mode = .ramp ∧ (x.speedMeas ≤ x.set.live.revLimit ∨ st.since + st.declaredMs * Config.ticksPerMs ≤ t) then
      .next (s.toStopped n t)
    else .next s
  | _, _ => .next s

/-- Coast tracking of one transition (R416). -/
def Lane.coastStep (l : Lane) (k : PhaseIx) (t : Ticks) (rise : Bool) : Lane :=
  let x := l.com
  let m := l.car.mask.live
  let follows (rev : Bool) : Bool :=
    match x.coastLast with
    | some (k', r') =>
      match m.rowOf rev k' r', m.rowOf rev k rise with
      | some a, some b => nextRow rev a == b
      | _, _ => false
    | none => false
  let go (rev : Bool) : LaneCommut :=
    let same := decide (x.coastDir = rev ∧ 2 ≤ x.coastRun)
    { x with
      coastRun := if same then min 6 (x.coastRun + 1) else 2
      coastDir := rev
      intervals := (t - x.coastAt) :: (if same then x.intervals.take 5 else []) }
  let y := if follows false then go false else if follows true then go true
    else { x with coastRun := 1, intervals := [] }
  let y := { y with coastLast := some (k, rise), coastAt := t }
  { l with com := if 6 ≤ y.coastRun then { y with speedMeas := speedOf y.intervals, rotDir := y.coastDir } else y }

/-- BEMF_TRANSITION: a BEMF comparator changed while all six gates are off (R416); it disturbs a measurement in progress
(R397, R475). -/
def execBemfTransition (n : LaneIx) (k : PhaseIx) (t : Ticks) (above : Bool) (s : State) :
    Host.Outcome State Fault Refusal :=
  let s := s.laneTick n t
  let l := s.ln n
  let s := s.modLn n fun l =>
    { l with
      ops.lastBemf := some t
      ops.measure := l.ops.measure.map fun m => { m with disturbed := m.disturbed || decide (m.ended = none) } }
  if (l.com.state = .stopped ∨ l.gate.waiting) ∧ l.allOff then .next (s.modLn n fun l => l.coastStep k t above)
  else .next s

/-- A BRAKE is under way: it shows no transitions (chapter 12, below R416). -/
def Lane.braking (l : Lane) : Bool := decide (l.com.state = .stopping) && l.com.stopping.any fun st => decide (st.mode = .brake)

/-- COAST_SPEED_TIMEOUT: 200 ms without a transition (R416); also of a lane that brakes, whose SPEED_MEAS reads 0 within 200 ms of the brake
taking hold, and in a gate retry's wait (log entry 64). -/
def execCoastSpeedTimeout (n : LaneIx) (s : State) : Host.Outcome State Fault Refusal :=
  let l := s.ln n
  if l.com.state = .stopped ∨ l.gate.waiting ∨ l.braking then
    .next (s.modLn n fun l => { l with com := { l.com with
      speedMeas := 0, coastRun := 0, coastLast := none, intervals := [], lastCross := none } })
  else .next s

end Sys2Proof.Machine
end

