-- ==== Sys2Proof/Machine/Requests.lean ====
section
/-! DEFINITION. Ring requests and their answers: the rows SLOT_REQUEST_A to TRACE_GRANT and SESSION_EXPIRY (chapters 07 to 09
and 17). -/

namespace Sys2Proof.Machine

/-! ### Answers (R209, R211) -/

/-- A response waits for its slot to return. -/
def State.reply (s : State) (slot : Fin 36) (f : Frame) : State :=
  { s with ring := { s.ring with replies := s.ring.replies.filter (fun r => r.slot != slot) ++ [{ slot := slot, frame := f }] } }

/-- An answer without a tag. -/
def State.answerPlain (s : State) (slot : Fin 36) (f : Frame) (data : List Byte) : State :=
  s.reply slot (sealFrame (Frame.respHeader f data.length) (payloadOf data) 0)

/-- The IV of R205. -/
def ringIv (epoch : DWord) (slot : Fin 36) (response : Bool) (seq : Word) : List Byte :=
  bytesOf 4 epoch.toNat ++ bytesOf 1 slot.val ++ bytesOf 1 (bit01 response) ++ bytesOf 2 seq.toNat ++ bytesOf 4 0

/-- The first 64 bits of a MAC. -/
def tag64 (mac : List Byte) : BitVec 64 := BitVec.ofNat 64 (natOfBytes (mac.take 8))

/-- The additional authenticated data: the header with TAKEN and RESP taken as 0. -/
def plainHeaderBytes (h : BitVec 48) : List Byte := bytesOf 6 (h &&& ~~~ (0x18000000 : BitVec 48)).toNat

/-- The GCM tag of a DATA or TRACE-GRANT frame (R205). -/
def gcmFrameTag (key : BitVec 256) (iv : List Byte) (h : BitVec 48) (cipher : List Byte) : BitVec 64 :=
  tag64 (gcmTag (keyBytes key) iv (plainHeaderBytes h) cipher)

/-- An answer encrypted and tagged under the session key. -/
def State.answerSealed (s : State) (slot : Fin 36) (f : Frame) (key : BitVec 256) (data : List Byte) : State :=
  let h := Frame.respHeader f data.length
  let iv := ringIv s.bell.epoch slot true (Frame.seq f)
  let cipher := gcmCrypt (keyBytes key) iv (payloadOf data).toList
  s.reply slot (sealFrame h (payloadOf cipher) (gcmFrameTag key iv h cipher))

/-- The SESSION tag over 52 bytes (R268). -/
def sessionTag (open_ : BitVec 256) (epoch : DWord) (slot : Fin 36) (response : Bool) (h : BitVec 48) (payload : List Byte) :
    BitVec 64 :=
  tag64 (aesCmac (keyBytes open_)
    (bytesOf 4 epoch.toNat ++ bytesOf 1 slot.val ++ bytesOf 1 (bit01 response) ++ plainHeaderBytes h ++ payload))

/-- An answer tagged under the open key. -/
def State.answerOpen (s : State) (slot : Fin 36) (f : Frame) (key : BitVec 256) (data : List Byte) : State :=
  let h := Frame.respHeader f data.length
  let payload := payloadOf data
  s.reply slot (sealFrame h payload (sessionTag key s.bell.epoch slot true h payload.toList))

/-- The no-object answer (R211), counted (R241). -/
def State.answerNobody (s : State) (slot : Fin 36) (f : Frame) : State :=
  let p := Frame.pitch f
  ({ s with ring := { s.ring with authFail := vmod s.ring.authFail p satInc } }).answerPlain slot f [0x02]

/-! ### Ring frontage (R240) -/

/-- A request of pitch `p` that passed its tag is counted; whether it stays within the ring frontage. -/
def State.countRequest (s : State) (p : Pitch) : State × Bool :=
  let s := s.count 0x33 0 (some p)
  let k := s.ring.counted[p] + 1
  let fits := decide (k ≤ s.pit.front.ring[p])
  ({ s with ring := { s.ring with
      counted := vset s.ring.counted p k
      frontRefused := if fits then s.ring.frontRefused else vmod s.ring.frontRefused p satInc } }, fits)

/-! ### DATA (R297 to R300, R314, R316) -/

/-- SUBMIT of pitch `p`: the answer's data. -/
def State.dataSubmit (s : State) (p : Pitch) (queue : Byte) (d : Desc) : State × List Byte :=
  if h : queue.toNat < 64 then
    match s.submit p .ring ⟨queue.toNat, h⟩ d with
    | (s, v) => (s, [v.status, queue] ++ bytesOf 4 v.epoch.toNat)
  else (s, [stNoObject, queue] ++ bytesOf 4 0)

/-- The bytes of an entry, most significant byte of each word first; sixteen zeros for an absent one. -/
def entryBytes (e : Option Entry) : List Byte :=
  match e with
  | some e => e.words.flatMap fun w => bytesOf 2 w.toNat
  | none => List.replicate 16 0

/-- The data of a COLLECT answer. -/
def collectData (queue head : Byte) (l : List Entry) : List Byte :=
  [stOk, queue, head, BitVec.ofNat 8 l.length] ++ entryBytes l[0]? ++ entryBytes l[1]?

/-- COLLECT of pitch `p`: consumption up to the new head is asked for, and the entries as they stand are returned. -/
def State.dataCollect (s : State) (p : Pitch) (queue newHead : Byte) : State × List Byte :=
  if h : queue.toNat < 64 then
    let q : QueueIx := ⟨queue.toNat, h⟩
    if s.ownsQueue p q then
      let r := s.q.cq[q]
      ({ s with q.cq := vset s.q.cq q { r with pops := popsFor r.head newHead r.entries.length r.pops } },
        collectData queue r.head r.entries)
    else (s, [stNoObject])
  else if queue = 0x40 then
    let f := s.q.evq[p]
    ({ s with q.evq := vset s.q.evq p { f with pops := popsFor f.head newHead f.entries.length f.pops } },
      collectData queue f.head f.entries)
  else (s, [stNoObject])

/-- A word from two bytes, most significant first. -/
def wordAt (bs : List Byte) (i : Nat) : Word := bs.getD i 0 ++ bs.getD (i + 1) 0

/-- The answer to a DATA request past its tag and its frontage (R300). -/
def State.dataRequest (s : State) (p : Pitch) (len : Nat) (bs : List Byte) : State × List Byte :=
  let kind := bs.getD 0 0
  if kind = 1 ∧ len = 18 then
    s.dataSubmit p (bs.getD 1 0) (descOf ((List.range 8).map fun k => wordAt bs (2 + 2 * k)))
  else if kind = 2 ∧ len = 3 then s.dataCollect p (bs.getD 1 0) (bs.getD 2 0)
  else (s, [stInconsistent])

/-! ### TRACE-GRANT (chapter 17, *Registers*) -/

/-- The answer to a TRACE-GRANT request past its tag and its frontage. -/
def State.traceData (s : State) (p : Pitch) (len : Nat) (bs : List Byte) : List Byte :=
  if len = 1 ∧ bs.getD 0 0 = 1 then
    [stOk, s.obs.grant[p], s.obs.countersign[p], s.obs.effective p] ++ bytesOf 2 s.obs.lost[p].toNat
  else [stInconsistent]

/-- A DATA or TRACE-GRANT request: session, tag, frontage, then its answer (R205, R211, R240). -/
def State.sealedRequest (s : State) (slot : Fin 36) (f : Frame) : State :=
  let p := Frame.pitch f
  match s.sessionOf p with
  | none => s.answerNobody slot f
  | some x =>
    let iv := ringIv s.bell.epoch slot false (Frame.seq f)
    if gcmFrameTag x.key iv f.header f.payload.toList ≠ f.tag then s.answerNobody slot f
    else
      match s.countRequest p with
      | (s, false) => s.answerSealed slot f x.key [stFrontage]
      | (s, true) =>
        let bs := gcmCrypt (keyBytes x.key) iv f.payload.toList
        if (Frame.type f).toNat = 7 then
          match s.dataRequest p (Frame.len f) bs with
          | (s, data) => s.answerSealed slot f x.key data
        else s.answerSealed slot f x.key (s.traceData p (Frame.len f) bs)

/-! ### SESSION (R268 to R273) -/

/-- The data of an ST_OK answer, without its status (chapter 08, *SESSION payloads*). -/
def State.sessionData (s : State) (p : Pitch) (slotNo : Fin 8) (nonce : BitVec 128) : List Byte :=
  [stOk] ++ bytesOf 16 nonce.toNat ++ bytesOf 1 (slotNo.val + 8 * bit01 (s.budgetLow p)) ++ bytesOf 2 s.pit.front.tag[p]
    ++ bytesOf 1 s.pit.front.ring[p] ++ bytesOf 2 s.pit.front.line[p] ++ [0]

/-- The open key of a pitch whose region is readable and holds a valid slot, with that slot (R269, R270). -/
def State.openKeyOf (s : State) (p : Pitch) : Option (Fin 8 × BitVec 256 × BitVec 256) :=
  if s.rlocked (8 + p.val) then none
  else
    s.fuse.keyActive[p].map fun k =>
      let key := slotKey s.fuse.image p.val k.val
      (k, key, openKey key s.serial p.val k.val)

/-- A SESSION request (R270). -/
def State.sessionRequest (s : State) (slot : Fin 36) (f : Frame) : State :=
  let p := Frame.pitch f
  let bs := f.payload.toList
  if !s.atSeeded then s.answerPlain slot f [stSeedWait]
  else
    match s.openKeyOf p with
    | none => s.answerNobody slot f
    | some (k, key, ko) =>
      if sessionTag ko s.bell.epoch slot false f.header bs ≠ f.tag then s.answerNobody slot f
      else
        match s.countRequest p with
        | (s, false) => s.answerOpen slot f ko [stFrontage]
        | (s, true) =>
          if Frame.len f ≠ 18 ∨ bs.getD 0 0 ≠ 0x50 ∨ bs.getD 17 0 ≠ 0 then s.answerOpen slot f ko [stInconsistent]
          else
            match s.draw with
            | (s, nonce) =>
              let ks := sessionKey key s.serial p.val k.val s.bell.epoch ((bs.drop 1).take 16) (bytesOf 16 nonce.toNat)
              let s := { s with pit := { s.pit with sessionNext := vset s.pit.sessionNext p (some ks) } }
              s.answerOpen slot f ko (s.sessionData p k nonce)

/-! ### IDENT (R236) -/

/-- The IDENT answer's data for the pitch named in the header. -/
def State.identData (s : State) (p : Pitch) : List Byte :=
  [stOk] ++ bytesOf 8 s.serial.toNat ++ bytesOf 4 s.member.toNat
    ++ bytesOf 1 (s.stateCode + 16 * bit01 s.dev.closed) ++ bytesOf 1 s.fuse.lifecycle.code
    ++ bytesOf 1 (bit01 (s.budgetLow p) + 2 * bit01 s.ring.folded) ++ bytesOf 1 (s.pwr.request.toNat + 16 * s.pwr.granted.toNat)
    ++ bytesOf 2 s.ring.ringRt.toNat ++ bytesOf 1 s.ring.rxA.toNat ++ bytesOf 2 s.ring.ringGen.toNat

/-- An addressed slot whose CRC holds is judged by its type. -/
def State.request (s : State) (slot : Fin 36) (f : Frame) : State :=
  match (Frame.type f).toNat with
  | 2 => s.delayTaken f
  | 4 => s.foldTaken f
  | 5 => s.answerPlain slot f (s.identData (Frame.pitch f))
  | 6 => s.sessionRequest slot f
  | _ => s.sealedRequest slot f

/-! ### Rows -/

/-- SLOT_REQUEST_A: TAKEN is set and the request judged; one that failed its CRC gets no response (R207, R210). A slot that is not
this node's is forwarded unchanged (R204). -/
def execSlotRequestA (slot : Fin 36) (frame : Frame) (s : State) : Host.Outcome State Fault Refusal :=
  .next (s.takeSlot slot frame fun s => s.request slot frame)

/-- SLOT_RESPONSE_B: the returning slot carries the node's response, or goes on unchanged (R209, R210). A node without an answer waiting
answers no slot, and none waits for a slot of an island's cycle (R239). -/
def execSlotResponseB (slot : Fin 36) (frame : Frame) (s : State) : Host.Outcome State Fault Refusal :=
  let s := s.countCrc .b frame
  match s.ring.replies.find? fun r => r.slot == slot with
  | some r =>
    .next { s with ring := { s.ring with
      replies := s.ring.replies.filter fun r => r.slot != slot
      bOut := some { slot := slot.val, frame := r.frame } } }
  | none => .next (s.passB slot frame)

/-- A DATA request of pitch `p` in a slot that this node takes, past its CRC and its tag (R15, R225, R239): the no-object answer without a
session (R211, R241), a refusal above the ring frontage (R240), else `act`. -/
def State.dataRow (s : State) (p : Pitch) (act : State → State) : State :=
  if !s.takesSlots then s
  else if (s.sessionOf p).isNone then { s with ring := { s.ring with authFail := vmod s.ring.authFail p satInc } }
  else
    match s.countRequest p with
    | (s, false) => s
    | (s, true) => act s

/-- DATA_SUBMIT: the engine's part of a SUBMIT request of a pitch in session (R240, R301). -/
def execDataSubmit (p : Pitch) (queue : Byte) (desc : Desc) (s : State) : Host.Outcome State Fault Refusal :=
  .next (s.dataRow p fun s => (s.dataSubmit p queue desc).1)

/-- DATA_COLLECT: the engine's part of a COLLECT request of a pitch in session (R240, R314, R315). -/
def execDataCollect (p : Pitch) (queue newHead : Byte) (s : State) : Host.Outcome State Fault Refusal :=
  .next (s.dataRow p fun s => (s.dataCollect p queue newHead).1)

/-- SESSION_OPEN: a SESSION frame arrives on pair A, and one to this node is answered (R270). -/
def execSessionOpen (slot : Fin 36) (frame : Frame) (s : State) : Host.Outcome State Fault Refusal :=
  if (Frame.type frame).toNat = 6 then .next (s.takeSlot slot frame fun s => s.sessionRequest slot frame) else .next s

/-- IDENT: an IDENT frame arrives on pair A, and one to this node is answered, whatever its PITCH names (R236). -/
def execIdent (slot : Fin 36) (frame : Frame) (s : State) : Host.Outcome State Fault Refusal :=
  if (Frame.type frame).toNat = 5 then
    .next (s.takeSlot slot frame fun s => s.answerPlain slot frame (s.identData (Frame.pitch frame)))
  else .next s

/-- TRACE_GRANT: a TRACE-GRANT frame arrives on pair A, and one to this node is answered (R205, R211, R240). -/
def execTraceGrant (slot : Fin 36) (frame : Frame) (s : State) : Host.Outcome State Fault Refusal :=
  if (Frame.type frame).toNat = 8 then .next (s.takeSlot slot frame fun s => s.sealedRequest slot frame) else .next s

/-- SESSION_EXPIRY: pitch `p`'s session ends 2 147 483 648 bells after it came into force (R273). -/
def execSessionExpiry (p : Pitch) (s : State) : Host.Outcome State Fault Refusal :=
  match s.pit.session[p] with
  | some x =>
    if x.since + Config.sessionBells ≤ s.bell.bellNo then
      .next { s with pit := { s.pit with session := vset s.pit.session p none } }
    else .next s
  | none => .next s

end Sys2Proof.Machine
end

