-- ==== Sys2Proof/Machine/Dispatch.lean ====
section
/-! DEFINITION. One arm for each command: a direct call of its meaning. -/

namespace Sys2Proof.Machine

def exec (i : Instr) (s : State) : Host.Outcome State Fault Refusal :=
  match i with
  | .lit t => Sys2Proof.Machine.execLit t s
  | .powerReset t => Sys2Proof.Machine.execPowerReset t s
  | .watchCheckReset t windows => Sys2Proof.Machine.execWatchCheckReset t windows s
  | .monitorChallenge => Sys2Proof.Machine.execMonitorChallenge s
  | .safetyMonitorReset t => Sys2Proof.Machine.execSafetyMonitorReset t s
  | .resetRelease t holdRailUp => Sys2Proof.Machine.execResetRelease t holdRailUp s
  | .fuseSenseDone => Sys2Proof.Machine.execFuseSenseDone s
  | .settled t => Sys2Proof.Machine.execSettled t s
  | .keySlotSelect weak => Sys2Proof.Machine.execKeySlotSelect weak s
  | .seeded t raw => Sys2Proof.Machine.execSeeded t raw s
  | .seedSlow t => Sys2Proof.Machine.execSeedSlow t s
  | .healthTestFail t raw => Sys2Proof.Machine.execHealthTestFail t raw s
  | .drbgReseed t raw => Sys2Proof.Machine.execDrbgReseed t raw s
  | .lineGood t => Sys2Proof.Machine.execLineGood t s
  | .lineLossDeclared t => Sys2Proof.Machine.execLineLossDeclared t s
  | .holdupAbort t => Sys2Proof.Machine.execHoldupAbort t s
  | .lineOvWarn t => Sys2Proof.Machine.execLineOvWarn t s
  | .lineOvClear => Sys2Proof.Machine.execLineOvClear s
  | .lineOvStop t => Sys2Proof.Machine.execLineOvStop t s
  | .lineOvStopClear => Sys2Proof.Machine.execLineOvStopClear s
  | .holdCapMeasured chargeMicros => Sys2Proof.Machine.execHoldCapMeasured chargeMicros s
  | .overdrawSet t => Sys2Proof.Machine.execOverdrawSet t s
  | .overdrawClear => Sys2Proof.Machine.execOverdrawClear s
  | .beyondFoldDetect => Sys2Proof.Machine.execBeyondFoldDetect s
  | .insertOffer slot offer back => Sys2Proof.Machine.execInsertOffer slot offer back s
  | .insertRequestAtFold slot request afterNanos => Sys2Proof.Machine.execInsertRequestAtFold slot request afterNanos s
  | .insertGrant slot frame => Sys2Proof.Machine.execInsertGrant slot frame s
  | .insertRefuse slot t frame => Sys2Proof.Machine.execInsertRefuse slot t frame s
  | .refuseHoldoffEnd => Sys2Proof.Machine.execRefuseHoldoffEnd s
  | .grantWaitExpiry => Sys2Proof.Machine.execGrantWaitExpiry s
  | .flashingOpenA t => Sys2Proof.Machine.execFlashingOpenA t s
  | .flashingOpenB t => Sys2Proof.Machine.execFlashingOpenB t s
  | .autoFold t => Sys2Proof.Machine.execAutoFold t s
  | .foldFrame slot frame => Sys2Proof.Machine.execFoldFrame slot frame s
  | .unfold t => Sys2Proof.Machine.execUnfold t s
  | .carrierLoss pair => Sys2Proof.Machine.execCarrierLoss pair s
  | .frameForward pair what => Sys2Proof.Machine.execFrameForward pair what s
  | .bellFrame t frame offset => Sys2Proof.Machine.execBellFrame t frame offset s
  | .islandBellFrame t frame offset => Sys2Proof.Machine.execIslandBellFrame t frame offset s
  | .flywheelBell obs => Sys2Proof.Machine.execFlywheelBell obs s
  | .ridgeTimeout t => Sys2Proof.Machine.execRidgeTimeout t s
  | .islandBellEmit => Sys2Proof.Machine.execIslandBellEmit s
  | .syntonySwitch => Sys2Proof.Machine.execSyntonySwitch s
  | .syntonyLoss t why => Sys2Proof.Machine.execSyntonyLoss t why s
  | .clkCtrlWrite t data => Sys2Proof.Machine.execClkCtrlWrite t data s
  | .xtalFail t => Sys2Proof.Machine.execXtalFail t s
  | .xtalRecover => Sys2Proof.Machine.execXtalRecover s
  | .rootFail t why => Sys2Proof.Machine.execRootFail t why s
  | .rootRecover t => Sys2Proof.Machine.execRootRecover t s
  | .bellBoundary obs => Sys2Proof.Machine.execBellBoundary obs s
  | .leaseExpiry t => Sys2Proof.Machine.execLeaseExpiry t s
  | .sessionExpiry p => Sys2Proof.Machine.execSessionExpiry p s
  | .slotRequestA slot frame => Sys2Proof.Machine.execSlotRequestA slot frame s
  | .slotResponseB slot frame => Sys2Proof.Machine.execSlotResponseB slot frame s
  | .dataSubmit p queue desc => Sys2Proof.Machine.execDataSubmit p queue desc s
  | .dataCollect p queue newHead => Sys2Proof.Machine.execDataCollect p queue newHead s
  | .sessionOpen slot frame => Sys2Proof.Machine.execSessionOpen slot frame s
  | .ident slot frame => Sys2Proof.Machine.execIdent slot frame s
  | .traceGrant slot frame => Sys2Proof.Machine.execTraceGrant slot frame s
  | .enumRoll slot t frame => Sys2Proof.Machine.execEnumRoll slot t frame s
  | .rollReturn units => Sys2Proof.Machine.execRollReturn units s
  | .setDelay slot frame => Sys2Proof.Machine.execSetDelay slot frame s
  | .hostFrame t bits => Sys2Proof.Machine.execHostFrame t bits s
  | .frameAbort => Sys2Proof.Machine.execFrameAbort s
  | .registerWrite t addr data => Sys2Proof.Machine.execRegisterWrite t addr data s
  | .loLatchRead t addr => Sys2Proof.Machine.execLoLatchRead t addr s
  | .pageSel t data => Sys2Proof.Machine.execPageSel t data s
  | .doorbell t data => Sys2Proof.Machine.execDoorbell t data s
  | .cqPop t data => Sys2Proof.Machine.execCqPop t data s
  | .evqPop t data => Sys2Proof.Machine.execEvqPop t data s
  | .fuseCmdProgram t data => Sys2Proof.Machine.execFuseCmdProgram t data s
  | .fuseCmdRead t data => Sys2Proof.Machine.execFuseCmdRead t data s
  | .battenCommit n t data => Sys2Proof.Machine.execBattenCommit n t data s
  | .flashCtrlWrite t data => Sys2Proof.Machine.execFlashCtrlWrite t data s
  | .hostPitchWrite t data => Sys2Proof.Machine.execHostPitchWrite t data s
  | .tallySrcWrite t data => Sys2Proof.Machine.execTallySrcWrite t data s
  | .thermalLimitWrite t addr data => Sys2Proof.Machine.execThermalLimitWrite t addr data s
  | .rstNAssert => Sys2Proof.Machine.execRstNAssert s
  | .hostLoss => Sys2Proof.Machine.execHostLoss s
  | .rstNRelease => Sys2Proof.Machine.execRstNRelease s
  | .readBlock c => Sys2Proof.Machine.execReadBlock c s
  | .writeBatten c => Sys2Proof.Machine.execWriteBatten c s
  | .commitBatten c => Sys2Proof.Machine.execCommitBatten c s
  | .laneStart c => Sys2Proof.Machine.execLaneStart c s
  | .laneStop c => Sys2Proof.Machine.execLaneStop c s
  | .laneSetSpeed c => Sys2Proof.Machine.execLaneSetSpeed c s
  | .laneReverse c => Sys2Proof.Machine.execLaneReverse c s
  | .laneReseat c => Sys2Proof.Machine.execLaneReseat c s
  | .laneCalibrate c => Sys2Proof.Machine.execLaneCalibrate c s
  | .laneOffstateDiag c => Sys2Proof.Machine.execLaneOffstateDiag c s
  | .laneSelftest c => Sys2Proof.Machine.execLaneSelftest c s
  | .laneClearLatch c => Sys2Proof.Machine.execLaneClearLatch c s
  | .wheelLoadTableStage c => Sys2Proof.Machine.execWheelLoadTableStage c s
  | .wheelLoadTableSeat c => Sys2Proof.Machine.execWheelLoadTableSeat c s
  | .windowArm c => Sys2Proof.Machine.execWindowArm c s
  | .windowDisarm c => Sys2Proof.Machine.execWindowDisarm c s
  | .thermalQuery c => Sys2Proof.Machine.execThermalQuery c s
  | .fuseRead c => Sys2Proof.Machine.execFuseRead c s
  | .fuseProgramWord c => Sys2Proof.Machine.execFuseProgramWord c s
  | .lifecycleAdvance c => Sys2Proof.Machine.execLifecycleAdvance c s
  | .keyRoll c => Sys2Proof.Machine.execKeyRoll c s
  | .tallySnapshot c => Sys2Proof.Machine.execTallySnapshot c s
  | .traceConsentGrant c => Sys2Proof.Machine.execTraceConsentGrant c s
  | .traceConsentRevoke c => Sys2Proof.Machine.execTraceConsentRevoke c s
  | .traceConsentCountersign c => Sys2Proof.Machine.execTraceConsentCountersign c s
  | .leaseRenew c => Sys2Proof.Machine.execLeaseRenew c s
  | .benchHold c => Sys2Proof.Machine.execBenchHold c s
  | .benchRelease c => Sys2Proof.Machine.execBenchRelease c s
  | .assign c => Sys2Proof.Machine.execAssign c s
  | .reopen c => Sys2Proof.Machine.execReopen c s
  | .fuseWindowStart p => Sys2Proof.Machine.execFuseWindowStart p s
  | .fuseSupplyTimeout => Sys2Proof.Machine.execFuseSupplyTimeout s
  | .fusePulseEnd readback checkOk => Sys2Proof.Machine.execFusePulseEnd readback checkOk s
  | .fuseAbort => Sys2Proof.Machine.execFuseAbort s
  | .carrierBoundary n t => Sys2Proof.Machine.execCarrierBoundary n t s
  | .onPhaseEnd n t why => Sys2Proof.Machine.execOnPhaseEnd n t why s
  | .deadTimeEnd n k t => Sys2Proof.Machine.execDeadTimeEnd n k t s
  | .valleyDetect n t millivolts => Sys2Proof.Machine.execValleyDetect n t millivolts s
  | .bemfSample n t above => Sys2Proof.Machine.execBemfSample n t above s
  | .commutation n t => Sys2Proof.Machine.execCommutation n t s
  | .missedCrossing n t => Sys2Proof.Machine.execMissedCrossing n t s
  | .alignEnd n t => Sys2Proof.Machine.execAlignEnd n t s
  | .profileStep n t => Sys2Proof.Machine.execProfileStep n t s
  | .restart n t => Sys2Proof.Machine.execRestart n t s
  | .restartCountClear n => Sys2Proof.Machine.execRestartCountClear n s
  | .brakeEnd n t => Sys2Proof.Machine.execBrakeEnd n t s
  | .rampStopEnd n t => Sys2Proof.Machine.execRampStopEnd n t s
  | .bemfTransition n k t above => Sys2Proof.Machine.execBemfTransition n k t above s
  | .coastSpeedTimeout n => Sys2Proof.Machine.execCoastSpeedTimeout n s
  | .currentCapture n t => Sys2Proof.Machine.execCurrentCapture n t s
  | .comparatorAssert n cmp t out => Sys2Proof.Machine.execComparatorAssert n cmp t out s
  | .faultPinAssert pin t => Sys2Proof.Machine.execFaultPinAssert pin t s
  | .adcSlot adc slot oddFrame code => Sys2Proof.Machine.execAdcSlot adc slot oddFrame code s
  | .offsetMeasured n sum => Sys2Proof.Machine.execOffsetMeasured n sum s
  | .bulkWindowChange rail low high => Sys2Proof.Machine.execBulkWindowChange rail low high s
  | .gateFault n k kind t millivolts => Sys2Proof.Machine.execGateFault n k kind t millivolts s
  | .retryResume n t => Sys2Proof.Machine.execRetryResume n t s
  | .vgdFault t overVoltage => Sys2Proof.Machine.execVgdFault t overVoltage s
  | .vgdRecover t => Sys2Proof.Machine.execVgdRecover t s
  | .pinInputChange h pulse en t => Sys2Proof.Machine.execPinInputChange h pulse en t s
  | .diagStepEnd n u v w => Sys2Proof.Machine.execDiagStepEnd n u v w s
  | .selftestEnd n cmp vds => Sys2Proof.Machine.execSelftestEnd n cmp vds s
  | .wsLevelChange n level t => Sys2Proof.Machine.execWsLevelChange n level t s
  | .toothCommit n t => Sys2Proof.Machine.execToothCommit n t s
  | .toothWindowClose n t => Sys2Proof.Machine.execToothWindowClose n t s
  | .microTick n t => Sys2Proof.Machine.execMicroTick n t s
  | .standstill n => Sys2Proof.Machine.execStandstill n s
  | .wsOpen n => Sys2Proof.Machine.execWsOpen n s
  | .wsOpenClear n => Sys2Proof.Machine.execWsOpenClear n s
  | .wsShort n => Sys2Proof.Machine.execWsShort n s
  | .wsSupplyRetry n => Sys2Proof.Machine.execWsSupplyRetry n s
  | .wsHoldoffEnd n => Sys2Proof.Machine.execWsHoldoffEnd n s
  | .wsShortClear n => Sys2Proof.Machine.execWsShortClear n s
  | .sensorWarn n => Sys2Proof.Machine.execSensorWarn n s
  | .thermalConversion die raw => Sys2Proof.Machine.execThermalConversion die raw s
  | .thermalSample sensor t => Sys2Proof.Machine.execThermalSample sensor t s
  | .rateUpdate t => Sys2Proof.Machine.execRateUpdate t s
  | .tracePacketSend t => Sys2Proof.Machine.execTracePacketSend t s
  | .programmingSupplySettled => Sys2Proof.Machine.execProgrammingSupplySettled s
  | .carrierReturn pair => Sys2Proof.Machine.execCarrierReturn pair s
  | .codeViolation => Sys2Proof.Machine.execCodeViolation s
  | .faultPinRelease pin => Sys2Proof.Machine.execFaultPinRelease pin s

end Sys2Proof.Machine
end

