-- ==== Sys2Proof/Safety.lean ====
section
/-! DEFINITION. What counts as a safe state and a safe run: no half-bridge ever conducts through both switches, the fuse stores keep
their canonical form, and the owners of what no command may move stay as they are. -/

namespace Sys2Proof.Machine

/-- The two switches of a half-bridge conduct at once. -/
def HalfBridge.shootThrough (b : HalfBridge) : Prop := b.high = true ∧ b.low = true

/-- What the output chain keeps of a half-bridge (R340, R341): both sides are never on; a side is on only while it is the side wanted
last or while STRETCH keeps it on; only the side wanted last waits for its dead time, and then is off but for STRETCH; and the side
that DROP holds back is off and wanted last. -/
structure HalfBridge.Sound (b : HalfBridge) : Prop where
  one : ¬ b.shootThrough
  wanted : ∀ side, b.level side = true → b.cmd = some side ∨ b.late = some side
  waits : ∀ side, b.wait = some side → b.cmd = some side ∧ (b.level side = true → b.late = some side)
  held : b.young.isSome = true → b.wait = none ∧ ∃ side, b.cmd = some side ∧ b.level side = false

/-- Every half-bridge of a lane is sound. -/
def Lane.sound (l : Lane) : Prop := ∀ k : PhaseIx, (l.car.bridges[k]).Sound

/-- Every half-bridge of every lane is sound. -/
def State.bridgesSound (s : State) : Prop := ∀ n : LaneIx, (s.ln n).sound

/-- Both fuse stores are in canonical form: addresses strictly rising, no blank cell listed. -/
def State.fusesCanonical (s : State) : Prop := s.fuse.array.wf = true ∧ s.fuse.image.wf = true

/-- Queue group 0 belongs to P0 (R244), and no ASSIGN on its way to the next boundary names it (R249). -/
def State.groupZero (s : State) : Prop :=
  s.pit.own.group[(0 : Fin 16)] = some 0 ∧ ∀ m ∈ s.pit.moves, m.what ≠ .group 0

/-- A state whose every transition of the block keeps it so. -/
structure State.Safe (s : State) : Prop where
  bridges : s.bridgesSound
  fuses : s.fusesCanonical
  group : s.groupZero

/-- A run of the block is safe where it ends in a next state that is safe. -/
def safeRun (s : State) (k : Nat) : Prop :=
  match Host.Core.run Sys2Proof.core k s with
  | .next t => State.Safe t
  | .fault _ => False
  | .refused _ => False

/-! ### What a command leaves alone, and what an application records -/

/-- `t` differs from `s` only in lane `n`, in outcomes and events added to those that wait, and in the tallies and trace queues. -/
def State.laneOnly (n : LaneIx) (s t : State) : Prop :=
  t = { s with lane := t.lane, q := t.q, obs := t.obs } ∧
  t.q = { s.q with outcomes := t.q.outcomes, events := t.q.events } ∧
  t.obs = { s.obs with tally := t.obs.tally, queue := t.obs.queue, lostSince := t.obs.lostSince, lost := t.obs.lost } ∧
  s.q.outcomes <+: t.q.outcomes ∧ s.q.events <+: t.q.events ∧ ∀ m, n ≠ m → t.ln m = s.ln m

/-- An event of priority `rank` that comes at `t` acts at once: in its tick no fault latch fell, the input of lane `n` is free, no event
waits there, and none of the commands that wait brings one that goes before it (R371, R372). -/
def State.taskOpen (s : State) (n : LaneIx) (t : Ticks) (rank : Nat) : Prop :=
  let x := (s.ln n).car
  let t := x.edges.at t
  x.latchTick ≠ some t ∧ x.waiting = [] ∧ x.taskFree ≤ t ∧ s.outranked n t 1 = false ∧ s.outranked n t rank = false

/-- `t` differs from `s` only in tracker `n`, in the bursts of analogue inputs, in events added to those that wait, and in the tallies
and trace queues. -/
def State.trackerOnly (n : TrkIx) (s t : State) : Prop :=
  t = { s with ana := t.ana, trk := t.trk, q := t.q, obs := t.obs } ∧
  t.ana = { s.ana with burst := t.ana.burst, burstMissed := t.ana.burstMissed } ∧
  t.q = { s.q with events := t.q.events } ∧
  t.obs = { s.obs with tally := t.obs.tally, queue := t.obs.queue, lostSince := t.obs.lostSince, lost := t.obs.lost } ∧
  s.q.events <+: t.q.events ∧ ∀ m, n ≠ m → t.tk m = s.tk m

/-- Nothing before its effect refuses command `c` of opcode `o`: its queue group is its pitch's (R279), no bench hold (R326) and no
closure (R309) keeps it out, and the FLAGS bits that its opcode does not define are 0 (R308). -/
def State.admits (s : State) (c : Cmd) (o : Opcode) : Prop :=
  (c.door = .register ∨ s.ownsQueue c.pitch c.queue = true) ∧ (s.q.hold = false ∨ o.duringHold = true) ∧
  (s.dev.closed = false ∨ o.whileClosed = true) ∧ flagsFit c o = true

/-- The command that a row of opcode `o` applies, with the next order index of its pitch (R307). -/
def State.appliedAs (s : State) (o : Opcode) (c : Cmd) : Applied :=
  { cmd := Cmd.withOpcode c o, order := s.q.orderNext[c.pitch] }

/-- `s` once command `c` of opcode `o` is no longer waiting and has its order index. -/
def State.taken (s : State) (o : Opcode) (c : Cmd) : State :=
  { s with q := { s.q with
    orderNext := vmod s.q.orderNext c.pitch fun k => k + 1
    accepted := s.q.accepted.erase (Cmd.withOpcode c o) } }

/-- `u` with a completion of `a` on its way to the next boundary, and its ledger entry. -/
def State.answered (u : State) (a : Applied) (st : Byte) (r0 r1 r2 r3 : Word := 0) : State :=
  (u.finish a st r0 r1 r2 r3).ledgerWrite a st

end Sys2Proof.Machine
end

