-- ==== Sys2Proof/WellFormed.lean ====
section
/-! DEFINITION. When a command is one that its row can bring: the operands lie in the ranges the spec gives them. A meaning does
not rest on these checks; it is total on every operand. -/

namespace Sys2Proof

open Sys2Proof.Machine

/-- Why a command is none that its row can bring. -/
inductive Flaw where
  /-- KEY_SLOT_SELECT names a slot above 63 = 8 x 7 + 7 (R152). -/
  | slotNumber
  /-- The GRANT of INSERT_GRANT has a class byte above 3 (R219). -/
  | powerClass
  /-- The frame's TYPE is not the row's (chapter 07, *Slot header*). -/
  | frameType
  /-- Byte 0 of the frame's payload is not the row's operation (chapter 07, *INSERT payload*, *ENUM payload*). -/
  | frameKind
  /-- The BELL frame of ISLAND_BELL_FRAME has FLAGS.ISLAND at 0 (chapter 07, *The BELL frame*). -/
  | islandFlag
  /-- The descriptor's OPCODE is not the row's (R327). -/
  | opcode
  /-- The descriptor's operation, word 3 [15:14], is not the row's (chapters 14 and 17). -/
  | operation
  /-- The FUSE_CMD data does not name the row's operation under its guard (R162). -/
  | fuseGuard
  /-- THERMAL_LIMIT_WRITE names none of the four limit registers of page 0xD (R559). -/
  | limitAddress
  /-- The sum of 64 samples exceeds 64 x 4095 (R398). -/
  | sampleSum
  /-- A rail is both below its LOW and above its HIGH threshold (R407). -/
  | bothLimits
  deriving DecidableEq, Repr

/-- A flaw where a check fails. -/
def flawIf (bad : Bool) (f : Flaw) : Option Flaw := if bad then some f else none

/-- A frame of TYPE `k`. -/
def frameFlaw (f : Frame) (k : Nat) : Option Flaw := flawIf (f.type.toNat != k) .frameType

/-- A frame of TYPE `k` with payload byte 0 at `op`. -/
def kindFlaw (f : Frame) (k : Nat) (op : Byte) : Option Flaw :=
  match frameFlaw f k with
  | some x => some x
  | none => flawIf (f.byte 0 != op) .frameKind

/-- A GRANT with a class. -/
def grantFlaw (f : Frame) : Option Flaw :=
  match kindFlaw f 3 3 with
  | some x => some x
  | none => flawIf (decide (4 ≤ (f.byte 9).toNat)) .powerClass

/-- A descriptor of an opcode. -/
def opcodeFlaw (c : Cmd) (o : Opcode) : Option Flaw := flawIf (c.desc.opcode != o.code) .opcode

/-- A descriptor of an opcode and an operation in word 3 [15:14]. -/
def operationFlaw (c : Cmd) (o : Opcode) (op : Nat) : Option Flaw :=
  match opcodeFlaw c o with
  | some f => some f
  | none => flawIf (bits c.desc.w3 14 2 != op) .operation

/-- A FUSE_CMD write of an operation under its guard. -/
def guardFlaw (d : Word) (op : Nat) : Option Flaw := flawIf (bits d 8 8 != 0xA6 || bits d 0 2 != op) .fuseGuard

/-- The first flaw of a command, if any. -/
def Instr.flaw : Instr → Option Flaw
  | .keySlotSelect weak => flawIf (weak.any fun k => decide (64 ≤ k)) .slotNumber
  | .insertOffer _ f _ => kindFlaw f 3 1
  | .insertRequestAtFold _ f _ => kindFlaw f 3 2
  | .insertGrant _ f => grantFlaw f
  | .insertRefuse _ _ f => kindFlaw f 3 4
  | .foldFrame _ f => frameFlaw f 4
  | .islandBellFrame _ f _ => flawIf (!bit f.payload 24) .islandFlag
  | .enumRoll _ _ f => kindFlaw f 2 1
  | .setDelay _ f => kindFlaw f 2 2
  | .sessionOpen _ f => frameFlaw f 6
  | .ident _ f => frameFlaw f 5
  | .traceGrant _ f => frameFlaw f 8
  | .fuseCmdProgram _ d => guardFlaw d 2
  | .fuseCmdRead _ d => guardFlaw d 1
  | .thermalLimitWrite _ a _ => flawIf (!decide (0x30 ≤ a.toNat ∧ a.toNat ≤ 0x33)) .limitAddress
  | .offsetMeasured _ x => flawIf (decide (64 * 4095 < x)) .sampleSum
  | .bulkWindowChange _ low high => flawIf (low && high) .bothLimits
  | .readBlock c => opcodeFlaw c .readBlock
  | .writeBatten c => opcodeFlaw c .writeBatten
  | .commitBatten c => opcodeFlaw c .commitBatten
  | .laneStart c => opcodeFlaw c .laneStart
  | .laneStop c => opcodeFlaw c .laneStop
  | .laneSetSpeed c => opcodeFlaw c .laneSetSpeed
  | .laneReverse c => opcodeFlaw c .laneReverse
  | .laneReseat c => opcodeFlaw c .laneReseat
  | .laneCalibrate c => opcodeFlaw c .laneCalibrate
  | .laneOffstateDiag c => opcodeFlaw c .laneOffstateDiag
  | .laneSelftest c => opcodeFlaw c .laneSelftest
  | .laneClearLatch c => opcodeFlaw c .laneClearLatch
  | .wheelLoadTableStage c => operationFlaw c .wheelLoadTable 0
  | .wheelLoadTableSeat c => operationFlaw c .wheelLoadTable 1
  | .windowArm c => opcodeFlaw c .windowArm
  | .windowDisarm c => opcodeFlaw c .windowDisarm
  | .thermalQuery c => opcodeFlaw c .thermalQuery
  | .fuseRead c => opcodeFlaw c .fuseRead
  | .fuseProgramWord c => opcodeFlaw c .fuseProgramWord
  | .lifecycleAdvance c => opcodeFlaw c .lifecycleAdvance
  | .keyRoll c => opcodeFlaw c .keyRoll
  | .tallySnapshot c => opcodeFlaw c .tallySnapshot
  | .traceConsentGrant c => operationFlaw c .traceConsent 0
  | .traceConsentRevoke c => operationFlaw c .traceConsent 1
  | .traceConsentCountersign c => operationFlaw c .traceConsent 2
  | .leaseRenew c => opcodeFlaw c .leaseRenew
  | .benchHold c => opcodeFlaw c .benchHold
  | .benchRelease c => opcodeFlaw c .benchRelease
  | .assign c => opcodeFlaw c .assign
  | .reopen c => opcodeFlaw c .reopen
  | .lit _ | .powerReset _ | .watchCheckReset _ _ | .monitorChallenge | .safetyMonitorReset _ | .resetRelease _ _
  | .fuseSenseDone | .settled _ | .seeded _ _ | .seedSlow _ | .healthTestFail _ _ | .drbgReseed _ _ | .lineGood _
  | .lineLossDeclared _ | .holdupAbort _ | .lineOvWarn _ | .lineOvClear | .lineOvStop _ | .lineOvStopClear
  | .holdCapMeasured _ | .overdrawSet _ | .overdrawClear | .beyondFoldDetect | .refuseHoldoffEnd | .grantWaitExpiry
  | .flashingOpenA _ | .flashingOpenB _ | .autoFold _ | .unfold _ | .carrierLoss _ | .frameForward _ _ | .bellFrame _ _ _
  | .flywheelBell _ | .ridgeTimeout _ | .islandBellEmit | .syntonySwitch | .syntonyLoss _ _ | .clkCtrlWrite _ _ | .xtalFail _
  | .xtalRecover | .rootFail _ _ | .rootRecover _ | .bellBoundary _ | .leaseExpiry _ | .sessionExpiry _ | .slotRequestA _ _
  | .slotResponseB _ _ | .dataSubmit _ _ _ | .dataCollect _ _ _ | .rollReturn _ | .hostFrame _ _ | .frameAbort
  | .registerWrite _ _ _ | .loLatchRead _ _ | .pageSel _ _ | .doorbell _ _ | .cqPop _ _ | .evqPop _ _ | .battenCommit _ _ _
  | .flashCtrlWrite _ _ | .hostPitchWrite _ _ | .tallySrcWrite _ _ | .rstNAssert | .hostLoss | .rstNRelease
  | .fuseWindowStart _ | .fuseSupplyTimeout | .fusePulseEnd _ _ | .fuseAbort | .carrierBoundary _ _ | .onPhaseEnd _ _ _
  | .deadTimeEnd _ _ _ | .valleyDetect _ _ _ | .bemfSample _ _ _ | .commutation _ _ | .missedCrossing _ _ | .alignEnd _ _
  | .profileStep _ _ | .restart _ _ | .restartCountClear _ | .brakeEnd _ _ | .rampStopEnd _ _ | .bemfTransition _ _ _ _
  | .coastSpeedTimeout _ | .currentCapture _ _ | .comparatorAssert _ _ _ _ | .faultPinAssert _ _ | .adcSlot _ _ _ _
  | .gateFault _ _ _ _ _ | .retryResume _ _ | .vgdFault _ _ | .vgdRecover _ | .pinInputChange _ _ _ _ | .diagStepEnd _ _ _ _
  | .selftestEnd _ _ _ | .wsLevelChange _ _ _ | .toothCommit _ _ | .toothWindowClose _ _ | .microTick _ _ | .standstill _
  | .wsOpen _ | .wsOpenClear _ | .wsShort _ | .wsSupplyRetry _ | .wsHoldoffEnd _ | .wsShortClear _ | .sensorWarn _
  | .thermalConversion _ _ | .thermalSample _ _ | .rateUpdate _ | .tracePacketSend _ | .programmingSupplySettled
  | .carrierReturn _ | .codeViolation | .faultPinRelease _ => none

/-- A command that its row can bring. -/
def Instr.wf (i : Instr) : Bool := i.flaw.isNone

end Sys2Proof
end

