-- ==== Sys2Proof/Certificates/Slice0/Obligations.lean ====
section
/-! DEFINITION. The statements to be proved about the model, each with the rules it rests on. -/

open Sys2Proof Sys2Proof.Machine

/-- Step of a state whose queue begins with c is exec of c on that state with the queue's rest; with nothing waiting the block idles and
answers the same state (the idling is the model's choice, log entry 1). -/
def Obligations.StepRunsFrontCommand : Prop :=
  (∀ (c : Instr) (rest : List Instr) (s : State), step { s with pending := c :: rest } = exec c { s with pending := rest }) ∧
  ∀ s : State, s.pending = [] → step s = .next s

/-- A power reset completes with every register at its reset value and RESET_CAUSE reading only POWER. A WATCH-check reset (out of reset
with a good root; both windows off the WATCH check of R94, and not both off the root's, as a good crystal shows) and a safety-monitor
reset (from SETTLED, a challenge out) complete with every register at its reset value but RESET_CAUSE, which keeps its bits and gains
its own, and HOLD_CAP, which keeps its value; the device then waits for RESET_RELEASE. Each of the three leaves every object parked but
queue group 0, which P0 owns (R243), as State.reset does. What is no register stays: the commands that wait, the instant, which is that
of the reset, the level of RST_N, since when each lane stands still, and the fuse cells, a word in progress left partly programmed
(which of its bits are set is the model's choice, log entry 76). MONITOR_CHALLENGE notes that a challenge is out and changes nothing
else. R94's comparison by counts is the model's reading (log entry 49). -/
def Obligations.DeviceResetsKeepOnlyCauseAndHoldCap : Prop :=
  let fresh (s : State) (cause holdCap : Word) (wait : Bool) : State :=
    { pending := s.pending, now := s.now, dev := { resetCause := cause, resetWait := wait, resetAt := s.now }, pwr := { holdCap := holdCap }
      host := { rstLow := s.host.rstLow }
      fuse := { array := s.leavePartial.fuse.array, image := s.leavePartial.fuse.array }
      lane := Vector.ofFn fun n => { ops := {
        stoppedAt := if (s.ln n).com.state = .stopped then (s.ln n).ops.stoppedAt else s.now } } }
  let watchBad (count : Nat) : Prop := 25600 < 92 * count ∨ 108 * count < 25600
  let rootBad (count : Nat) : Prop := count < 218 ∨ 294 < count
  let xtalGood (khz : Nat) : Prop := 18400 ≤ khz ∧ khz ≤ 21600
  let parked (o : Owners) : Prop :=
    (∀ i : LaneIx, o.lane[i] = none) ∧ (∀ i : TrkIx, o.wheel[i] = none) ∧ (∀ i : TrkIx, o.win[i] = none) ∧
    (∀ i : AinIx, o.ain[i] = none) ∧ (∀ i : TallyIx, o.tally[i] = none) ∧ o.group[(0 : Fin 16)] = some 0 ∧
    ∀ g : Fin 16, g ≠ 0 → o.group[g] = none
  parked State.reset.pit.own ∧
  (∀ (s : State) (t : Ticks),
    let u := fresh { s with now := max s.now t } 0x0001 0 false
    exec (.powerReset t) s = .next u ∧ parked u.pit.own) ∧
  (∀ (s : State) (t : Ticks) (w : ClockWindows), s.alive = true → s.clk.rootOk = true → watchBad w.root1 → watchBad w.root2 →
    ¬ (rootBad w.root1 ∧ rootBad w.root2 ∧ s.clk.xtalOk = true ∧ xtalGood w.xtal1 ∧ xtalGood w.xtal2) →
    let u := fresh (s.lanesTick t) (s.dev.resetCause ||| 0x0002) s.pwr.holdCap true
    exec (.watchCheckReset t w) s = .next u ∧ parked u.pit.own) ∧
  (∀ (s : State) (t : Ticks), s.atSettled = true → s.dev.challenge = true →
    let u := fresh { s with now := max s.now t } (s.dev.resetCause ||| 0x0004) s.pwr.holdCap true
    exec (.safetyMonitorReset t) s = .next u ∧ parked u.pit.own) ∧
  ∀ s : State, s.atSettled = true → exec .monitorChallenge s = .next { s with dev := { s.dev with challenge := true } }

/-- 20 us or more after the device entered reset, and not before, LIT below LIT enters LIT; then too, after a WATCH-check or
safety-monitor reset, RESET_RELEASE enters LIT where the hold rail stands, and is a power reset where it does not. In LIT,
FUSE_SENSE_DONE completes in SENSED with the fuse image, trims, configuration words, life cycle and critical-word verdict taken from the
array, the host pitch, class request and lease length from the configuration, and in each lane the policy default and the factory offset
scaled to the gain in force. In SENSED, SETTLED enters SETTLED with the PLL locked, the root good and the instant noted, the VGD buck
running where LINE_OK is 1 without an over-voltage stop, and XTAL_OK at 1 (when it first becomes 1 is the model's choice, log entry 42).
From SETTLED with the keys not yet selected, KEY_SLOT_SELECT completes with each pitch's active slot and KEYS_DONE, and enters SEEDED
exactly where the device is JOINED with a healthy DRBG. Nothing else changes but the present instant. -/
def Obligations.LadderClimbsAndSenseFixesConfiguration : Prop :=
  (∀ (s : State) (t : Ticks), s.dev.power = Power.dark → s.dev.resetWait = false → s.dev.resetAt + 3200 ≤ t →
    exec (.lit t) s = .next { s with now := max s.now t, dev := { s.dev with power := .lit } }) ∧
  (∀ (s : State) (t : Ticks), s.dev.resetWait = true → s.dev.resetAt + 3200 ≤ t →
    exec (.resetRelease t true) s = .next { s with now := max s.now t, dev := { s.dev with power := .lit, resetWait := false } }) ∧
  (∀ (s : State) (t : Ticks), s.dev.resetWait = true → s.dev.resetAt + 3200 ≤ t →
    exec (.resetRelease t false) s = exec (.powerReset t) s) ∧
  (∀ (s : State) (t : Ticks) (up : Bool), t < s.dev.resetAt + 3200 →
    exec (.lit t) s = .next s ∧ exec (.resetRelease t up) s = .next s) ∧
  (∀ (s : State) (t : Ticks), s.dev.power = Power.sensed →
    exec (.settled t) s = .next { s with
      now := max s.now t
      dev := { s.dev with power := .settled, settledAt := t }
      clk := { s.clk with pllLock := true, xtalOk := true, rootOk := true }
      pwr := { s.pwr with buckOn := s.pwr.buckOn || (s.pwr.lineOk && !s.pwr.ovStop) } }) ∧
  (∀ s : State, s.dev.power = Power.lit → ∃ u : State, exec .fuseSenseDone s = .next u ∧
    u = { s with dev := { s.dev with power := .sensed }, fuse := u.fuse, pit := { s.pit with hostPitch := u.pit.hostPitch }
                 pwr := { s.pwr with request := BitVec.ofNat 2 (bits (sensedConfig s.fuse.array 0x100) 12 2) }
                 host := { s.host with leaseLen := u.host.leaseLen }, lane := u.lane } ∧
    u.fuse = { s.fuse with
      image := s.fuse.array, lifecycle := lifeCycleOf s.fuse.array, trims := Vector.ofFn fun i => sensedTrim s.fuse.array i.val
      cfg100 := sensedConfig s.fuse.array 0x100, cfg101 := sensedConfig s.fuse.array 0x101
      cfg102 := sensedConfig s.fuse.array 0x102, senseDone := true, critFail := senseFails s.fuse.array } ∧
    u.pit.hostPitch.val = bits (sensedConfig s.fuse.array 0x100) 9 3 ∧
    u.host.leaseLen.toNat = max 1 (bits (sensedConfig s.fuse.array 0x102) 0 8) ∧
    ∀ n : LaneIx, u.ln n = { s.ln n with
      car := { (s.ln n).car with policy := policyDefault u.fuse.cfg101 n, policyShadow := policyDefault u.fuse.cfg101 n }
      sense := { (s.ln n).sense with offset := u.factoryOffset n (s.ln n).sense.set.live.gain } }) ∧
  ∀ (s : State) (weak : List Nat), s.atSettled = true → s.fuse.keysDone = false →
    let enters := s.dev.power = Power.joined ∧ s.pit.drbgHealthy = true
    exec (.keySlotSelect weak) s = .next { s with
      fuse := { s.fuse with
        weak := weak, keyActive := Vector.ofFn fun p => activeSlot s.fuse.image s.serial weak p.val, keysDone := true }
      dev := { s.dev with
        power := if enters then .seeded else s.dev.power
        seedTime := if enters then satNat 16 ((s.now - s.dev.settledAt) / 16000) else s.dev.seedTime }
      pit := { s.pit with seededOnce := s.pit.seededOnce || decide enters } }

/-- The raw bits of SEEDED, HEALTH_TEST_FAIL and DRBG_RESEED are taken one after another from SETTLED; v is the state before the last
one, b. Where b makes 41 identical bits in a row the repetition-count test fails, and where it is the 795th occurrence of the first bit
of the present window of 1024 the adaptive-proportion test does, each setting its bit of DRBG_EVENT (R264). A failed test completes with
the pool and the DRBG gone and both tests and the 4096 start-up bits begun again (R265); after SEEDED it also drops every ring session
in force or answered, sets RESEED_SEEN and returns the state to JOINED, ready to seed again, and nothing else changes: queues, ledgers,
accepted commands, lanes, trackers, the market's closure and the host port stay (R175). Where b passes and completes a pool of 1024
after the start-up bits, the DRBG is instantiated or reseeded from it (its seed material is free, log entry 3) and the device enters
SEEDED exactly where it is JOINED with its keys selected. SEED_SLOW is noted 60 ms after SETTLED where SEEDED has never been reached,
and not before or after; DRBG_RESEED of a healthy DRBG begins a fresh pool, its raw bits taken as those of SEEDED. -/
def Obligations.SeedingAndHealthTestsDriveSeeded : Prop :=
  let before (s : State) (t : Ticks) (bs : List Bool) : State := bs.foldl State.rawBit { s with now := max s.now t }
  let lost (v : State) (m : Word) : Pitches := { v.pit with
    entropy := {}, drbg := none, drbgHealthy := false, drbgReseeding := v.pit.seededOnce
    drbgEvent := v.pit.drbgEvent ||| m, fresh := v.pit.fresh.set v.now m }
  let failed (v : State) (m : Word) : State :=
    if v.pit.seededOnce then { v with
      pit := { lost v m with session := Vector.replicate 8 none, sessionNext := Vector.replicate 8 none }
      dev := { v.dev with power := .joined, devEvent := v.dev.devEvent ||| 0x0002, fresh := v.dev.fresh.set v.now 0x0002 } }
    else { v with pit := lost v m }
  (∀ (s : State) (t : Ticks) (bs : List Bool) (b : Bool), s.atSettled = true →
    let v := before s t bs
    let e := v.pit.entropy
    let rct := e.rctBit = b ∧ e.rctRun = 40
    let apt := 1 ≤ e.aptSeen ∧ e.aptSeen < 1024 ∧ e.aptBit = b ∧ e.aptSame = 794
    (rct ∨ apt) → exec (.healthTestFail t (bs ++ [b])) s = .next (failed v
      ((if rct then 0x0001 else 0) ||| if apt then 0x0002 else 0))) ∧
  (∀ (s : State) (t : Ticks) (bs : List Bool) (b : Bool) (e : Entropy), s.atSettled = true →
    let v := before s t bs
    v.pit.entropy.test b = (e, false, false) → 4096 ≤ e.startup → (v.pit.drbgHealthy = false ∨ v.pit.drbgReseeding = true) →
    e.pool.length = 1023 →
    let enters := v.dev.power = Power.joined ∧ v.fuse.keysDone = true
    exec (.seeded t (bs ++ [b])) s = .next { v with
      dev := { v.dev with
        power := if enters then .seeded else v.dev.power
        seedTime := if enters then satNat 16 ((v.now - v.dev.settledAt) / 16000) else v.dev.seedTime }
      pit := { v.pit with
        drbg := some (Drbg.seed v.pit.drbg (Config.seedMaterial v.pit.seedings (b :: e.pool).reverse))
        seedings := v.pit.seedings + 1, drbgHealthy := true, drbgReseeding := false, seededAt := v.bell.bellNo
        entropy := { e with pool := [] }, seededOnce := v.pit.seededOnce || decide enters } }) ∧
  (∀ (s : State) (t : Ticks), s.atSettled = true → s.pit.seededOnce = false → s.dev.settledAt + 9600000 ≤ t →
    exec (.seedSlow t) s = .next { s with now := max s.now t, dev := { s.dev with seedSlow := true } }) ∧
  (∀ (s : State) (t : Ticks), (s.pit.seededOnce = true ∨ t < s.dev.settledAt + 9600000) → exec (.seedSlow t) s = .next s) ∧
  ∀ (s : State) (t : Ticks), s.atSettled = true → s.pit.drbgHealthy = true →
    let u := { s with pit := { s.pit with drbgReseeding := true } }
    exec (.drbgReseed t []) s = .next { u with now := max s.now t } ∧
    ∀ raw : List Bool, exec (.drbgReseed t raw) s = exec (.seeded t raw) u

/-- Out of reset, the over-voltage warning sets LINE_OV and its event bit, and its clearing clears LINE_OV; the end of an over-voltage
stop clears it and lets the buck run from SETTLED with LINE_OK at 1; a charge measured gives HOLD_CAP in uF up to 2000, rounded down
(the rounding is the model's choice, log entry 37); OVERDRAW sets with its event bit after 8 bells over the class, and clears after 8
bells under it. LINE_GOOD completes with LINE_OK at 1, no orderly stop watched, and the buck running from SETTLED without an
over-voltage stop; in every lane the safe levels that an aborted orderly stop forced have ended (that they end here is the model's
reading, log entry 30), and its commutation state, latch and registers stay. Nothing else changes, but for the events that waited at a
lane's task input for a tick now past. -/
def Obligations.LinePowerWatchersReport : Prop :=
  let event (x : PowerLine) (now : Ticks) (m : Word) : PowerLine := { x with pwrEvent := x.pwrEvent ||| m, fresh := x.fresh.set now m }
  (∀ (s : State) (t : Ticks), s.alive = true →
    exec (.lineOvWarn t) s = .next { s with
      now := max s.now t, pwr := event { s.pwr with lineOv := true } (max s.now t) 0x0002 }) ∧
  (∀ s : State, exec .lineOvClear s = .next { s with pwr := { s.pwr with lineOv := false } }) ∧
  (∀ s : State, exec .lineOvStopClear s = .next { s with pwr := { s.pwr with
    ovStop := false, buckOn := s.pwr.buckOn || (s.atSettled && s.pwr.lineOk) } }) ∧
  (∀ (s : State) (q : Nat), s.alive = true →
    exec (.holdCapMeasured q) s = .next { s with pwr := { s.pwr with holdCap := word (min 2000 (q / 500)) } }) ∧
  (∀ (s : State) (t : Ticks), 8 ≤ s.pwr.overRun →
    exec (.overdrawSet t) s = .next { s with
      now := max s.now t, pwr := event { s.pwr with overdraw := true } (max s.now t) 0x0004 }) ∧
  (∀ s : State, 8 ≤ s.pwr.underRun → exec .overdrawClear s = .next { s with pwr := { s.pwr with overdraw := false } }) ∧
  ∀ (s : State) (t : Ticks), s.alive = true →
    let v := s.lanesTick t
    ∃ u : State, exec (.lineGood t) s = .next u ∧
    u = { v with lane := u.lane, pwr := { s.pwr with
      lineOk := true, orderly := false, buckOn := s.pwr.buckOn || (s.atSettled && !s.pwr.ovStop) }, obs := u.obs } ∧
    ∀ n : LaneIx, (u.ln n).latch = { (v.ln n).latch with safeLine := false } ∧ (u.ln n).com = (v.ln n).com ∧
      (u.ln n).car.set = (v.ln n).car.set ∧ (u.ln n).car.mask = (v.ln n).car.mask ∧ (u.ln n).ops = (v.ln n).ops ∧
      ((v.ln n).latch.safeLine = false → u.ln n = v.ln n)

/-- With LINE_OK at 1, LINE_LOSS_DECLARED completes with LINE_OK at 0, its event bit set and an INSERT handshake in progress abandoned.
Where the device is JOINED and the last computed holdup time is 40 ms or more, every running lane is STOPPING or STOPPED, the retry wait
of a lane that does not run ends (R474), no other lane changes, and the orderly stop is watched. Elsewhere a JOINED device declares
LINE_COLLAPSE. Where that cause had not arisen it has now, and every lane is STOPPED; where no cause had arisen the market closes, for
LINE_COLLAPSE and in this epoch. A LINE_COLLAPSE that had arisen before is not reported again and a REOPEN that has passed its checks
stands (both the model's reading, log entries 28 and 29): only the loss shows. A device not JOINED only shows the loss. v is the state
once the events that waited at a lane's task input for a tick now past have acted. -/
def Obligations.LineLossStopsOrClosesEveryLane : Prop :=
  let shown (s : State) (orderly : Bool) : State := { s with
    pwr := { s.pwr with
      lineOk := false, orderly := orderly, pwrEvent := s.pwr.pwrEvent ||| 0x0001, fresh := s.pwr.fresh.set s.now 0x0001 }
    ring := { s.ring with
      insertPending := false, answered := none, grant := none, aOpen := s.ring.aOpen && s.ring.inserted } }
  (∀ (s : State) (t : Ticks), s.pwr.lineOk = true → s.holdsUp = true →
    let v := s.lanesTick t
    ∃ u : State, exec (.lineLossDeclared t) s = .next u ∧
    u = { shown v true with lane := u.lane, q := u.q, obs := u.obs } ∧
    ∀ n : LaneIx,
      ((v.ln n).running = true → (u.ln n).com.state = .stopping ∨ (u.ln n).com.state = .stopped) ∧
      ((v.ln n).running = false → (v.ln n).gate.waiting = true → (u.ln n).gate.waiting = false) ∧
      ((v.ln n).running = false → (v.ln n).gate.waiting = false → u.ln n = v.ln n)) ∧
  (∀ (s : State) (t : Ticks), s.pwr.lineOk = true → s.holdsUp = false → s.atJoined = true → bit s.dev.arisen 1 = false →
    let v := shown (s.lanesTick t) s.pwr.orderly
    ∃ u : State, exec (.lineLossDeclared t) s = .next u ∧ u.pwr = v.pwr ∧ u.ring = v.ring ∧ u.now = max s.now t ∧ bit u.dev.arisen 1 = true ∧
      u.dev.reopenNext = s.dev.reopenNext ∧
      (s.dev.arisen = 0 → u.dev.closed = true ∧ u.dev.closeFirst = 2 ∧ u.dev.closeEpoch = s.bell.epoch) ∧
      ∀ n : LaneIx, (u.ln n).com.state = .stopped) ∧
  (∀ (s : State) (t : Ticks), s.pwr.lineOk = true → s.holdsUp = false →
    (s.atJoined = true → bit s.dev.arisen 1 = true) →
    exec (.lineLossDeclared t) s = .next (shown (s.lanesTick t) s.pwr.orderly))

/-- While an orderly stop for line loss is watched, HOLDUP_ABORT completes with its event bit set, every STOPPING lane STOPPED at its
safe levels, its owner told LINE_LOSS with word 4 at 1 (R70), and every other lane unchanged; that the stop stays watched until
LINE_GOOD, once every lane has stopped too, is the model's choice (log entry 36). Out of reset, LINE_OV_STOP completes with the
over-voltage stop asserting, the VGD buck off, every running lane latched, with LATCH_SRC 0x60 and STOPPED where its latch was clear,
and every other lane unchanged. -/
def Obligations.HoldupAbortAndOverVoltageStopLanes : Prop :=
  (∀ (s : State) (t : Ticks), s.pwr.orderly = true →
    let v := s.lanesTick t
    ∃ u : State, exec (.holdupAbort t) s = .next u ∧
    u = { v with
      pwr := { s.pwr with pwrEvent := s.pwr.pwrEvent ||| 0x0008, fresh := s.pwr.fresh.set (max s.now t) 0x0008 }
      lane := u.lane, q := u.q, obs := u.obs } ∧
    ∀ n : LaneIx, if (v.ln n).com.state = .stopping then
        (u.ln n).com.state = .stopped ∧ (u.ln n).latch.safeLine = true ∧
        ∀ p : Pitch, s.laneOwner n = some p →
          ({ pitch := p, entry := s.eventEntry 0x01 n.val 0x01 1 0 0 0 } : EventOut) ∈ u.q.events
      else u.ln n = v.ln n) ∧
  ∀ (s : State) (t : Ticks), s.alive = true →
    let v := s.lanesTick t
    ∃ u : State, exec (.lineOvStop t) s = .next u ∧
    u = { v with pwr := { s.pwr with ovStop := true, buckOn := false }, lane := u.lane, q := u.q, obs := u.obs } ∧
    ∀ n : LaneIx, if (v.ln n).running then
        (u.ln n).latch.latched = true ∧
        ((v.ln n).latch.latched = false → (u.ln n).latch.src = 0x60 ∧ (u.ln n).com.state = .stopped)
      else u.ln n = v.ln n

/-- A candidate that waits for nothing answers a good OFFER in slots 1 to 34 with its REQUEST and waits: beyond the fold at once, before
it in the returning slot where RESP is 0; where RESP is 1 it forwards that slot unchanged. In a cycle that an ISLAND bell opened it
answers no OFFER (R239). The REQUEST is a good INSERT frame of 14 payload bytes, TAKEN and RESP set and no reserved bit, that holds the
serial number, the class and the MEMBER word (its DEST, PITCH and SEQ are free, log entry 32). An inserted fold node that is not ridge
node listens in that slot, and a REQUEST that arrives there within 28 us takes the slot, while a ridge node's slots stay idle (R238); a
GRANT of its serial number 2 to 16 bells ahead is held; a REFUSE abandons the handshake, starts 1000 bells of hold-off and sets its
event bit; the hold-off ends; an answer without a GRANT after 8 bells is given up; BEYOND_FOLD_DETECT sets BEYOND_FOLD. Only the ring
port changes. -/
def Obligations.InsertHandshakeTakesItsSteps : Prop :=
  let good (f : Frame) (kind : Byte) : Prop :=
    frameOk f = true ∧ frameNobody f = false ∧ (Frame.type f).toNat = 3 ∧ f.byte 0 = kind
  let open_ (slot : Fin 36) : Prop := slot.val ≠ 0 ∧ slot.val ≠ 35
  let waits (s : State) : Prop := s.candidate = true ∧ s.ring.answered = none ∧ s.ring.grant = none
  (∀ (s : State) (slot : Fin 36) (offer back : Frame), open_ slot → good offer 1 → s.ring.inserted = false → waits s →
    s.ring.islandCycle = false → (s.ring.beyondFold = true ∨ (s.ring.carrierB = true ∧ Frame.resp back = false)) →
    exec (.insertOffer slot offer back) s = .next { s with ring := { s.ring with
      crcB := if s.ring.beyondFold = true ∨ frameOk back = true then s.ring.crcB else satInc s.ring.crcB
      bOut := some { slot := slot.val, frame := s.requestFrame slot }, insertPending := true, answered := some 0 } }) ∧
  (∀ (s : State) (slot : Fin 36) (offer back : Frame), open_ slot → good offer 1 → s.ring.inserted = false → waits s →
    s.ring.islandCycle = false → s.ring.beyondFold = false → s.ring.carrierB = true → Frame.resp back = true → frameOk back = true →
    exec (.insertOffer slot offer back) s = .next { s with ring := { s.ring with
      bOut := some { slot := slot.val, frame := back } } }) ∧
  (∀ (s : State) (slot : Fin 36) (offer back : Frame), frameOk offer = true → s.ring.inserted = false → s.ring.islandCycle = true →
    exec (.insertOffer slot offer back) s = .next s) ∧
  (∀ (s : State) (slot : Fin 36),
    let g := s.requestFrame slot
    good g 2 ∧ Frame.len g = 14 ∧ Frame.reserved g = 0 ∧ Frame.taken g = true ∧ Frame.resp g = true ∧
    Frame.field g 1 8 = s.serial.toNat ∧ Frame.field g 10 4 = s.member.toNat ∧
    (g.byte 9).toNat = if s.pwr.request = 0 then 1 else s.pwr.request.toNat) ∧
  (∀ (s : State) (slot : Fin 36) (offer back : Frame), open_ slot → good offer 1 → s.ring.inserted = true → s.ring.folded = true →
    exec (.insertOffer slot offer back) s = .next { s with ring := { s.ring with
      aOut := if s.bell.ridge then none else some { slot := slot.val, frame := offer }
      bOut := if s.bell.ridge then none else some { slot := slot.val, frame := offer }
      foldOffer := if s.bell.ridge then s.ring.foldOffer else some slot } }) ∧
  (∀ (s : State) (slot : Fin 36) (f : Frame) (nanos : Nat), s.ring.folded = true → s.ring.foldOffer = some slot → nanos ≤ 28000 →
    let crcB := if frameOk f = true ∨ s.atSettled = false then s.ring.crcB else satInc s.ring.crcB
    exec (.insertRequestAtFold slot f nanos) s = .next { s with
      ring := if s.bell.ridge then { s.ring with crcB := crcB }
        else { s.ring with crcB := crcB, bOut := some { slot := slot.val, frame := f }, foldOffer := none } }) ∧
  (∀ (s : State) (slot : Fin 36) (f : Frame), s.candidate = true → good f 3 → f.field 1 8 = s.serial.toNat →
    let epoch : DWord := BitVec.ofNat 32 (f.field 10 4)
    2 ≤ (epoch - s.bell.latest).toNat → (epoch - s.bell.latest).toNat ≤ 16 →
    exec (.insertGrant slot f) s = .next { s with ring := { s.ring with
      grant := some { cls := (f.byte 9).setWidth 2, epoch := epoch }, insertPending := true } }) ∧
  (∀ (s : State) (slot : Fin 36) (t : Ticks) (f : Frame), s.candidate = true → good f 4 → f.field 1 8 = s.serial.toNat →
    exec (.insertRefuse slot t f) s = .next { s with now := max s.now t, ring := { s.ring with
      insertPending := false, answered := none, grant := none, aOpen := false, holdoff := some 1000
      ringEvent := s.ring.ringEvent ||| 0x0010, fresh := s.ring.fresh.set (max s.now t) 0x0010 } }) ∧
  (∀ s : State, s.ring.holdoff = some 0 →
    exec .refuseHoldoffEnd s = .next { s with ring := { s.ring with holdoff := none } }) ∧
  (∀ (s : State) (k : Nat), s.ring.answered = some k → 8 ≤ k → s.ring.grant = none →
    exec .grantWaitExpiry s = .next { s with ring := { s.ring with answered := none, insertPending := false } }) ∧
  ∀ s : State, s.atSettled = true → s.ring.inserted = false → s.ring.carrierB = false →
    exec .beyondFoldDetect s = .next { s with ring := { s.ring with beyondFold := true } }

/-- A candidate with a GRANT whose epoch is that of the latest bell, pair A still closed: before the fold, FLASHING_OPEN_A opens pair A
and nothing else; beyond it, the same event opens all four switches and folds the node. With pair A open, FLASHING_OPEN_B opens pair B.
Either way the node is then inserted without an address, its receive terminations connected (R631), the handshake over, the class
granted and JOINED_SEEN set, and LEASE_LEFT at L (R321); the state is SEEDED where the DRBG is healthy and the keys selected, else
JOINED; where no cause has arisen the market closes exactly on a failed critical fuse word. The bell stays. A node that is no longer a
candidate once pair A is open is not inserted by FLASHING_OPEN_B (the model's choice, log entry 47). -/
def Obligations.FlashingOpensAndDeviceJoins : Prop :=
  let joined (s u : State) (g : Grant) (folded : Bool) (t : Ticks) : Prop :=
    let seeds := s.pit.drbgHealthy = true ∧ s.fuse.keysDone = true
    u.ring = { s.ring with
      aOpen := true, bOpen := true, inserted := true, folded := folded, beyondFold := false, addrValid := false, ringAddr := 0
      insertPending := false, answered := none, grant := none } ∧
    u.ring.terminated = true ∧
    u.now = max s.now t ∧ u.pwr.granted = g.cls ∧ u.dev.devEvent = s.dev.devEvent ||| 0x0001 ∧
    u.dev.power = (if seeds then .seeded else .joined) ∧
    (s.dev.arisen = 0 → u.dev.closed = (s.dev.closed || s.fuse.critFail)) ∧
    u.bell = s.bell ∧ u.pit = { s.pit with seededOnce := s.pit.seededOnce || decide seeds } ∧
    u.host = { s.host with leaseOn := true, leaseOut := false, leaseLeft := s.host.leaseLen.toNat } ∧ u.pending = s.pending
  (∀ (s : State) (t : Ticks) (g : Grant), s.ring.grant = some g → s.candidate = true → s.ring.aOpen = false →
    s.bell.latest = g.epoch → s.ring.beyondFold = false →
    exec (.flashingOpenA t) s = .next { s with now := max s.now t, ring := { s.ring with aOpen := true } }) ∧
  (∀ (s : State) (t : Ticks) (g : Grant), s.ring.grant = some g → s.candidate = true → s.ring.aOpen = false →
    s.bell.latest = g.epoch → s.ring.beyondFold = true → ∃ u : State, exec (.flashingOpenA t) s = .next u ∧ joined s u g true t) ∧
  (∀ (s : State) (t : Ticks) (g : Grant), s.ring.grant = some g → s.candidate = true → s.ring.aOpen = true →
    ∃ u : State, exec (.flashingOpenB t) s = .next u ∧ joined s u g false t) ∧
  ∀ (s : State) (t : Ticks), s.candidate = false → exec (.flashingOpenB t) s = .next s

/-- An inserted node without carrier on pair B folds itself and sets its event bit. A FOLD frame to this node with a good CRC leaves
with TAKEN set, its payload unchanged, and gets no response (the model's reading, log entry 50); one whose payload byte 0 is 0x01 is
taken for its epoch, another is ignored (R230). At that epoch a folded node with carrier on pair B unfolds; without it, it stays folded
and sets UNFOLD_FAILED_SEEN (R229). A loss of carrier on a pair that had it clears its flag and counts, saturating; from SETTLED its
return sets the flag, on pair B ending BEYOND_FOLD, and a code violation counts. An inserted node from SETTLED passes what is not its
own unchanged, a slot or a BELL frame, a bad CRC counted: pair A's out on pair A, at a fold also on pair B, but a ridge node leaves
slots idle; pair B's out on pair B unless the node is the fold, where it is dropped. Only the ring port changes. -/
def Obligations.FoldAndForwardFollowTheLink : Prop :=
  let event (r : RingPort) (now : Ticks) (m : Word) : RingPort := { r with ringEvent := r.ringEvent ||| m, fresh := r.fresh.set now m }
  (∀ (s : State) (t : Ticks), s.ring.inserted = true → s.ring.folded = false → s.ring.carrierB = false →
    exec (.autoFold t) s = .next { s with
      now := max s.now t, ring := event { s.ring with folded := true } (max s.now t) 0x0004 }) ∧
  (∀ (s : State) (slot : Fin 36) (f : Frame), s.addressed f = true → (Frame.type f).toNat = 4 → frameOk f = true →
    let out : Option Sent := if s.bell.ridge then none
      else some { slot := slot.val, frame := sealFrame (f.header ||| 0x10000000) f.payload f.tag }
    exec (.foldFrame slot f) s = .next { s with ring := { s.ring with
      aOut := out, bOut := if s.ring.folded then out else s.ring.bOut
      replies := s.ring.replies.filter fun r => r.slot != slot
      unfoldAt := if f.byte 0 = 0x01 then some (BitVec.ofNat 32 (f.field 1 4)) else s.ring.unfoldAt } }) ∧
  (∀ (s : State) (t : Ticks), s.ring.folded = true → s.ring.unfoldAt = some s.bell.latest → s.ring.carrierB = true →
    exec (.unfold t) s = .next { s with now := max s.now t, ring := { s.ring with unfoldAt := none, folded := false } }) ∧
  (∀ (s : State) (t : Ticks), s.ring.folded = true → s.ring.unfoldAt = some s.bell.latest → s.ring.carrierB = false →
    exec (.unfold t) s = .next { s with
      now := max s.now t, ring := event { s.ring with unfoldAt := none } (max s.now t) 0x0008 }) ∧
  (∀ s : State, s.ring.carrierA = true → exec (.carrierLoss .a) s = .next { s with ring := { s.ring with
    carrierA := false, carrierTally := satInc s.ring.carrierTally } }) ∧
  (∀ s : State, s.ring.carrierB = true → exec (.carrierLoss .b) s = .next { s with ring := { s.ring with
    carrierB := false, carrierTally := satInc s.ring.carrierTally } }) ∧
  (∀ s : State, s.atSettled = true → exec (.carrierReturn .a) s = .next { s with ring := { s.ring with carrierA := true } }) ∧
  (∀ s : State, s.atSettled = true →
    exec (.carrierReturn .b) s = .next { s with ring := { s.ring with carrierB := true, beyondFold := false } }) ∧
  (∀ s : State, s.atSettled = true →
    exec .codeViolation s = .next { s with ring := { s.ring with code := satInc s.ring.code } }) ∧
  (∀ (s : State) (slot : Fin 36) (f : Frame), s.ring.inserted = true → s.atSettled = true →
    let out : Option Sent := if s.bell.ridge then none else some { slot := slot.val, frame := f }
    exec (.frameForward .a (.slot slot f)) s = .next { s with ring := { s.ring with
      crcA := if frameOk f then s.ring.crcA else satInc s.ring.crcA
      aOut := out, bOut := if s.ring.folded then out else s.ring.bOut } }) ∧
  (∀ (s : State) (slot : Fin 36) (f : Frame), s.ring.inserted = true → s.atSettled = true →
    exec (.frameForward .b (.slot slot f)) s = .next { s with ring := { s.ring with
      crcB := if frameOk f then s.ring.crcB else satInc s.ring.crcB
      bOut := if s.ring.folded then s.ring.bOut else some { slot := slot.val, frame := f } } }) ∧
  (∀ (s : State) (f : BellFrame), s.ring.inserted = true → s.atSettled = true →
    exec (.frameForward .a (.bell f)) s = .next { s with ring := { s.ring with
      crcA := if bellOk f then s.ring.crcA else satInc s.ring.crcA
      bellA := some f, bellB := if s.ring.folded then some f else s.ring.bellB } }) ∧
  ∀ (s : State) (f : BellFrame), s.ring.inserted = true →
    exec (.frameForward .b (.bell f)) s = .next { s with ring := { s.ring with
      bellB := if s.ring.folded then s.ring.bellB else some f } }

/-- On an inserted node, a good ROLL with hop count below 64 gives the address one above it and its generation, leaves with its hop
count one higher and a CRC that holds, and where the address changed holds alignment and sets its event bits; one of 64 or more takes
the address away and leaves unchanged; ROLL_RETURN shows the round trip. A SET_DELAY to this node with a good CRC writes its delay into
BELL_DELAY (R234), ends the hold, leaves with TAKEN set, its payload unchanged, without a response (the model's reading, log entry 50),
and a delay above 1880 fails alignment. A ridge node sends none of them on. Nothing else changes. -/
def Obligations.SetDelayWritesBellDelay : Prop :=
  let leaves (s : State) (slot : Fin 36) (g : Frame) : RingPort :=
    let out : Option Sent := if s.bell.ridge then none else some { slot := slot.val, frame := g }
    { s.ring with aOut := out, bOut := if s.ring.folded then out else s.ring.bOut }
  let roll (f : Frame) : Prop := frameOk f = true ∧ frameNobody f = false ∧ (Frame.type f).toNat = 2 ∧ f.byte 0 = 1
  (∀ (s : State) (slot : Fin 36) (t : Ticks) (f : Frame), s.ring.inserted = true → roll f → (f.byte 1).toNat < 64 →
    let hop := f.byte 1 + 1
    let a : BitVec 7 := hop.setWidth 7
    let ring := { leaves s slot (sealFrame f.header (vset f.payload 1 hop) f.tag) with
      addrValid := true, ringAddr := a, ringGen := word (f.field 2 2) }
    exec (.enumRoll slot t f) s = .next (
      if a = s.ring.ringAddr then
        { s with
          now := max s.now t
          ring := { ring with ringEvent := s.ring.ringEvent ||| 0x0001, fresh := s.ring.fresh.set (max s.now t) 0x0001 } }
      else
        { s with
          now := max s.now t
          ring := { ring with ringEvent := s.ring.ringEvent ||| 0x0003, fresh := s.ring.fresh.set (max s.now t) 0x0003 }
          bell := { s.bell with alignHeld := true, aligned := false } })) ∧
  (∀ (s : State) (slot : Fin 36) (t : Ticks) (f : Frame), s.ring.inserted = true → roll f → 64 ≤ (f.byte 1).toNat →
    exec (.enumRoll slot t f) s = .next { s with now := max s.now t, ring := { leaves s slot f with
      addrValid := false, ringAddr := 0
      ringEvent := s.ring.ringEvent ||| 0x0021, fresh := s.ring.fresh.set (max s.now t) 0x0021 } }) ∧
  (∀ (s : State) (units : Word), s.ring.inserted = true →
    exec (.rollReturn units) s = .next { s with ring := { s.ring with ringRt := units } }) ∧
  ∀ (s : State) (slot : Fin 36) (f : Frame), s.addressed f = true → frameOk f = true → (Frame.type f).toNat = 2 → f.byte 0 = 2 →
    let delay := word (f.field 2 2)
    exec (.setDelay slot f) s = .next { s with
      ring := { leaves s slot (sealFrame (f.header ||| 0x10000000) f.payload f.tag) with
        replies := s.ring.replies.filter fun r => r.slot != slot }
      bell := { s.bell with
        bellDelay := delay, alignHeld := false, alignFail := decide (1880 < delay.toNat)
        aligned := s.bell.aligned && decide (delay.toNat ≤ 1880) } }

/-- From SETTLED, a BELL frame leaves an inserted node, at the fold on both pairs. One whose CRC fails over header and payload counts,
is not received (BELL_OK falls, R213) and restarts the count of R87. One whose CRC holds completes with its bell to come and BELL_OK, no
flywheel run and no ridge; its reading of the recovered clock shows in REF_OFFSET, and sets RING_REF_OK and counts for R87 exactly
within 150 ppm (RING_REF_OK at each bell: log entry 43). A head bell ends island timing; an ISLAND bell, at a ridge node one of a lower
ridge address, starts it and empties the answers that wait. Either marks a jump of the epoch with its event bit. After four flywheel
bells an inserted node becomes ridge node, with RIDGE_SEEN and ISLAND_SEEN (without a valid address too, the model's choice, log entry
45), and begins an ISLAND bell: a BELL frame of the next epoch with FLAGS.ISLAND, its address, its generation and its CRC.
ISLAND_BELL_EMIT begins the next. RX_LEVEL takes free values (log entry 31). -/
def Obligations.BellsReceivedAwaitTheirBoundary : Prop :=
  let passed (s : State) (f : BellFrame) : RingPort := { s.ring with
    bellA := if s.ring.inserted then some f else s.ring.bellA
    bellB := if s.ring.inserted && s.ring.folded then some f else s.ring.bellB }
  let good (f : BellFrame) : Prop := f.crc = crc32 (bytesOf 6 f.header.toNat ++ bytesOf 8 f.payload.toNat)
  let epochOf (f : BellFrame) : DWord := f.payload.extractLsb' 32 32
  let heard (s : State) (f : BellFrame) (off : Word) (isle : Bool) : State :=
    let e := epochOf f
    let near := decide (-1500 ≤ off.toInt ∧ off.toInt ≤ 1500)
    let ring := { passed s f with
      islandCycle := isle
      replies := if isle then [] else (s.ring.replies.filter fun r => !r.old).map fun r => { r with old := true }
      rxA := Config.rxLevel 0 s.bell.bellNo, rxB := Config.rxLevel 1 s.bell.bellNo }
    let starts := isle && !s.bell.island
    let ev : Fresh := if s.bell.jumps e then s.bell.fresh.set s.now 0x0002 else s.bell.fresh
    { s with
      bell := { s.bell with
        bellOk := true, flyRun := 0, ridge := false, jump := s.bell.jump || s.bell.jumps e
        next := some (e, if isle then .island else .head)
        island := isle, aligned := s.bell.aligned && !isle
        bellEvent := (if s.bell.jumps e then s.bell.bellEvent ||| 0x0002 else s.bell.bellEvent) ||| if starts then 0x0004 else 0
        fresh := if starts then ev.set s.now 0x0004 else ev }
      clk := { s.clk with
        syntonyRun := if near then min 8 (s.clk.syntonyRun + 1) else 0, ringRefOk := near, refOffset := off }
      ring := if s.atJoined then ring else ring.candidateBell e }
  let at_ (s : State) (t : Ticks) : State := { s with now := max s.now t }
  let island (s : State) : BellFrame :=
    let header : BitVec 48 := 0x000900000000
    let payload : BitVec 64 := (s.bell.epoch + 1) ++ (1 : Byte) ++ s.ring.ringAddr.setWidth 8 ++ s.ring.ringGen
    { header := header, payload := payload, crc := crc32 (bytesOf 6 header.toNat ++ bytesOf 8 payload.toNat) }
  (∀ (s : State) (t : Ticks) (f : BellFrame) (off : Word), s.atSettled = true → good f → bit f.payload 24 = false →
    exec (.bellFrame t f off) s = .next (heard (at_ s t) f off false)) ∧
  (∀ (s : State) (t : Ticks) (f : BellFrame) (off : Word), s.atSettled = true → ¬ good f →
    exec (.bellFrame t f off) s = .next { s with
      now := max s.now t, bell := { s.bell with bellOk := false }, clk := { s.clk with syntonyRun := 0 }
      ring := { passed s f with crcA := satInc s.ring.crcA } }) ∧
  (∀ (s : State) (t : Ticks) (f : BellFrame) (off : Word), s.atSettled = true → good f → bit f.payload 24 = true →
    (s.bell.ridge = false ∨ (f.payload.extractLsb' 16 8).toNat < s.ring.ringAddr.toNat) →
    exec (.islandBellFrame t f off) s = .next (heard (at_ s t) f off true) ∧
    exec (.bellFrame t f off) s = .next (heard (at_ s t) f off true)) ∧
  (∀ (s : State) (t : Ticks), s.ring.inserted = true → s.bell.ridge = false → s.bell.flyRun = 4 → s.bell.next = none →
    ∃ fresh : Fresh, exec (.ridgeTimeout t) s = .next { s with
      now := max s.now t
      bell := { s.bell with
        ridge := true, island := true, aligned := false, next := some (s.bell.epoch + 1, .own)
        bellEvent := s.bell.bellEvent ||| 0x000C, fresh := fresh }
      ring := { s.ring with
        islandCycle := true, replies := [], bellA := some (island s)
        bellB := if s.ring.folded then some (island s) else s.ring.bellB } }) ∧
  ∀ s : State, s.bell.ridge = true → s.bell.next = none →
    exec .islandBellEmit s = .next { s with
      bell := { s.bell with next := some (s.bell.epoch + 1, .own) }
      ring := { passed s (island s) with islandCycle := true, replies := [] } }

/-- From SETTLED with SYNTONY_EN at 1 and 8 received bells in range, SYNTONY_SWITCH takes the ring reference. SYNTONY_LOSS by lost
transitions, or by drift while the crystal is good, lowers RING_REF_OK (the model's choice, log entry 43), restarts the count and, where
the PLL followed the ring, reverts it to the crystal with its event bit; by drift with a failed crystal it does nothing (R88). A P0
write of CLK_CTRL from SETTLED outside a boundary's cycle sets SYNTONY_EN and, at 0, reverts the reference to the crystal; in such a
cycle it waits for the boundary's commands (R640). Out of reset, XTAL_FAIL clears XTAL_OK with its event bit and XTAL_RECOVER sets it
again. Where a reversion finds the crystal failed, or the failed crystal is the one in use, the lock is lost, and what follows is a root
failure; elsewhere only the clock registers change. v is the state once the events that waited at a lane's task input for a tick now
past have acted, and before a register write the host accesses that waited too. -/
def Obligations.ClockReferencesSwitchAndFail : Prop :=
  let event (c : Clock) (now : Ticks) (m : Word) : Clock := { c with clkEvent := c.clkEvent ||| m, fresh := c.fresh.set now m }
  (∀ s : State, s.atSettled = true → s.clk.syntonyEn = true → 8 ≤ s.clk.syntonyRun →
    exec .syntonySwitch s = .next { s with clk := { s.clk with refRing := true } }) ∧
  (∀ (s : State) (t : Ticks), s.clk.xtalOk = false → exec (.syntonyLoss t .drift) s = .next (s.lanesTick t)) ∧
  (∀ (s : State) (t : Ticks) (why : RefLoss), (why = .transitions ∨ s.clk.xtalOk = true) →
    let v := s.lanesTick t
    let c := { s.clk with ringRefOk := false, syntonyRun := 0 }
    (s.clk.refRing = false → exec (.syntonyLoss t why) s = .next { v with clk := c }) ∧
    (s.clk.refRing = true →
      let u := { v with clk := event { c with refRing := false } (max s.now t) 0x0004 }
      (s.clk.xtalOk = true → exec (.syntonyLoss t why) s = .next u) ∧
      (s.clk.xtalOk = false → exec (.syntonyLoss t why) s = .next (u.rootFailure t)))) ∧
  (∀ (s : State) (t : Ticks) (d : Word), s.atSettled = true → s.boundaryOpen (sameCycle t) = false →
    let v := s.serveWaiting.lanesTick t
    let u := { v with clk := { v.clk with syntonyEn := bit d 0, refRing := v.clk.refRing && bit d 0 } }
    ((v.clk.refRing = false ∨ bit d 0 = true ∨ v.clk.xtalOk = true) → exec (.clkCtrlWrite t d) s = .next u) ∧
    (v.clk.refRing = true → bit d 0 = false → v.clk.xtalOk = false →
      exec (.clkCtrlWrite t d) s = .next (u.rootFailure v.now))) ∧
  (∀ (s : State) (t : Ticks) (d : Word), s.atSettled = true → s.boundaryOpen (sameCycle t) = true →
    exec (.clkCtrlWrite t d) s = .next { s with host := { s.host with waiting := s.host.waiting ++ [.ofP0 1 0x22 d] } }) ∧
  (∀ (s : State) (t : Ticks), s.alive = true →
    let u := { s.lanesTick t with clk := event { s.clk with xtalOk := false } (max s.now t) 0x0002 }
    (s.clk.refRing = true → exec (.xtalFail t) s = .next u) ∧
    (s.clk.refRing = false → exec (.xtalFail t) s = .next (u.rootFailure t))) ∧
  ∀ s : State, s.alive = true → exec .xtalRecover s = .next { s with clk := { s.clk with xtalOk := true } }

/-- With the root good, a root failure, by ROOT_FAIL for a lost lock, a stopped root, or two windows off the root's count that a good
crystal confirms (R653; the same by WATCH_CHECK_RESET) completes with ROOT_OK and PLL_LOCK at 0 (PLL_LOCK for every cause: log entry
41), run-through in CLK_STATUS and its event bit, and nothing on the trace port; every lane whose policy is SAFE is STOPPED at its safe
levels; every lane whose policy is RUN_THROUGH takes its counters to WATCH, and where no cause of closure had arisen before and it waits
for no retry, keeps its commutation; and where some assigned lane is SAFE and no cause had arisen, a JOINED device closes its market for
ROOT_FAIL. From SETTLED with the root failed, ROOT_RECOVER completes with the root and the lock good, run-through over and its event
bit, the safe levels that the failure forced ended, and every lane's commutation as it was. v is the state once the events that waited
at a lane's task input for a tick now past have acted. -/
def Obligations.RootFailureActsByLanePolicy : Prop :=
  let rootBad (count : Nat) : Prop := count < 218 ∨ 294 < count
  let xtalGood (khz : Nat) : Prop := 18400 ≤ khz ∧ khz ≤ 21600
  let confirmed (s : State) (w : ClockWindows) : Prop :=
    rootBad w.root1 ∧ rootBad w.root2 ∧ s.clk.xtalOk = true ∧ xtalGood w.xtal1 ∧ xtalGood w.xtal2
  let fails (s u : State) (t : Ticks) : Prop :=
    u.now = s.now ∧
    u.clk = { s.clk with
      rootOk := false, pllLock := false, runThrough := true, watchAt := t
      clkEvent := s.clk.clkEvent ||| 0x0001, fresh := s.clk.fresh.set s.now 0x0001 } ∧
    u.bell = s.bell ∧ u.ring = s.ring ∧ u.pit = s.pit ∧ u.host = s.host ∧ u.pwr = s.pwr ∧ u.heat = s.heat ∧ u.obs.sent = none ∧
    (s.safeLaneAssigned = false → u.dev = s.dev) ∧
    (s.safeLaneAssigned = true → s.atJoined = true → s.dev.arisen = 0 → u.dev.closed = true ∧ u.dev.closeFirst = 3) ∧
    ∀ n : LaneIx,
      (runThroughPolicy (s.ln n).car.policy = false → (u.ln n).com.state = .stopped ∧ (u.ln n).latch.safeClock = true) ∧
      (runThroughPolicy (s.ln n).car.policy = true → (u.ln n).car.runThrough = true ∧ (u.ln n).car.watchAt = t ∧
        (s.dev.arisen = 0 → (s.ln n).running = true → (s.ln n).gate.waiting = false → (u.ln n).com = (s.ln n).com))
  (∀ (s : State) (t : Ticks), s.clk.rootOk = true → fails s (s.rootFailure t) t) ∧
  (∀ (s : State) (t : Ticks) (why : RootFault), s.clk.rootOk = true →
    (why = .unlocked ∨ why = .stopped ∨ ∃ w, why = .windows w ∧ confirmed s w) →
    exec (.rootFail t why) s = .next ((s.lanesTick t).rootFailure t)) ∧
  (∀ (s : State) (t : Ticks) (w : ClockWindows), s.clk.rootOk = true → s.alive = true → confirmed s w →
    exec (.watchCheckReset t w) s = .next ((s.lanesTick t).rootFailure t)) ∧
  ∀ (s : State) (t : Ticks), s.atSettled = true → s.clk.rootOk = false →
    let v := s.lanesTick t
    ∃ u : State, exec (.rootRecover t) s = .next u ∧
    u = { v with lane := u.lane, obs := u.obs, clk := { s.clk with
      rootOk := true, pllLock := true, runThrough := false
      clkEvent := s.clk.clkEvent ||| 0x0008, fresh := s.clk.fresh.set (max s.now t) 0x0008 } } ∧
    ∀ n : LaneIx, (u.ln n).latch = { (v.ln n).latch with safeClock := false } ∧ (u.ln n).com = (v.ln n).com ∧
      ((v.ln n).latch.safeClock = false → u.ln n = v.ln n)

/-- JOINED with a bell to come, BELL_BOUNDARY completes with that bell's epoch in force, one more boundary made at the instant observed,
no bell to come and no flywheel, aligned exactly after a head bell with neither a failed nor a held alignment. JOINED after a boundary,
with no bell to come, fewer than four flywheel bells in a row and no ridge, FLYWHEEL_BELL completes with the next epoch, one more
flywheel bell, BELL_OK at 0 and BELL_MISSED counted. Before JOINED a bell that does not come only lowers BELL_OK and restarts the count
of R87 (the model's choice, log entry 54). Either boundary takes what takes force before the commands, applies every command accepted
for its epoch, lets what acts in its tick at the lanes' task inputs follow them, posts every completion that is due and every event, and
serves what waited for its commands last: while a row of the queue still brings a command of the boundary all of it waits on (the
model's reading, log entry 34), else the trackers act (R534) and then the host accesses (R640). The commands are applied in ascending
order of pitch, queued before register path, of queue, of SEQ and of TAG, those of the register path in the order of their writes, and
each pitch's are numbered from 0 (R306, R307). Consumption takes off its entries and frees what they held, and nothing else (R304, R314,
R315); an epoch jump completes every accepted command with ST_LATE (R112). The completions due are appended to their rings by effective
epoch and order index (R311), the events to their FIFO up to 16 entries, the others counted in EVQ_LOST (R312, R313). -/
def Obligations.BoundariesApplyAndPostInOrder : Prop :=
  let made (s u : State) (e : DWord) (obs : BellObs) : Prop :=
    u.bell.epoch = e ∧ u.bell.next = none ∧ u.bell.jump = false ∧ u.bell.bellNo = s.bell.bellNo + 1 ∧ u.bell.seen = true ∧
    u.bell.boundaryAt = max s.now obs.at_ ∧ (∀ d ∈ u.q.outcomes, u.bell.bellNo < d.due) ∧ u.q.events = [] ∧
    (∀ c ∈ u.q.accepted, c.epoch ≠ e) ∧ u.pending = s.pending ∧
    ∃ v : State, v.bell.epoch = e ∧ v.q.accepted = s.q.accepted ∧ v.q.cq = s.q.cq ∧ v.q.held = s.q.held ∧
      v.pit = s.pit ∧ v.host = s.host ∧
      u = ((v.takeOwners).epochBegins obs.at_ s.bell.jump (!s.bell.seen)).afterCommands obs.drawMw
  let first (a b : Cmd) : Prop :=
    a.pitch < b.pitch ∨ a.pitch = b.pitch ∧
      (b.door = .register ∨ a.door ≠ .register ∧
        (a.queue < b.queue ∨ a.queue = b.queue ∧ (a.seq < b.seq ∨ a.seq = b.seq ∧ a.tag ≤ b.tag)))
  let sooner (now : DWord) (a b : Done) : Prop :=
    let x := (a.what.cmd.epoch - now).toInt
    let y := (b.what.cmd.epoch - now).toInt
    x < y ∨ x = y ∧ a.what.order ≤ b.what.order
  (∀ (s : State) (obs : BellObs) (e : DWord) (k : BellKind), s.bell.next = some (e, k) → s.atJoined = true →
    ∃ u : State, exec (.bellBoundary obs) s = .next u.serveDue ∧ made s u e obs ∧ u.bell.flywheel = false ∧
      u.bell.flyRun = s.bell.flyRun ∧ u.bell.aligned = (decide (k = .head) && !s.bell.alignFail && !s.bell.alignHeld)) ∧
  (∀ (s : State) (obs : BellObs), s.atJoined = true → s.bell.seen = true → s.bell.next = none → s.bell.flyRun < 4 →
    s.bell.ridge = false → ∃ u : State, exec (.flywheelBell obs) s = .next u.serveDue ∧ made s u (s.bell.epoch + 1) obs ∧
      u.bell.flyRun = s.bell.flyRun + 1 ∧ u.bell.flywheel = true ∧ u.bell.bellOk = false ∧
      u.bell.bellMissed = satInc s.bell.bellMissed) ∧
  (∀ (s : State) (obs : BellObs), s.atSettled = true → s.atJoined = false → s.bell.ridge = false →
    exec (.flywheelBell obs) s = .next
      ({ s with bell := { s.bell with bellOk := false }, clk := { s.clk with syntonyRun := 0 } } : State).serveDue) ∧
  (∀ s : State, (s.commandsWait = true → s.serveDue = s) ∧
    (s.commandsWait = false → (∀ n : TrkIx, (s.tk n).waiting = []) → s.serveDue = s.serveWaiting)) ∧
  (∀ l : List Cmd, (inOrder l).Perm l ∧ (inOrder l).Pairwise first ∧
    (∀ p : Pitch, (inOrder l).filter (fun c => decide (c.pitch = p ∧ c.door = .register))
      = l.filter (fun c => decide (c.pitch = p ∧ c.door = .register))) ∧
    (numbered l).map Prod.fst = l ∧
    ∀ (i : Nat) (x : Cmd × Nat), (numbered l)[i]? = some x → x.2 = (l.take i).countP fun c => decide (c.pitch = x.1.pitch)) ∧
  (∀ s : State, s.consume = { s with q := { s.q with held := s.consume.q.held, cq := s.consume.q.cq, evq := s.consume.q.evq } } ∧
    (∀ q : QueueIx, s.consume.q.cq[q].entries = s.q.cq[q].entries.drop s.q.cq[q].pops ∧ s.consume.q.cq[q].pops = 0) ∧
    (∀ p : Pitch, s.consume.q.evq[p].entries = s.q.evq[p].entries.drop s.q.evq[p].pops ∧ s.consume.q.evq[p].pops = 0 ∧
      s.consume.q.evq[p].lost = s.q.evq[p].lost) ∧
    ∀ h : Held, h ∈ s.consume.q.held ↔ h ∈ s.q.held ∧
      ∀ e ∈ s.q.cq[h.queue].entries.take s.q.cq[h.queue].pops, e.w0 ≠ word (h.seq.toNat * 512 + h.tag.toNat)) ∧
  (∀ s : State, (s.lapseAll fun _ => true).q.accepted = [] ∧
    ∃ l : List Done, (s.lapseAll fun _ => true).q.outcomes = s.q.outcomes ++ l ∧ l.map (fun d => d.what.cmd) = inOrder s.q.accepted ∧
      ∀ d ∈ l, d.status = stLate ∧ d.due = s.bell.bellNo) ∧
  (∀ s : State, ∃ l : List Done, l.Perm (s.q.outcomes.filter fun d => decide (d.due ≤ s.bell.bellNo)) ∧
    l.Pairwise (sooner s.bell.epoch) ∧
    ∀ q : QueueIx, s.postCompletions.q.cq[q].entries = s.q.cq[q].entries ++
      ((l.filter fun d => !d.what.mute && decide (d.what.cmd.door ≠ .register) && decide (d.what.cmd.queue = q)).map
        s.completionEntry)) ∧
  ∀ (s : State) (p : Pitch),
    let new := (s.q.events.filter fun x => decide (x.pitch = p)).map EventOut.entry
    let room := 16 - s.q.evq[p].entries.length
    s.postEvents.q.evq[p].entries = s.q.evq[p].entries ++ new.take room ∧
    s.postEvents.q.evq[p].lost = satNat 8 (s.q.evq[p].lost.toNat + (new.length - room))

/-- Where the host pitch's lease is on, has at most one bell left and has not acted, LEASE_EXPIRY completes with LEASE_OUT, its event
bit, and every running lane of the host pitch STOPPING or STOPPED; a lane whose owner is neither the host pitch nor an earlier host
pitch whose lease ends too is unchanged, and so is everything but lanes, reports, DEV_EVENT and the lease (v is the state once the
events that waited at a lane's task input for a tick now past have acted). SESSION_EXPIRY removes a session of that age and nothing
else. -/
def Obligations.LeaseAndSessionExpireOnce : Prop :=
  (∀ (s : State) (t : Ticks), s.host.leaseOn = true → s.host.leaseLeft ≤ 1 → s.host.leaseOut = false →
    let v := s.lanesTick t
    ∃ u : State, exec (.leaseExpiry t) s = .next u ∧
      u = { v with
        dev := { s.dev with devEvent := s.dev.devEvent ||| 0x0008, fresh := s.dev.fresh.set (max s.now t) 0x0008 }
        host := { s.host with leaseLeft := 0, leaseOut := true, oldLeases := u.host.oldLeases }
        lane := u.lane, q := u.q, obs := u.obs } ∧
      ∀ n : LaneIx,
        (s.laneOwner n = some s.pit.hostPitch → (v.ln n).running = true →
          (u.ln n).com.state = .stopping ∨ (u.ln n).com.state = .stopped) ∧
        (s.laneOwner n ≠ some s.pit.hostPitch → (∀ o ∈ s.host.oldLeases, s.laneOwner n = some o.pitch → 1 < o.left) →
          u.ln n = v.ln n)) ∧
  ∀ (s : State) (p : Pitch) (x : Session), s.pit.session[p] = some x → x.since + 2147483648 ≤ s.bell.bellNo →
    exec (.sessionExpiry p) s = .next { s with pit := { s.pit with session := vset s.pit.session p none } }

/-- On an inserted node, SLOT_REQUEST_A passes a slot not addressed to it unchanged, counting a bad CRC. A request addressed to it whose
CRC fails passes with TAKEN set and its CRC still failing, is counted, and gets no response; one whose CRC holds passes with TAKEN set
and a CRC that holds, and an IDENT, SESSION, DATA or TRACE-GRANT request leaves a response waiting for its slot, an IDENT request the
identity data and nothing else changed. A ridge node sends none of them on; a fold node turns them onto pair B. When the slot returns,
SLOT_RESPONSE_B puts out the waiting response and drops it from those that wait; without one it passes the slot unless the node is the
fold. The rows IDENT, SESSION_OPEN, TRACE_GRANT, SET_DELAY and FOLD_FRAME act as the slot that carries them. -/
def Obligations.RequestSlotsAreTakenAndAnswered : Prop :=
  let counted (s : State) (f : Frame) (k : Word) : Word := if frameOk f = true ∨ s.atSettled = false then k else satInc k
  let passed (s : State) (slot : Fin 36) (f g : Frame) : RingPort :=
    let out : Option Sent := if s.bell.ridge then none else some { slot := slot.val, frame := g }
    { s.ring with crcA := counted s f s.ring.crcA, aOut := out, bOut := if s.ring.folded then out else s.ring.bOut }
  let others (s : State) (slot : Fin 36) : List Reply := s.ring.replies.filter fun r => r.slot != slot
  (∀ (s : State) (slot : Fin 36) (f : Frame), s.ring.inserted = true → s.addressed f = false →
    exec (.slotRequestA slot f) s = .next { s with ring := passed s slot f f }) ∧
  (∀ (s : State) (slot : Fin 36) (f : Frame), s.addressed f = true → frameOk f = false →
    ∃ crc : DWord,
      let g : Frame := { f with header := f.header ||| 0x10000000, crc := crc }
      frameOk g = false ∧
      exec (.slotRequestA slot f) s = .next { s with ring := { passed s slot f g with replies := others s slot } }) ∧
  (∀ (s : State) (slot : Fin 36) (f : Frame), s.addressed f = true → frameOk f = true →
    let v := { s with ring := passed s slot f (sealFrame (f.header ||| 0x10000000) f.payload f.tag) }
    ∃ u : State, exec (.slotRequestA slot f) s = .next u ∧ u.ring.aOut = v.ring.aOut ∧ u.ring.bOut = v.ring.bOut ∧
      u.ring.crcA = s.ring.crcA ∧
      (5 ≤ (Frame.type f).toNat → ∃ g : Frame, u.ring.replies = others s slot ++ [{ slot := slot, frame := g }]) ∧
      ((Frame.type f).toNat = 5 →
        let data := s.identData (Frame.pitch f)
        u = { v with ring := { v.ring with replies := others s slot ++
          [{ slot := slot, frame := sealFrame (Frame.respHeader f data.length) (payloadOf data) 0 }] } })) ∧
  (∀ (s : State) (slot : Fin 36) (f : Frame) (r : Reply), (s.ring.replies.find? fun r => r.slot == slot) = some r →
    exec (.slotResponseB slot f) s = .next { s with ring := { s.ring with
      crcB := counted s f s.ring.crcB, replies := others s slot, bOut := some { slot := slot.val, frame := r.frame } } }) ∧
  (∀ (s : State) (slot : Fin 36) (f : Frame), s.ring.inserted = true →
    (s.ring.replies.find? fun r => r.slot == slot) = none →
    exec (.slotResponseB slot f) s = .next { s with ring := { s.ring with
      crcB := counted s f s.ring.crcB
      bOut := if s.ring.folded then s.ring.bOut else some { slot := slot.val, frame := f } } }) ∧
  ∀ (s : State) (slot : Fin 36) (f : Frame),
    ((Frame.type f).toNat = 5 → exec (.ident slot f) s = exec (.slotRequestA slot f) s) ∧
    ((Frame.type f).toNat = 6 → exec (.sessionOpen slot f) s = exec (.slotRequestA slot f) s) ∧
    ((Frame.type f).toNat = 8 → exec (.traceGrant slot f) s = exec (.slotRequestA slot f) s) ∧
    ((Frame.type f).toNat = 2 → f.byte 0 = 2 → exec (.setDelay slot f) s = exec (.slotRequestA slot f) s) ∧
    ((Frame.type f).toNat = 4 → exec (.foldFrame slot f) s = exec (.slotRequestA slot f) s)

/-- On a node whose slots are addressed to it, a SUBMIT of a pitch in session within its ring frontage to an existing queue is counted
against the frontage; where the checks of R301 pass, the command joins the accepted ones for its effective epoch and holds its entry and
tag; where one refuses it, accepted commands, entries and tags held and completions on their way are all as before (R303). The same
holds of a doorbell's submission. One beyond the frontage is counted as refused and goes no further, one without a session counts in
AUTH_FAIL, and a node without an address or in an island's cycle takes no request. Before the first boundary the bell in progress counts
as epoch 0 (the model's choice, log entry 68). v is the state once what waited before the doorbell has acted. -/
def Obligations.RefusedSubmissionsHoldNothing : Prop :=
  let staged (v : State) : Desc :=
    let x := v.host.desc
    ⟨x[0], x[1], x[2], x[3], x[4], x[5], x[6], x[7]⟩
  let named (d : Word) : QueueIx := ⟨bits d 0 6, by unfold bits; omega⟩
  let waits (s u : State) (p : Pitch) (door : Door) (q : QueueIx) (d : Desc) : Prop :=
    let c : Cmd := { pitch := p, door := door, queue := q, epoch := s.bell.epoch + BitVec.ofNat 32 (s.judge301 p q d).2, desc := d }
    u.q.outcomes = s.q.outcomes ∧ u.q.cq = s.q.cq ∧
    if (s.judge301 p q d).1 = stOk then
      u.q.accepted = s.q.accepted ++ [c] ∧
      u.q.held = s.q.held ++ [{ pitch := p, queue := q, seq := Desc.seq d, tag := Desc.tag d }]
    else u.q.accepted = s.q.accepted ∧ u.q.held = s.q.held
  (∀ (s : State) (p : Pitch) (q : QueueIx) (d : Desc), s.takesSlots = true → (s.sessionOf p).isSome = true →
    s.ring.counted[p] < s.pit.front.ring[p] →
    ∃ u : State, exec (.dataSubmit p (BitVec.ofNat 8 q.val) d) s = .next u ∧ waits s u p .ring q d ∧
      u.ring = { s.ring with counted := vset s.ring.counted p (s.ring.counted[p] + 1) } ∧
      u = { s with ring := u.ring, q := u.q, obs := u.obs }) ∧
  (∀ (s : State) (p : Pitch) (queue : Byte) (d : Desc), s.takesSlots = true → (s.sessionOf p).isSome = true →
    s.pit.front.ring[p] ≤ s.ring.counted[p] →
    ∃ u : State, exec (.dataSubmit p queue d) s = .next u ∧ u = { s with ring := u.ring, obs := u.obs } ∧
      u.ring = { s.ring with
        counted := vset s.ring.counted p (s.ring.counted[p] + 1), frontRefused := vmod s.ring.frontRefused p satInc }) ∧
  (∀ (s : State) (p : Pitch) (queue : Byte) (d : Desc), s.takesSlots = true → s.sessionOf p = none →
    exec (.dataSubmit p queue d) s = .next { s with ring := { s.ring with authFail := vmod s.ring.authFail p satInc } }) ∧
  (∀ (s : State) (p : Pitch) (queue head : Byte) (d : Desc), s.takesSlots = false →
    exec (.dataSubmit p queue d) s = .next s ∧ exec (.dataCollect p queue head) s = .next s) ∧
  ∀ (s : State) (t : Ticks) (d : Word), s.hostUp = true → s.boundaryOpen (sameCycle t) = false →
    let v := s.serveWaiting.lanesTick t
    ∃ u : State, exec (.doorbell t d) s = .next u ∧ waits v u v.pit.hostPitch .host (named d) (staged v)

/-- With the host port up and outside a boundary's cycle, DOORBELL completes with the waiting response sent, its verdict in SUB_RESULT
and in the next response, the effective epoch's low half in SUB_EPOCH where it was accepted, and DESC_0 to DESC_7 unchanged. A COLLECT
of a pitch in session within its frontage asks for consumption up to the new head of its own queue, or for queue 0x40 of its events.
CQ_POP of 1 asks for one completion of the queue in QSEL where it is the host pitch's, and sets NO_OBJECT where it is not; EVQ_POP of 1
asks for one event; a pop of 0 only answers. v is the state once what waited before the access has acted. -/
def Obligations.DoorbellAndCollectionAnswer : Prop :=
  let staged (v : State) : Desc :=
    let x := v.host.desc
    ⟨x[0], x[1], x[2], x[3], x[4], x[5], x[6], x[7]⟩
  let chosen (v : State) : QueueIx := v.q.sel[v.pit.hostPitch].queue
  let named (d : Word) : QueueIx := ⟨bits d 0 6, by unfold bits; omega⟩
  (∀ (s : State) (t : Ticks) (d : Word), s.hostUp = true → s.boundaryOpen (sameCycle t) = false →
    let v := s.serveWaiting.lanesTick t
    ∃ u : State, exec (.doorbell t d) s = .next u ∧
      let y := v.judge301 v.pit.hostPitch (named d) (staged v)
      u = { v with q := u.q, obs := u.obs, host := { v.host with
        sdo := some v.host.response
        subResult := y.1
        subEpoch := if y.1 = stOk then lo16 (v.bell.epoch + BitVec.ofNat 32 y.2) else v.host.subEpoch
        response := respond false 0x20 (word y.1.toNat) } }) ∧
  (∀ (s : State) (p : Pitch) (q : QueueIx) (head : Byte), s.takesSlots = true → (s.sessionOf p).isSome = true →
    s.ring.counted[p] < s.pit.front.ring[p] → s.ownsQueue p q = true →
    ∃ u : State, exec (.dataCollect p (BitVec.ofNat 8 q.val) head) s = .next u ∧ u = { s with ring := u.ring, q := u.q, obs := u.obs } ∧
      let r := s.q.cq[q]
      u.q = { s.q with cq := vset s.q.cq q { r with pops := popsFor r.head head r.entries.length r.pops } }) ∧
  (∀ (s : State) (p : Pitch) (head : Byte), s.takesSlots = true → (s.sessionOf p).isSome = true →
    s.ring.counted[p] < s.pit.front.ring[p] →
    ∃ u : State, exec (.dataCollect p 0x40 head) s = .next u ∧ u = { s with ring := u.ring, q := u.q, obs := u.obs } ∧
      let r := s.q.evq[p]
      u.q = { s.q with evq := vset s.q.evq p { r with pops := popsFor r.head head r.entries.length r.pops } }) ∧
  (∀ (s : State) (t : Ticks) (d : Word), s.hostUp = true → s.boundaryOpen (sameCycle t) = false →
    let v := s.serveWaiting.lanesTick t
    let q := chosen v
    let mine := v.ownsQueue v.pit.hostPitch q
    exec (.cqPop t d) s = .next { v with
      q := { v.q with cq := if mine && bit d 0 then vmod v.q.cq q Ring.pop else v.q.cq }
      host := { v.host with
        sdo := some v.host.response, noObject := v.host.noObject || !mine, response := respond false 0x10 0 } }) ∧
  ∀ (s : State) (t : Ticks) (d : Word), s.hostUp = true → s.boundaryOpen (sameCycle t) = false →
    let v := s.serveWaiting.lanesTick t
    exec (.evqPop t d) s = .next { v with
      q := { v.q with evq := if bit d 0 then vmod v.q.evq v.pit.hostPitch EventFifo.pop else v.q.evq }
      host := { v.host with sdo := some v.host.response, response := respond false 0x38 0 } }

/-- A SESSION frame to this node with a good CRC and the tag of its pitch's open key, after SEEDED and within the ring frontage, LEN 18,
OP 0x50 and byte 17 zero, completes with one more draw of the DRBG, the session key derived from it ready for the next boundary, and the
answer waiting for its slot. A DATA or TRACE-GRANT frame of a pitch in session with a good CRC and tag, within the frontage, completes
with its sealed answer waiting: a DATA frame that carries a SUBMIT or a COLLECT acts as that row, and a TRACE-GRANT frame changes
nothing but the frontage count and tallies. -/
def Obligations.SessionAndTraceGrantAnswered : Prop :=
  let taken (s : State) (slot : Fin 36) (f : Frame) : State :=
    let out : Option Sent :=
      if s.bell.ridge then none
      else some { slot := slot.val, frame := sealFrame (f.header ||| 0x10000000) f.payload f.tag }
    { s with ring := { s.ring with
      aOut := out, bOut := if s.ring.folded then out else s.ring.bOut, replies := s.ring.replies.filter fun r => r.slot != slot } }
  let sealed (s : State) (slot : Fin 36) (f : Frame) (x : Session) : Prop :=
    s.addressed f = true ∧ frameOk f = true ∧ s.sessionOf (Frame.pitch f) = some x ∧
    f.tag = gcmFrameTag x.key (ringIv s.bell.epoch slot false (Frame.seq f)) f.header f.payload.toList ∧
    s.ring.counted[Frame.pitch f] < s.pit.front.ring[Frame.pitch f]
  let plain (s : State) (slot : Fin 36) (f : Frame) (x : Session) : List Byte :=
    gcmCrypt (keyBytes x.key) (ringIv s.bell.epoch slot false (Frame.seq f)) f.payload.toList
  (∀ (s : State) (slot : Fin 36) (f : Frame) (k : Fin 8) (key ko : BitVec 256) (d : Drbg), s.addressed f = true →
    (Frame.type f).toNat = 6 → frameOk f = true → s.atSeeded = true → s.openKeyOf (Frame.pitch f) = some (k, key, ko) →
    s.pit.drbg = some d → f.tag = sessionTag ko s.bell.epoch slot false f.header f.payload.toList →
    s.ring.counted[Frame.pitch f] < s.pit.front.ring[Frame.pitch f] → Frame.len f = 18 → f.payload.toList.getD 0 0 = 0x50 →
    f.payload.toList.getD 17 0 = 0 →
    let ks := sessionKey key s.serial (Frame.pitch f).val k.val s.bell.epoch ((f.payload.toList.drop 1).take 16)
      (bytesOf 16 d.generate.2.toNat)
    ∃ u : State, exec (.sessionOpen slot f) s = .next u ∧
      u = { s with pit := u.pit, ring := u.ring, obs := u.obs } ∧
      u.pit = { s.pit with
        drbg := some d.generate.1, sessionNext := vset s.pit.sessionNext (Frame.pitch f) (some ks) } ∧
      u.ring.counted[Frame.pitch f] = s.ring.counted[Frame.pitch f] + 1 ∧
      ∃ g : Frame, u.ring.replies = s.ring.replies.filter (fun r => r.slot != slot) ++ [{ slot := slot, frame := g }]) ∧
  (∀ (s : State) (slot : Fin 36) (f : Frame) (x : Session), sealed s slot f x → (Frame.type f).toNat = 7 →
    let p := Frame.pitch f
    let bs := plain s slot f x
    let queue := bs.getD 1 0
    (bs.getD 0 0 = 1 → Frame.len f = 18 →
      let d := descOf ((List.range 8).map fun k => wordAt bs (2 + 2 * k))
      ∃ w : State, exec (.dataSubmit p queue d) (taken s slot f) = .next w ∧
        exec (.slotRequestA slot f) s = .next (w.answerSealed slot f x.key (s.dataSubmit p queue d).2)) ∧
    (bs.getD 0 0 = 2 → Frame.len f = 3 →
      ∃ w : State, exec (.dataCollect p queue (bs.getD 2 0)) (taken s slot f) = .next w ∧
        exec (.slotRequestA slot f) s = .next (w.answerSealed slot f x.key (s.dataCollect p queue (bs.getD 2 0)).2))) ∧
  ∀ (s : State) (slot : Fin 36) (f : Frame) (x : Session), sealed s slot f x → (Frame.type f).toNat = 8 →
    ∃ u : State, exec (.traceGrant slot f) s = .next (u.answerSealed slot f x.key
        (s.traceData (Frame.pitch f) (Frame.len f) (plain s slot f x))) ∧
      u = { taken s slot f with obs := u.obs, ring := { (taken s slot f).ring with
        counted := vset s.ring.counted (Frame.pitch f) (s.ring.counted[Frame.pitch f] + 1) } }

/-- With the host port up and outside a bell boundary's cycle, the accesses that waited act first, then this one: a frame that fails its
CRC completes with the waiting response sent, CRC_ERR set and a response with FRAME_ERR 1 and DATA 0x0000, and neither reads nor writes
any other register (R292). A frame whose CRC holds acts as REGISTER_WRITE, or as the read of its address, whose value it answers. A
write to 0x7F selects the page in bits [3:0] for the following frames whatever page is selected (R295), by REGISTER_WRITE as by
PAGE_SEL. A write to another address that the host pitch does not reach on the selected page sets NO_OBJECT and nothing else; one that
it reaches, and that is no command register, has the effect of that register alone. In the CD17 cycle of a boundary whose commands are
not all applied, rows that stand behind in the queue included (log entry 34), every access of the port and every write of P0 waits and
changes nothing yet (R640), and acts there as it would have acted alone. A frame cut short sets FRAME_ERR and answers it, with ADDR 0
and DATA 0 (the model's choice, log entry 65). RST_N going low detaches the port, with PAGE_SEL at 0 and SDO at Z, and the accesses of
the port that waited act no more; while it is low no row of the port does anything; low for 1 us from SETTLED, HOST_LOSS notes that the
policy acts at the next boundary; going high it attaches the port with the response 0x00000069. -/
def Obligations.HostFramesReachRegisters : Prop :=
  let byte (x : DWord) (k : Nat) : Byte := (x >>> k).setWidth 8
  let crcHolds (x : DWord) : Prop := crc8 [byte x 24, byte x 16, byte x 8] = byte x 0
  let alone (s : State) (t : Ticks) : Prop := s.hostUp = true ∧ s.boundaryOpen (sameCycle t) = false
  let out (v : State) : State := { v with host := { v.host with sdo := some v.host.response } }
  let sent (s : State) (t : Ticks) : State := out (s.serveWaiting.lanesTick t)
  let later (s : State) (x : HostAccess) : State := { s with host := { s.host with waiting := s.host.waiting ++ [x] } }
  let paged (v : State) (d : Word) : State := { v with host := { v.host with pageSel := d.setWidth 4, response := respond false 0x7F 0 } }
  let written (v : State) (a : Nat) (d : Word) : State :=
    let p := v.pit.hostPitch
    let x := v.q.sel[p]
    let u := if (v.readReg true p x v.host.pageSel.toNat a).isSome then v.writeReg true p x v.host.pageSel.toNat a d
      else { v with host := { v.host with noObject := true } }
    { u with host := { u.host with response := respond false a 0 } }
  let commandRegister (page : BitVec 4) (a : BitVec 7) : Prop :=
    (page = 4 ∧ (a = 0x20 ∨ a = 0x10 ∨ a = 0x38)) ∨ (page = 14 ∧ a = 0x03) ∨ (5 ≤ page.toNat ∧ page.toNat < 11 ∧ a = 0x09)
  let portRows (t : Ticks) (x : DWord) (a : BitVec 7) (n : LaneIx) (d : Word) : List (Instr × HostAccess) :=
    [(.hostFrame t x, .frame x), (.registerWrite t a d, .write a d), (.loLatchRead t a, .read a), (.pageSel t d, .write 0x7F d),
     (.doorbell t d, .register 4 0x20 d), (.cqPop t d, .register 4 0x10 d), (.evqPop t d, .register 4 0x38 d),
     (.fuseCmdProgram t d, .register 14 0x03 (fuseRowData .fuseProgramWord d)),
     (.fuseCmdRead t d, .register 14 0x03 (fuseRowData .fuseRead d)),
     (.battenCommit n t d, .register (5 + BitVec.ofNat 4 n.val) 0x09 d), (.flashCtrlWrite t d, .register 1 0x0A d),
     (.tallySrcWrite t d, .register 15 0x01 d)]
  let ownerRows (t : Ticks) (d : Word) : List (Instr × HostAccess) :=
    [(.clkCtrlWrite t d, .ofP0 1 0x22 d), (.hostPitchWrite t d, .ofP0 3 0 d), (.thermalLimitWrite t 0x30 d, .ofP0 13 0x30 d),
     (.thermalLimitWrite t 0x31 d, .ofP0 13 0x31 d), (.thermalLimitWrite t 0x32 d, .ofP0 13 0x32 d),
     (.thermalLimitWrite t 0x33 d, .ofP0 13 0x33 d)]
  (∀ (s : State) (t : Ticks) (x : DWord), alone s t → ¬ crcHolds x →
    exec (.hostFrame t x) s = .next { sent s t with host := { (sent s t).host with
      crcErr := true, response := respond true ((byte x 24).toNat % 128) 0 } }) ∧
  (∀ (s : State) (t : Ticks) (x : DWord), alone s t → crcHolds x → x.msb = true →
    exec (.hostFrame t x) s = exec (.registerWrite t ((byte x 24).setWidth 7) (byte x 16 ++ byte x 8)) s) ∧
  (∀ (s : State) (t : Ticks) (x : DWord), alone s t → crcHolds x → x.msb = false →
    let r := (sent s t).hostRead ((byte x 24).toNat % 128)
    exec (.hostFrame t x) s = .next { r.1 with host := { r.1.host with
      response := respond false ((byte x 24).toNat % 128) r.2 } }) ∧
  (∀ (s : State) (t : Ticks) (d : Word), alone s t →
    exec (.registerWrite t 0x7F d) s = .next (paged (sent s t) d) ∧ exec (.pageSel t d) s = .next (paged (sent s t) d)) ∧
  (∀ (s : State) (t : Ticks) (a : BitVec 7) (d : Word), alone s t → a ≠ 0x7F → ¬ commandRegister (sent s t).host.pageSel a →
    exec (.registerWrite t a d) s = .next (written (sent s t) a.toNat d)) ∧
  (∀ (s : State) (t : Ticks) (x : DWord) (a : BitVec 7) (n : LaneIx) (d : Word), s.boundaryOpen (sameCycle t) = true →
    (s.hostUp = true → ∀ r ∈ portRows t x a n d, exec r.1 s = .next (later s r.2)) ∧
    (s.atSettled = true → ∀ r ∈ ownerRows t d, exec r.1 s = .next (later s r.2))) ∧
  (∀ (s : State) (t : Ticks) (x : DWord) (a : BitVec 7) (n : LaneIx) (d : Word), alone s t →
    ∀ r ∈ portRows t x a n d ++ ownerRows t d, exec r.1 s = .next (later (s.serveWaiting.lanesTick t) r.2).serveWaiting) ∧
  (∀ s : State, s.hostUp = true → s.host.waiting = [] →
    exec .frameAbort s = .next { s with host := { s.host with frameErr := true, response := respond true 0 0 } }) ∧
  (∀ s : State, s.hostUp = true → s.host.waiting ≠ [] → exec .frameAbort s = .next (later s .abort)) ∧
  (∀ s : State, exec .rstNAssert s = .next { s with host := { s.host with
    rstLow := true, pageSel := 0, sdo := none, waiting := s.host.waiting.filter fun x => !x.ofPort } }) ∧
  (∀ s : State, s.host.rstLow = true → s.atSettled = true →
    exec .hostLoss s = .next { s with host := { s.host with hostLoss := true } }) ∧
  (∀ s : State, s.host.rstLow = true →
    exec .rstNRelease s = .next { s with host := { s.host with rstLow := false, response := 0x00000069 } }) ∧
  ∀ (s : State) (t : Ticks) (x : DWord) (a : BitVec 7) (n : LaneIx) (d : Word), s.host.rstLow = true →
    exec .frameAbort s = .next s ∧ ∀ r ∈ portRows t x a n d, exec r.1 s = .next s

/-- With the host port up and outside a boundary's cycle, LO_LATCH_READ of EPOCH_LO, CLOSE_EPOCH_LO, FUSE_RDATA_LO, PERIOD_LO of the
host pitch's own tracker, or TALLY_LO of its own tally in TALLY_SEL, on its page, completes with the waiting response sent, the low half
answered and the high half of the same value latched, and nothing else changed beside the accesses that waited; of another register it
does nothing. -/
def Obligations.LatchedReadsGiveOneValue : Prop :=
  let alone (s : State) (t : Ticks) : Prop := s.hostUp = true ∧ s.boundaryOpen (sameCycle t) = false
  let out (v : State) : State := { v with host := { v.host with sdo := some v.host.response } }
  let sent (s : State) (t : Ticks) : State := out (s.serveWaiting.lanesTick t)
  let answered (v : State) (a : Nat) (d : Word) : State := { v with host := { v.host with response := respond false a d } }
  let tally (v : State) : TallyIx := v.q.sel[v.pit.hostPitch].tally
  let owned (v : State) : Prop := v.pit.own.tally[tally v] = some v.pit.hostPitch
  let value (v : State) : DWord := v.obs.tally[tally v].value
  let tallied (v : State) : State :=
    { v with q := { v.q with sel := vmod v.q.sel v.pit.hostPitch fun x => { x with tallyHi := hi16 (value v) } } }
  let period (n : TrkIx) (v : State) : State :=
    { v with host := { v.host with periodHi := vset v.host.periodHi n (some (word ((v.tk n).period.toNat / 65536))) } }
  (∀ (s : State) (t : Ticks), alone s t →
    let v := sent s t
    (v.host.pageSel = 1 → exec (.loLatchRead t 0x24) s =
      .next (answered { v with host := { v.host with epochHi := some (hi16 v.bell.epoch) } } 0x24 (lo16 v.bell.epoch))) ∧
    (v.host.pageSel = 0 → exec (.loLatchRead t 0x0A) s =
      .next (answered { v with host := { v.host with closeEpochHi := some (hi16 v.dev.closeEpoch) } } 0x0A (lo16 v.dev.closeEpoch))) ∧
    (v.host.pageSel = 14 → exec (.loLatchRead t 0x05) s =
      .next (answered { v with host := { v.host with rdataHi := some (hi16 v.fuse.rdata) } } 0x05 (lo16 v.fuse.rdata))) ∧
    (v.host.pageSel = 15 → owned v → exec (.loLatchRead t 0x02) s = .next (answered (tallied v) 0x02 (lo16 (value v))))) ∧
  (∀ (s : State) (t : Ticks) (n : TrkIx), alone s t →
    let v := sent s t
    v.host.pageSel = 12 → v.ownsTrk v.pit.hostPitch n = true →
    exec (.loLatchRead t (BitVec.ofNat 7 (16 * n.val + 9))) s =
      .next (answered (period n v) (16 * n.val + 9) ((v.tk n).period.setWidth 16))) ∧
  ∀ (s : State) (t : Ticks) (a : BitVec 7), alone s t →
    isLo (s.serveWaiting.lanesTick t).host.pageSel.toNat a.toNat = false →
    exec (.loLatchRead t a) s = .next (s.serveWaiting.lanesTick t)

/-- With the host port up and outside a boundary's cycle, once the accesses that waited have acted: while no operation of the host pitch
is BUSY, a write of FUSE_CMD that names PROGRAM or READ under the guard 0xA6 completes with the host pitch's BUSY set and the
register-path command waiting for the epoch two bells on (before the first boundary, epoch 2: log entry 68), or, where check 4 of R301
refuses it, with ST_CLOSED in RESULT and DONE set; while it is BUSY, or without the guard or the operation, the write changes nothing
(R160). With a lane's BUSY at 0 and batten bits not both 0, BATTEN_COMMIT of a lane that the host pitch owns does the same with the
lane's RESULT, DONE and BUSY; while BUSY is 1, or with no batten bit, the write changes nothing (R360); a lane that is not the host
pitch's sets NO_OBJECT. Every write sends the waiting response and is answered. -/
def Obligations.BusyIgnoresRegisterPathCommands : Prop :=
  let ready (s : State) (t : Ticks) : Prop := s.hostUp = true ∧ s.boundaryOpen (sameCycle t) = false
  let out (v : State) : State := { v with host := { v.host with sdo := some v.host.response } }
  let sent (s : State) (t : Ticks) : State := out (s.serveWaiting.lanesTick t)
  let answer (a : Nat) (u : State) : State := { u with host := { u.host with response := respond false a 0 } }
  let busy (v : State) : Bool := v.fuse.busy[v.pit.hostPitch]
  let waits (s : State) (d : Desc) : State :=
    let c : Cmd := { pitch := s.pit.hostPitch, door := .register, queue := 0, epoch := s.bell.epoch + 2, desc := d }
    { s with q := { s.q with accepted := s.q.accepted ++ [c] } }
  let acts (s : State) (o : Opcode) : State :=
    if s.check4 s.pit.hostPitch o.code then
      let u := waits s (s.fuseDesc o)
      { u with fuse := { s.fuse with busy := vset s.fuse.busy s.pit.hostPitch true } }
    else { s with fuse := { s.fuse with result := stClosed, done := true, fresh := s.fuse.fresh.set s.now 2 } }
  let desc (n : LaneIx) (d : Word) : Desc :=
    { w0 := Opcode.commitBatten.code ++ (0 : Byte), w1 := 0, w2 := 0xFFFF
      w3 := word ((5 + n.val) * 4096 + bits d 0 2), w4 := 0, w5 := 0, w6 := 0, w7 := 0 }
  let commits (s : State) (n : LaneIx) (d : Word) : State :=
    if s.check4 s.pit.hostPitch Opcode.commitBatten.code then
      (waits s (desc n d)).modLn n fun l => { l with car := { l.car with battenBusy := true } }
    else s.modLn n fun l => { l with car := { l.car with
      battenResult := stClosed, battenDone := true, fresh := l.car.fresh.set s.now 2 } }
  (∀ (s : State) (t : Ticks) (d : Word), ready s t →
    let v := sent s t
    (busy v = false → bits d 8 8 = 0xA6 → bits d 0 2 = 2 →
      exec (.fuseCmdProgram t d) s = .next (answer 0x03 (acts v .fuseProgramWord))) ∧
    (busy v = false → bits d 8 8 = 0xA6 → bits d 0 2 = 1 →
      exec (.fuseCmdRead t d) s = .next (answer 0x03 (acts v .fuseRead))) ∧
    (busy v = true ∨ bits d 8 8 ≠ 0xA6 ∨ bits d 0 2 ≠ 2 → exec (.fuseCmdProgram t d) s = .next (answer 0x03 v)) ∧
    (busy v = true ∨ bits d 8 8 ≠ 0xA6 ∨ bits d 0 2 ≠ 1 → exec (.fuseCmdRead t d) s = .next (answer 0x03 v)) ∧
    (busy v = true → v.host.pageSel = 14 → exec (.registerWrite t 0x03 d) s = .next (answer 0x03 v))) ∧
  ∀ (s : State) (n : LaneIx) (t : Ticks) (d : Word), ready s t →
    let v := sent s t
    (v.ownsLane v.pit.hostPitch n = true → (v.ln n).car.battenBusy = false → bits d 0 2 ≠ 0 →
      exec (.battenCommit n t d) s = .next (answer 0x09 (commits v n d))) ∧
    (v.ownsLane v.pit.hostPitch n = true → (v.ln n).car.battenBusy = true ∨ bits d 0 2 = 0 →
      exec (.battenCommit n t d) s = .next (answer 0x09 v)) ∧
    (v.ownsLane v.pit.hostPitch n = false →
      exec (.battenCommit n t d) s = .next (answer 0x09 { v with host := { v.host with noObject := true } }))

/-- Outside a boundary's cycle, once the accesses that waited have acted: with the host port up, FLASH_CTRL sets INSERT_EN before
insertion and is ignored once inserted (R78). From SETTLED a write of HOST_PITCH stands ready for the next boundary, and one with bit 3
or a higher bit set is ignored (R263). A write of TALLY_SRC by the host pitch to its own tally in TALLY_SEL takes force at once and sets
the tally to 0 (R613); to another's it sets NO_OBJECT. From SETTLED, P0's write of DIE_WARN or DIE_STOP stands ready for the next
boundary where T_WARN, as it would then be, lies within 100 to 140 degrees, T_STOP within 120 to 155 degrees and T_STOP - T_WARN is 10 K
or more, and is ignored elsewhere (R560); that each counts the writes already waiting is the model's choice (log entry 61). One of a
rate limit stands ready; THERMAL_LIMIT_WRITE of another address does nothing. Nothing else changes but the response sent and the answer
of the host rows. -/
def Obligations.RegisterRowsTakeForceAsStated : Prop :=
  let ready (s : State) (t : Ticks) : Prop := s.hostUp = true ∧ s.boundaryOpen (sameCycle t) = false
  let owner (s : State) (t : Ticks) : Prop := s.atSettled = true ∧ s.boundaryOpen (sameCycle t) = false
  let out (v : State) : State := { v with host := { v.host with sdo := some v.host.response } }
  let sent (s : State) (t : Ticks) : State := out (s.serveWaiting.lanesTick t)
  let answer (a : Nat) (u : State) : State := { u with host := { u.host with response := respond false a 0 } }
  let flashed (v : State) (d : Word) : State :=
    { v with pwr := { v.pwr with insertEn := if v.ring.inserted then v.pwr.insertEn else bit d 0 } }
  let tally (v : State) : TallyIx := v.q.sel[v.pit.hostPitch].tally
  let retallied (v : State) (d : Word) : State :=
    if v.pit.own.tally[tally v] = some v.pit.hostPitch then { v with obs := { v.obs with
      tally := vset v.obs.tally (tally v) { value := 0, src := d }, restarted := tally v :: v.obs.restarted } }
    else { v with host := { v.host with noObject := true } }
  let fits (warn stop : Byte) : Prop :=
    100 ≤ warn.toNat ∧ warn.toNat ≤ 140 ∧ 120 ≤ stop.toNat ∧ stop.toNat ≤ 155 ∧ warn.toNat + 10 ≤ stop.toNat
  let heat (v : State) (h : Thermal) : State := { v with heat := h }
  (∀ (s : State) (t : Ticks) (d : Word), ready s t →
    exec (.flashCtrlWrite t d) s = .next (answer 0x0A (flashed (sent s t) d)) ∧
    exec (.tallySrcWrite t d) s = .next (answer 0x01 (retallied (sent s t) d))) ∧
  (∀ (s : State) (t : Ticks) (d : Word), owner s t →
    let v := s.serveWaiting.lanesTick t
    let below := d.setWidth 8
    (∀ p : Pitch, d.toNat = p.val → exec (.hostPitchWrite t d) s = .next { v with pit := { v.pit with hostPitchNext := some p } }) ∧
    (8 ≤ d.toNat → exec (.hostPitchWrite t d) s = .next v) ∧
    (fits below (v.heat.dieStopNext.getD v.heat.dieStop) →
      exec (.thermalLimitWrite t 0x30 d) s = .next (heat v { v.heat with dieWarnNext := some below })) ∧
    (¬ fits below (v.heat.dieStopNext.getD v.heat.dieStop) → exec (.thermalLimitWrite t 0x30 d) s = .next v) ∧
    (fits (v.heat.dieWarnNext.getD v.heat.dieWarn) below →
      exec (.thermalLimitWrite t 0x31 d) s = .next (heat v { v.heat with dieStopNext := some below })) ∧
    (¬ fits (v.heat.dieWarnNext.getD v.heat.dieWarn) below → exec (.thermalLimitWrite t 0x31 d) s = .next v) ∧
    exec (.thermalLimitWrite t 0x32 d) s = .next (heat v { v.heat with dieRateNext := some below }) ∧
    exec (.thermalLimitWrite t 0x33 d) s = .next (heat v { v.heat with ntcRateNext := some below })) ∧
  ∀ (s : State) (t : Ticks) (a : BitVec 7) (d : Word), a < 0x30 ∨ 0x33 < a → exec (.thermalLimitWrite t a d) s = .next s

/-- A write by a pitch other than P0 to PWR_EVENT or PWR_CLASS (R83), CLK_CTRL, CLK_EVENT or BELL_EVENT (R113), DEV_EVENT or RESET_CAUSE
(R193) or RING_EVENT (R242), through the host port or by a command, leaves the whole state as it was. -/
def Obligations.OnlyP0WritesDeviceEvents : Prop :=
  ∀ (s : State) (host : Bool) (p : Pitch) (x : Selectors) (d : Word), p ≠ 0 →
    s.writeReg host p x 1 0x01 d = s ∧ s.writeReg host p x 1 0x02 d = s ∧ s.writeReg host p x 1 0x22 d = s ∧
    s.writeReg host p x 1 0x21 d = s ∧ s.writeReg host p x 1 0x27 d = s ∧ s.writeReg host p x 0 0x01 d = s ∧
    s.writeReg host p x 0 0x02 d = s ∧ s.writeReg host p x 2 0x05 d = s

/-- Each descriptor row whose command is refused before its effect, for its queue group, a bench hold, a closure, its issuer or object,
or a FLAGS bit, completes with that status and zero result words and no other effect, also where its queue group has moved to another
pitch since (the ring of its queue takes the completion, log entry 39). Recording an answer adds one completion due at the next boundary
and one ledger entry, newest first and at most 256 kept, with the epoch, the opcode, the tag, the status and the order index, and
besides only tallies and trace change. -/
def Obligations.RefusedCommandsAnswerAndAreLedgered : Prop :=
  let rows : List ((Cmd → Instr) × Opcode × (Cmd → Cmd)) :=
    [(.readBlock, .readBlock, id), (.writeBatten, .writeBatten, id), (.commitBatten, .commitBatten, id),
     (.laneStart, .laneStart, id), (.laneStop, .laneStop, id), (.laneSetSpeed, .laneSetSpeed, id),
     (.laneReverse, .laneReverse, id), (.laneReseat, .laneReseat, id), (.laneCalibrate, .laneCalibrate, id),
     (.laneOffstateDiag, .laneOffstateDiag, id), (.laneSelftest, .laneSelftest, id), (.laneClearLatch, .laneClearLatch, id),
     (.wheelLoadTableStage, .wheelLoadTable, fun c => Cmd.withOp c 0),
     (.wheelLoadTableSeat, .wheelLoadTable, fun c => Cmd.withOp c 1), (.windowArm, .windowArm, id),
     (.windowDisarm, .windowDisarm, id), (.thermalQuery, .thermalQuery, id), (.fuseRead, .fuseRead, id),
     (.fuseProgramWord, .fuseProgramWord, id), (.lifecycleAdvance, .lifecycleAdvance, id), (.keyRoll, .keyRoll, id),
     (.tallySnapshot, .tallySnapshot, id), (.traceConsentGrant, .traceConsent, fun c => Cmd.withOp c 0),
     (.traceConsentRevoke, .traceConsent, fun c => Cmd.withOp c 1),
     (.traceConsentCountersign, .traceConsent, fun c => Cmd.withOp c 2), (.leaseRenew, .leaseRenew, id),
     (.benchHold, .benchHold, id), (.benchRelease, .benchRelease, id), (.assign, .assign, id), (.reopen, .reopen, id)]
  (∀ r ∈ rows, ∀ (s : State) (x : Cmd) (st : Byte),
    let o := r.2.1
    let c := r.2.2 x
    s.refusal (Cmd.withOpcode c o) = some st →
    exec (r.1 x) s = .next ((s.taken o c).answered (s.appliedAs o c) st).serveDue) ∧
  ∀ (u : State) (a : Applied) (st : Byte) (r0 r1 r2 r3 : Word),
    let t := u.answered a st r0 r1 r2 r3
    let c := a.cmd
    let e : LedgerEntry :=
      ⟨lo16 u.bell.epoch, hi16 u.bell.epoch, word ((Desc.opcode c.desc).toNat % 128 * 2 ^ 9 + (Cmd.tag c).toNat),
       word (st.toNat % 128 * 2 ^ 9 + a.order % 512)⟩
    t = { u with q := t.q, obs := t.obs } ∧
    t.obs = { u.obs with tally := t.obs.tally, queue := t.obs.queue, lostSince := t.obs.lostSince, lost := t.obs.lost } ∧
    t.q = { u.q with outcomes := u.q.outcomes ++ [⟨a, st, r0, r1, r2, r3, u.bell.bellNo + 1⟩], ledger := t.q.ledger } ∧
    t.q.ledger[c.pitch] = { newest := (e :: u.q.ledger[c.pitch].newest).take 256, written := u.q.ledger[c.pitch].written + 1 } ∧
    ∀ p : Pitch, p ≠ c.pitch → t.q.ledger[p] = u.q.ledger[p]

/-- Admitted, with every address of the block in reach, no reserved argument bit and unused words zero, READ_BLOCK answers ST_OK with
the words as the pitch reads them at the boundary of the epoch, with the selectors of that moment (R320, R644), and WRITE_BATTEN writes
each word in turn with the selectors as they stood; COMMIT_BATTEN of a batten that passes its checks arms the shadow set, or puts it in
force at once on a stopped lane. Each then records its answer and does nothing else. -/
def Obligations.BlocksReadWriteAndCommit : Prop :=
  (∀ (s : State) (c : Cmd) (ws : List Word), s.admits c .readBlock → s.atBoundary.readBlockWords c.pitch c.desc = some ws →
    blockReserved c.desc = false → restZero c.desc 1 = true →
    exec (.readBlock c) s = .next ((s.taken .readBlock c).answered (s.appliedAs .readBlock c) stOk
      (ws.getD 0 0) (ws.getD 1 0) (ws.getD 2 0) (ws.getD 3 0)).serveDue) ∧
  (∀ (s : State) (c : Cmd), s.admits c .writeBatten → (s.readBlockWords c.pitch c.desc).isSome = true →
    blockReserved c.desc = false → ((Desc.tail4 c.desc).drop (blockAddrs c.desc).length).all (· == 0) = true →
    let x := s.q.sel[c.pitch]
    let u := ((blockAddrs c.desc).zip (Desc.tail4 c.desc)).foldl
      (fun s w => s.writeReg false c.pitch x (blockPage c.desc) w.1 w.2) (s.taken .writeBatten c)
    exec (.writeBatten c) s = .next (u.answered (s.appliedAs .writeBatten c) stOk).serveDue) ∧
  ∀ (s : State) (c : Cmd) (b : BattenId), s.admits c .commitBatten →
    battenOf (blockPage c.desc) (bits c.desc.w3 0 4) = some b → s.commitCheck c.pitch c.desc b = none →
    exec (.commitBatten c) s = .next (((s.taken .commitBatten c).armBatten b).answered (s.appliedAs .commitBatten c) stOk).serveDue

/-- Admitted, from the lane's owner, on a STOPPED lane whose armed sets have taken force (that they take it there is the model's
reading, State.takeAll, log entry 22) and which passes checks 1 to 11 of R419, LANE_START completes its application with the direction
and target it names in force: where the motor turns that way above REV_LIMIT, in RUN (R426; the row and the interval that RUN then
starts from are the model's reading where tracking has none, Lane.tracked, log entry 23); else in ALIGN with its start in progress, or,
with ALIGN_TIME 0, past it: in RAMP with a profile of at least one entry, with none in HANDOVER, or with a stall counted where HO_LIMIT
is 0 too. That its ledger entry reads ST_OK while it is in progress is the model's reading (log entry 59). A LANE_REVERSE of a lane
neither STOPPED nor STOPPING at or below REV_LIMIT toggles the direction and starts from ALIGN in the same way, in RESTART_WAIT it only
toggles and keeps waiting; above REV_LIMIT it answers ST_SPEED_HIGH and changes nothing. No other lane changes. -/
def Obligations.LaneStartAndReverseTurnTheMotor : Prop :=
  let unaligned (x : LaneCommut) (u : State) (n : LaneIx) : Prop :=
    (1 ≤ x.profile.steps → (u.ln n).com.state = .ramp) ∧
    (x.profile.steps = 0 → 0 < bits x.profile.hoLimit 0 8 → (u.ln n).com.state = .handover) ∧
    (x.profile.steps = 0 → bits x.profile.hoLimit 0 8 = 0 → (u.ln n).com.stallCount = satInc x.stallCount)
  (∀ (s : State) (c : Cmd) (n : LaneIx), s.admits c .laneStart → Cmd.lane c = some n → s.ownsLane c.pitch n = true →
    restZero c.desc 2 = true → (s.ln n).running = false →
    let a := s.appliedAs .laneStart c
    let v := (s.taken .laneStart c).takeAll n s.now
    let l := v.ln n
    let turning : Prop := l.com.set.live.revLimit < l.com.speedMeas ∧ l.com.rotDir = bit c.desc.w4 0
    firstFail (v.startChecks c.pitch n c.desc) = none →
    ∃ u : State, exec (.laneStart c) s = .next (u.ledgerWrite a stOk).serveDue ∧ State.laneOnly n (s.taken .laneStart c) u ∧
      (u.ln n).com.dir = bit c.desc.w4 0 ∧ (u.ln n).com.target = c.desc.w3 ∧
      (turning → (u.ln n).com.state = .run ∧ (u.ln n).ops.start = none) ∧
      (¬ turning → bits l.com.profile.alignTime 0 8 ≠ 0 → (u.ln n).com.state = .align ∧ (u.ln n).ops.start = some a) ∧
      (¬ turning → bits l.com.profile.alignTime 0 8 = 0 → unaligned l.com u n)) ∧
  (∀ (s : State) (c : Cmd) (n : LaneIx), s.admits c .laneReverse → Cmd.lane c = some n → s.ownsLane c.pitch n = true →
    restZero c.desc 0 = true → (s.ln n).steerable = true → (s.ln n).com.speedMeas ≤ (s.ln n).com.set.live.revLimit →
    let a := s.appliedAs .laneReverse c
    ∃ u : State, exec (.laneReverse c) s = .next (u.ledgerWrite a stOk).serveDue ∧ State.laneOnly n (s.taken .laneReverse c) u ∧
      (u.ln n).com.dir = !(s.ln n).com.dir ∧
      ((s.ln n).com.state = .restartWait → (u.ln n).com.state = .restartWait ∧ (u.ln n).ops.start = some a) ∧
      ((s.ln n).com.state ≠ .restartWait → bits (s.ln n).com.profile.alignTime 0 8 ≠ 0 →
        (u.ln n).com.state = .align ∧ (u.ln n).ops.start = some a) ∧
      ((s.ln n).com.state ≠ .restartWait → bits (s.ln n).com.profile.alignTime 0 8 = 0 → unaligned (s.ln n).com u n)) ∧
  ∀ (s : State) (c : Cmd) (n : LaneIx), s.admits c .laneReverse → Cmd.lane c = some n → s.ownsLane c.pitch n = true →
    restZero c.desc 0 = true → (s.ln n).steerable = true → (s.ln n).com.set.live.revLimit < (s.ln n).com.speedMeas →
    exec (.laneReverse c) s = .next ((s.taken .laneReverse c).answered (s.appliedAs .laneReverse c) stSpeedHigh).serveDue

/-- Admitted and from the lane's owner: LANE_CLEAR_LATCH of a lane whose latch is clear completes with ST_OK, result word 0 at 0x0000,
and changes nothing (R367); of a latched lane it clears the latch with result 0 where no latch source asserts, and sets it again from
the source with result 1 and a new LANE_LATCHED event where one does. LANE_STOP with a mode of R442 leaves a running lane STOPPING or
STOPPED, its ledger entry reading ST_OK while the stop goes on (the model's reading, log entry 59), answers ST_OK on a STOPPED one, and
ends the retry wait of a stopped one. LANE_SET_SPEED of a lane neither STOPPED nor STOPPING, with a target in range, answers the target
raised to RUN_MIN, which waits for the next carrier boundary; one out of range answers ST_INCONSISTENT with reason 5. No other lane
changes. -/
def Obligations.ClearLatchStopAndSetSpeedAct : Prop :=
  let mine (s : State) (c : Cmd) (o : Opcode) (n : LaneIx) : Prop :=
    s.admits c o ∧ Cmd.lane c = some n ∧ s.ownsLane c.pitch n = true
  (∀ (s : State) (c : Cmd) (n : LaneIx), mine s c .laneClearLatch n → restZero c.desc 0 = true →
    let a := s.appliedAs .laneClearLatch c
    let v := s.taken .laneClearLatch c
    ((s.ln n).latch.latched = false → exec (.laneClearLatch c) s = .next (v.answered a stOk).serveDue) ∧
    ((s.ln n).latch.latched = true → s.latchSource n = none →
      ∃ u : State, exec (.laneClearLatch c) s = .next (u.answered a stOk).serveDue ∧ State.laneOnly n v u ∧
        (u.ln n).latch.latched = false ∧ (u.ln n).latch.src = 0 ∧ (u.ln n).com.state = .stopped) ∧
    ∀ src : Byte, (s.ln n).latch.latched = true → s.latchSource n = some src →
      ∃ u : State, exec (.laneClearLatch c) s = .next (u.answered a stOk 1).serveDue ∧ State.laneOnly n v u ∧
        (u.ln n).latch.latched = true ∧ (u.ln n).latch.src = src ∧ (u.ln n).com.state = .stopped ∧
        ⟨c.pitch, s.eventEntry 0x01 n.val 0x10 (word src.toNat) 0 0 0⟩ ∈ u.q.events) ∧
  (∀ (s : State) (c : Cmd) (n : LaneIx) (m : StopMode), mine s c .laneStop n → restZero c.desc 1 = true →
    (s.ln n).namedMode c.desc.w3 = some m →
    let a := s.appliedAs .laneStop c
    let v := s.taken .laneStop c
    ((s.ln n).running = true → ∃ u : State, exec (.laneStop c) s = .next (u.ledgerWrite a stOk).serveDue ∧ State.laneOnly n v u ∧
      ((u.ln n).com.state = .stopping ∨ (u.ln n).com.state = .stopped)) ∧
    ((s.ln n).running = false → (s.ln n).gate.waiting = false → exec (.laneStop c) s = .next (v.answered a stOk).serveDue) ∧
    ((s.ln n).running = false → (s.ln n).gate.waiting = true →
      ∃ u : State, exec (.laneStop c) s = .next (u.answered a stOk (word StopMode.coast.code) 0 0 (s.ln n).com.speedMeas).serveDue ∧
        State.laneOnly n v u ∧ (u.ln n).gate.waiting = false ∧ (u.ln n).com = (s.ln n).com)) ∧
  ∀ (s : State) (c : Cmd) (n : LaneIx), mine s c .laneSetSpeed n → restZero c.desc 1 = true → (s.ln n).steerable = true →
    let a := s.appliedAs .laneSetSpeed c
    let w : Word := if c.desc.w3 < (s.ln n).com.set.live.runMin then (s.ln n).com.set.live.runMin else c.desc.w3
    (targetOk c.desc.w3 = true → exec (.laneSetSpeed c) s = .next (((s.taken .laneSetSpeed c).modLn n fun l =>
      { l with com := { l.com with targetNext := some w } }).answered a stOk w).serveDue) ∧
    (targetOk c.desc.w3 = false → exec (.laneSetSpeed c) s = .next ((s.taken .laneSetSpeed c).answered a stInconsistent 0 0 5).serveDue)

/-- Admitted, from the owner of a STOPPED lane on which no measurement runs and none of the five commands was applied in this bell, with
the checks of the opcode passed, LANE_CALIBRATE, LANE_RESEAT (a consistent staged profile), LANE_OFFSTATE_DIAG (a mode below 3, SERIAL,
the rail in its window and VGD good) and LANE_SELFTEST (SERIAL) start their measurement and change nothing else but the mark of the bell
and the ledger entry, which reads ST_OK (the model's reading, log entry 59). OFFSET_MEASURED ends a calibration or reseat with the
verdict of R397 and R398, DIAG_STEP_END takes a step's readings and after the fourth answers the verdict, and SELFTEST_END answers the
pass bits. -/
def Obligations.LaneMeasurementsStartAndEnd : Prop :=
  let quiet (s : State) (n : LaneIx) : Prop :=
    (s.ln n).running = false ∧ s.laneBusy n = false ∧ s.clk.rootOk = true ∧ (s.ln n).floated s.now = true ∧ (s.ln n).quiet s.now = true
  let mine (s : State) (c : Cmd) (o : Opcode) (n : LaneIx) : Prop :=
    s.admits c o ∧ Cmd.lane c = some n ∧ s.ownsLane c.pitch n = true
  let started (s : State) (c : Cmd) (o : Opcode) (n : LaneIx) (m : Measuring) : State :=
    (((s.taken o c).markApplied n true).startMeasure n m).ledgerWrite (s.appliedAs o c) stOk
  (∀ (s : State) (c : Cmd) (n : LaneIx), mine s c .laneCalibrate n → restZero c.desc 0 = true → quiet s n →
    exec (.laneCalibrate c) s =
      .next (started s c .laneCalibrate n { what := s.appliedAs .laneCalibrate c, kind := .calibrate }).serveDue) ∧
  (∀ (s : State) (c : Cmd) (n : LaneIx), mine s c .laneReseat n → restZero c.desc 0 = true → quiet s n →
    (s.ln n).com.staged.bad = false →
    exec (.laneReseat c) s = .next (started s c .laneReseat n
      { what := s.appliedAs .laneReseat c, kind := .reseat, profile := (s.ln n).com.staged }).serveDue) ∧
  (∀ (s : State) (c : Cmd) (n : LaneIx), mine s c .laneOffstateDiag n → quiet s n → bits c.desc.w3 0 2 ≠ 3 →
    bits c.desc.w3 2 14 = 0 → restZero c.desc 1 = true → (s.ln n).pin = false → s.railOut n = false → s.pwr.vgdOk = true →
    exec (.laneOffstateDiag c) s = .next (((((s.taken .laneOffstateDiag c).markApplied n true).modLn n fun l =>
      { l with gate := { l.gate with diagNew := Vector.replicate 4 {} } }).startMeasure n
        { what := s.appliedAs .laneOffstateDiag c, kind := .diag 0, vb := s.railTenths n }).ledgerWrite
          (s.appliedAs .laneOffstateDiag c) stOk).serveDue) ∧
  (∀ (s : State) (c : Cmd) (n : LaneIx), mine s c .laneSelftest n → restZero c.desc 0 = true → (s.ln n).running = false →
    (s.ln n).pin = false → s.laneBusy n = false → s.clk.rootOk = true → (s.ln n).allOff = true →
    exec (.laneSelftest c) s =
      .next (started s c .laneSelftest n { what := s.appliedAs .laneSelftest c, kind := .selftest }).serveDue) ∧
  (∀ (s : State) (n : LaneIx) (sum : Nat) (m : Measuring), (s.ln n).ops.measure = some m →
    (m.kind = .calibrate ∨ m.kind = .reseat) → m.ended = none →
    let mean := roundHalfAway sum 64
    let off := mean - 512
    let reason : Nat :=
      if m.disturbed then 2 else if 327 < off.natAbs then 3
      else if 122 < (off - s.factoryOffset n (s.ln n).sense.set.live.gain).natAbs then 4 else 0
    let u := s.modLn n fun l => { l with
      ops := { l.ops with measure := some { m with ended := some (reason == 0), offset := off } }
      sense := { l.sense with
        calReason := BitVec.ofNat 3 reason, calMean := if reason = 2 then l.sense.calMean else BitVec.ofInt 12 mean } }
    exec (.offsetMeasured n sum) s = .next (
      if reason = 2 then u.finish m.what stCalCondition 0 0 2 0
      else u.finish m.what (if reason = 0 then stOk else stCalCondition) (sword mean) (sword off) (word reason) 0)) ∧
  (∀ (s : State) (n : LaneIx) (u v w : BitVec 10) (m : Measuring) (k : Fin 4), (s.ln n).ops.measure = some m →
    m.kind = .diag k → m.ended = none →
    let r := vset (s.ln n).gate.diagNew k ⟨u, v, w⟩
    ∃ t : State, exec (.diagStepEnd n u v w) s = .next t ∧ (t.ln n).gate = { (s.ln n).gate with diagNew := r } ∧
      State.laneOnly n s t ∧
      (k.val < 3 → ∃ j : Fin 4, j.val = k.val + 1 ∧ (t.ln n).ops.measure = some { m with kind := .diag j } ∧ t.q = s.q) ∧
      (k.val = 3 → m.disturbed = false → let x := verdict r m.vb.toNat
        (t.ln n).ops.measure = some { m with ended := some true, cmp := x } ∧
        t.q.outcomes = s.q.outcomes ++ [⟨m.what, stOk, word x.toNat, word m.vb.toNat, 0, 0, s.bell.bellNo + 1⟩]) ∧
      (k.val = 3 → m.disturbed = true → (t.ln n).ops.measure = some { m with ended := some false } ∧
        t.q.outcomes = s.q.outcomes ++ [⟨m.what, stCalCondition, 0, 0, 2, 0, s.bell.bellNo + 1⟩])) ∧
  ∀ (s : State) (n : LaneIx) (cmp : BitVec 7) (vds : BitVec 6) (m : Measuring), (s.ln n).ops.measure = some m →
    m.kind = .selftest → m.ended = none →
    exec (.selftestEnd n cmp vds) s = .next ((s.modLn n fun l =>
      { l with ops := { l.ops with measure := some { m with ended := some true, cmp := cmp, vds := vds } } }).finish m.what stOk
        (word cmp.toNat) (word vds.toNat) 0 0)

/-- Admitted, from the tracker's owner and with consistent arguments: STAGE writes its entries into the staging table and nothing else;
SEAT seats the staged table in UNSYNC and answers its length and its sum; WINDOW_ARM puts the window it names, closed and armed, and
WINDOW_DISARM disarms and closes the windows of its mask, each answering the armed mask. No other tracker changes. -/
def Obligations.ToothTablesAndWindowsAreSet : Prop :=
  let mine (s : State) (c : Cmd) (o : Opcode) : Prop := s.admits c o ∧ s.ownsTrk c.pitch (Desc.tracker c.desc) = true
  (∀ (s : State) (c : Cmd), mine s c .wheelLoadTable →
    let n := Desc.tracker c.desc
    let k := bits c.desc.w3 8 2 + 1
    let first := bits c.desc.w3 0 7
    let e := Cmd.withOp c 0
    bits c.desc.w3 10 2 = 0 → bit c.desc.w3 7 = false → first + k ≤ 128 →
    ((Desc.tail4 c.desc).drop k).all (· == 0) = true →
    exec (.wheelLoadTableStage c) s = .next (((s.taken .wheelLoadTable e).modTk n fun x =>
      { x with staging := Vector.ofFn fun i =>
          if first ≤ i.val ∧ i.val < first + k then (Desc.tail4 c.desc).getD (i.val - first) 0 else x.staging[i] }).answered
        (s.appliedAs .wheelLoadTable e) stOk).serveDue) ∧
  (∀ (s : State) (c : Cmd), mine s c .wheelLoadTable →
    let n := Desc.tracker c.desc
    let k := bits c.desc.w4 0 8
    let table : ToothTable := { free := bit c.desc.w4 15, teeth := (s.tk n).staging.toList.take k }
    let e := Cmd.withOp c 1
    bits c.desc.w3 0 12 = 0 → bits c.desc.w4 8 7 = 0 → c.desc.w5 = 0 → c.desc.w6 = 0 → c.desc.w7 = 0 → k ≤ 128 →
    table.bad = false → ∃ u : State,
      exec (.wheelLoadTableSeat c) s = .next (u.answered (s.appliedAs .wheelLoadTable e) stOk (word k)
        (word ((table.teeth.map BitVec.toNat).sum))).serveDue ∧
      State.trackerOnly n (s.taken .wheelLoadTable e) u ∧ (u.tk n).table = table ∧ (u.tk n).seated = true ∧
      (u.tk n).sync = .unsync) ∧
  (∀ (s : State) (c : Cmd), mine s c .windowArm →
    let n := Desc.tracker c.desc
    let v : Window := { start := c.desc.w4, stop := c.desc.w5, cfg := c.desc.w6, armed := true }
    s.targetForeign c.pitch v = false → armBad c.desc = false → ∃ u : State,
      exec (.windowArm c) s = .next (u.answered (s.appliedAs .windowArm c) stOk (u.tk n).armedMask).serveDue ∧
      State.trackerOnly n (s.taken .windowArm c) u ∧
      ∀ w : WinIx, (u.tk n).windows[w] = if w.val = bits c.desc.w3 0 4 then v else (s.tk n).windows[w]) ∧
  ∀ (s : State) (c : Cmd), mine s c .windowDisarm →
    let n := Desc.tracker c.desc
    bits c.desc.w3 14 2 = 0 → bits c.desc.w3 0 12 = 0 → c.desc.w5 = 0 → c.desc.w6 = 0 → c.desc.w7 = 0 → ∃ u : State,
      exec (.windowDisarm c) s = .next (u.answered (s.appliedAs .windowDisarm c) stOk (u.tk n).armedMask).serveDue ∧
      State.trackerOnly n (s.taken .windowDisarm c) u ∧
      ∀ w : WinIx, if bit c.desc.w4 w.val then (u.tk n).windows[w].armed = false ∧ (u.tk n).windows[w].isOpen = false
        else (u.tk n).windows[w] = (s.tk n).windows[w]

/-- Admitted and with consistent arguments, THERMAL_QUERY of a sensor in reach answers its temperature, rate, state word and the median
of its reference (0x8000 without one) at the boundary of the epoch; FUSE_READ answers what R136 to R138 give for its address, a readable
word in reach whose check passes with ST_OK and its two halves, and never changes the fuses; TALLY_SNAPSHOT of the pitch's own tallies
answers their values at the boundary and, with CLEAR, clears each once at the boundary, so that what was counted since, or since a write
of TALLY_SRC in this epoch, stays, and leaves tallies it does not name as they were but for the counts of its own trace and ledger
entries. -/
def Obligations.QueriesAndSnapshotsAnswerValues : Prop :=
  (∀ (s : State) (c : Cmd) (i : SensorIx), s.admits c .thermalQuery → bits c.desc.w3 0 4 = i.val → bits c.desc.w3 4 12 = 0 →
    restZero c.desc 1 = true → s.sensorReach c.pitch i = true →
    let x := s.atBoundary.sn i
    exec (.thermalQuery c) s = .next ((s.taken .thermalQuery c).answered (s.appliedAs .thermalQuery c) stOk
      x.tempWord (sword (rateShown x.rate)) x.stateWord
      (match s.atBoundary.heat.median i with | some m => sword m | none => 0x8000)).serveDue) ∧
  (∀ (s : State) (c : Cmd), s.admits c .fuseRead →
    let r := s.fuseReadResult c.pitch c.desc
    let a := Desc.fuseAddr c.desc
    exec (.fuseRead c) s = .next ((s.taken .fuseRead c).answered (s.appliedAs .fuseRead c) r.status r.r0 r.r1 r.r2 r.r3).serveDue ∧
    (a ≤ 0x7FF → (regionOwner (a / 128) = c.pitch ∨ a / 128 = 1 ∨ a / 128 = 3) → s.rlocked (a / 128) = false →
      (a / 128 < 8 ∨ 8 ≤ a % 16) → bits c.desc.w3 12 4 = 0 → (Desc.tail4 c.desc).all (· == 0) = true →
      (readFuse s.fuse.image a).ok = true →
      r = { status := stOk, r0 := lo16 (readFuse s.fuse.image a).value, r1 := hi16 (readFuse s.fuse.image a).value })) ∧
  ∀ (s : State) (c : Cmd) (l : List TallyIx), s.admits c .tallySnapshot → snapshotTallies c.desc = some l →
    (∀ i ∈ l, s.pit.own.tally[i] = some c.pitch) → bit c.desc.w3 6 = false → bits c.desc.w3 9 7 = 0 → restZero c.desc 1 = true →
    let was (i : TallyIx) : DWord := s.atBoundary.obs.tally[i].value
    let v (k : Nat) : DWord := (l.map fun i => if i ∈ s.obs.cleared then 0 else was i).getD k 0
    ∃ u : State, exec (.tallySnapshot c) s = .next (u.answered (s.appliedAs .tallySnapshot c) stOk
        (lo16 (v 0)) (hi16 (v 0)) (lo16 (v 1)) (hi16 (v 1))).serveDue ∧
      u = { s.taken .tallySnapshot c with obs := u.obs } ∧
      (bit c.desc.w3 7 = false → u.obs.tally = s.obs.tally ∧ u.obs.cleared = s.obs.cleared) ∧
      (bit c.desc.w3 7 = true → ∀ i : TallyIx,
        if i ∈ l ∧ i ∉ s.obs.cleared then
          i ∈ u.obs.cleared ∧ u.obs.tally[i] = { s.obs.tally[i] with
            value := if i ∈ s.obs.restarted then s.obs.tally[i].value else s.obs.tally[i].value - was i }
        else u.obs.tally[i] = s.obs.tally[i])

/-- Admitted and past its application checks, each of the three fuse commands, a lock that is set already too (the model's choice, log
entry 77), joins the operations that wait, with what it programs, its ledger entry reads ST_OK (the model's reading, log entry 59), and
no completion is on its way yet; one that a check refuses answers that status and programs nothing. The completion of every
FUSE_PROGRAM_WORD, refused or not, is posted with the spares left at that moment in result word 0 [7:4] (R148, R661). -/
def Obligations.FuseCommandsWaitForTheirWindow : Prop :=
  let waits (s : State) (c : Cmd) (o : Opcode) (k : FuseKind) : State :=
    let u := s.taken o c
    ({ u with fuse := { u.fuse with ops := u.fuse.ops ++ [({ what := s.appliedAs o c, kind := k } : FuseOp)] } }).ledgerWrite
      (s.appliedAs o c) stOk
  (∀ (s : State) (c : Cmd), s.admits c .fuseProgramWord → exec (.fuseProgramWord c) s = .next (
    if s.fuseProgramCheck c.pitch c.desc = stOk then
      waits s c .fuseProgramWord (.word (c.desc.w3.setWidth 12) (Desc.fuseValue c.desc))
    else (s.taken .fuseProgramWord c).answered (s.appliedAs .fuseProgramWord c) (s.fuseProgramCheck c.pitch c.desc)).serveDue) ∧
  (∀ (s : State) (c : Cmd) (l : LifeCycle), s.admits c .lifecycleAdvance → s.advanceCheck c.pitch c.desc = (stOk, some l) →
    exec (.lifecycleAdvance c) s = .next (waits s c .lifecycleAdvance (.lifeCycle l)).serveDue) ∧
  (∀ (s : State) (c : Cmd) (st : Byte), s.admits c .lifecycleAdvance → s.advanceCheck c.pitch c.desc = (st, none) →
    exec (.lifecycleAdvance c) s = .next ((s.taken .lifecycleAdvance c).answered (s.appliedAs .lifecycleAdvance c) st).serveDue) ∧
  (∀ (s : State) (c : Cmd), s.admits c .keyRoll → exec (.keyRoll c) s = .next (
    if s.rollCheck c.pitch c.desc = stOk then waits s c .keyRoll (.keyRoll (partySalt c.desc))
    else (s.taken .keyRoll c).answered (s.appliedAs .keyRoll c) (s.rollCheck c.pitch c.desc)).serveDue) ∧
  ∀ (s : State) (d : Done), Desc.opcode d.what.cmd.desc = Opcode.fuseProgramWord.code →
    (s.completionEntry d).w4 = (d.r0 &&& 0x000F) ||| word (sparesLeft s.fuse.image d.what.cmd.pitch * 16)

/-- Admitted and with consistent arguments, GRANT sets the acting pitch's grant mask and REVOKE clears it, each answering the effective
mask it leads to; COUNTERSIGN by P0 sets the countersign mask of the named pitch, a mask of 0 withdrawing it, and answers it (R601).
Each change waits for the next boundary, and the masks in force, other pitches' masks and everything else stay. -/
def Obligations.ConsentMasksAreSetForTheNextBoundary : Prop :=
  let mask (c : Cmd) : Byte := BitVec.ofNat 8 (bits c.desc.w3 0 8)
  (∀ (s : State) (c : Cmd), s.admits c .traceConsent → bits c.desc.w3 7 7 = 0 → restZero c.desc 1 = true →
    let e := Cmd.withOp c 0
    let u := s.taken .traceConsent e
    let v := { u with obs := { u.obs with grantNext := vset u.obs.grantNext c.pitch (mask c) } }
    exec (.traceConsentGrant c) s = .next (v.answered (s.appliedAs .traceConsent e) stOk
      (word (v.obs.effectiveNext c.pitch).toNat)).serveDue) ∧
  (∀ (s : State) (c : Cmd), s.admits c .traceConsent → bits c.desc.w3 0 14 = 0 → restZero c.desc 1 = true →
    let e := Cmd.withOp c 1
    let u := s.taken .traceConsent e
    let v := { u with obs := { u.obs with grantNext := vset u.obs.grantNext c.pitch 0 } }
    exec (.traceConsentRevoke c) s = .next (v.answered (s.appliedAs .traceConsent e) stOk
      (word (v.obs.effectiveNext c.pitch).toNat)).serveDue) ∧
  ∀ (s : State) (c : Cmd) (p : Pitch), s.admits c .traceConsent → c.pitch = 0 → bits c.desc.w3 8 3 = p.val →
    bits c.desc.w3 11 3 = 0 → bit c.desc.w3 7 = false → restZero c.desc 1 = true →
    let e := Cmd.withOp c 2
    let u := s.taken .traceConsent e
    exec (.traceConsentCountersign c) s = .next (
      ({ u with obs := { u.obs with countersignNext := vset u.obs.countersignNext p (mask c) } }).answered
        (s.appliedAs .traceConsent e) stOk (word (mask c).toNat)).serveDue

/-- Admitted otherwise, LEASE_RENEW submitted through the ring completes with ST_NO_OBJECT (R324) and so do BENCH_HOLD and BENCH_RELEASE
from any pitch other than P0 (R325), all without effect. From the host door and the host pitch, LEASE_RENEW sets the lease to L bells, L
first taking argument byte 0 where it is not 0, and the lease is no longer out. From P0, BENCH_HOLD and BENCH_RELEASE stand ready for
the next boundary. -/
def Obligations.RingLeaseRenewalFindsNoObject : Prop :=
  let refused (s : State) (c : Cmd) (o : Opcode) : State := (s.taken o c).answered (s.appliedAs o c) stNoObject
  (∀ (s : State) (c : Cmd), s.admits c .leaseRenew → c.door = .ring →
    exec (.leaseRenew c) s = .next (refused s c .leaseRenew).serveDue) ∧
  (∀ (s : State) (c : Cmd), c.pitch ≠ 0 →
    (s.admits c .benchHold → exec (.benchHold c) s = .next (refused s c .benchHold).serveDue) ∧
    (s.admits c .benchRelease → exec (.benchRelease c) s = .next (refused s c .benchRelease).serveDue)) ∧
  (∀ (s : State) (c : Cmd), s.admits c .leaseRenew → c.door = .host → c.pitch = s.pit.hostPitch → bits c.desc.w3 8 8 = 0 →
    restZero c.desc 1 = true →
    let u := s.taken .leaseRenew c
    let len : Byte := if bits c.desc.w3 0 8 = 0 then s.host.leaseLen else BitVec.ofNat 8 (bits c.desc.w3 0 8)
    exec (.leaseRenew c) s = .next (({ u with host := { u.host with
      leaseLen := len, leaseLeft := len.toNat, leaseOn := true, leaseOut := false } }).answered (s.appliedAs .leaseRenew c) stOk).serveDue) ∧
  ∀ (s : State) (c : Cmd), c.pitch = 0 → restZero c.desc 0 = true →
    (s.admits c .benchHold → let u := s.taken .benchHold c
      exec (.benchHold c) s = .next (({ u with q := { u.q with holdNext := some true } }).answered (s.appliedAs .benchHold c) stOk).serveDue) ∧
    (s.admits c .benchRelease → let u := s.taken .benchRelease c
      exec (.benchRelease c) s =
        .next (({ u with q := { u.q with holdNext := some false } }).answered (s.appliedAs .benchRelease c) stOk).serveDue)

/-- Admitted, REOPEN by P0 answers ST_OK without effect in an open market; in a closed one, where no cause is present, it answers ST_OK
with the arisen causes and the market to open at the next boundary, else ST_CLOSED with the causes present (R592, R593). What takes
force before the commands of that boundary opens the market with ARISEN and CLOSE_FIRST at 0 (R594), a CLOSURE event with word 4 at 0
for every pitch, and leaves running lanes as they are. That PRESENT shows arisen causes alone is the model's reading (log entry 9), as
is that a cause declared meanwhile leaves the opening standing (log entry 29). -/
def Obligations.ReopenOpensTheMarketAtTheNextBoundary : Prop :=
  (∀ (s : State) (c : Cmd), s.admits c .reopen → c.pitch = 0 → restZero c.desc 0 = true →
    let a := s.appliedAs .reopen c
    let u := s.taken .reopen c
    let v := if bit s.dev.arisen 3 = true ∧ senseFails s.fuse.array = false then { u with fuse := { u.fuse with critFail := false } } else u
    (s.dev.closed = false → exec (.reopen c) s = .next (u.answered a stOk).serveDue) ∧
    (s.dev.closed = true → v.present = 0 → exec (.reopen c) s = .next (({ v with dev := { v.dev with
      reopenNext := true } }).answered a stOk (word s.dev.arisen.toNat)).serveDue) ∧
    (s.dev.closed = true → v.present ≠ 0 → exec (.reopen c) s = .next (v.answered a stClosed (word v.present.toNat)).serveDue)) ∧
  (∀ (s : State) (jump first : Bool), s.dev.reopenNext = true →
    let u := s.beforeCommands jump first
    u.dev.closed = false ∧ u.dev.arisen = 0 ∧ u.dev.closeFirst = 0 ∧ u.dev.reopenNext = false) ∧
  (∀ s : State, s.dev.reopenNext = true →
    (∀ p : Pitch, ⟨p, s.eventEntry 0 0 0x03 0 0 0 0⟩ ∈ s.reopenMarket.q.events) ∧
    ∀ n : LaneIx, (s.ln n).running = true → s.reopenMarket.ln n = s.ln n) ∧
  ∀ (s : State) (cause : Nat) (t : Ticks) (i : Option SensorIx),
    (s.declareCause cause t i).dev.reopenNext = s.dev.reopenNext

/-- Admitted otherwise, ASSIGN and REOPEN from any pitch other than P0 complete with ST_NO_OBJECT (R246), and P0's ASSIGN of queue group
0 completes with ST_INCONSISTENT (R249), all without effect. P0's ASSIGN of a defined class and an existing object to a value in range,
past the checks of R651 against what the earlier ones of its epoch leave, completes with the old value in result word 0 and, where the
value is new, a change that waits for the next boundary. There each waiting change gives what it names its new owner or value, and
everything else that ASSIGN can name keeps its own; a moved lane is stopped with its commutation and gate registers at reset, a moved
tracker is at reset, and a moved queue group is empty and holds nothing (R257). -/
def Obligations.AssignMovesOneObject : Prop :=
  (∀ (s : State) (c : Cmd), c.pitch ≠ 0 →
    (s.admits c .assign → exec (.assign c) s = .next ((s.taken .assign c).answered (s.appliedAs .assign c) stNoObject).serveDue) ∧
    (s.admits c .reopen → exec (.reopen c) s = .next ((s.taken .reopen c).answered (s.appliedAs .reopen c) stNoObject).serveDue)) ∧
  (∀ (s : State) (c : Cmd), s.admits c .assign → c.pitch = 0 → c.desc.w3 = 0x0500 →
    exec (.assign c) s = .next ((s.taken .assign c).answered (s.appliedAs .assign c) stInconsistent
      (word (s.pit.projected.assigned (.group 0)))).serveDue) ∧
  (∀ (s : State) (c : Cmd) (k : AssignTo), s.admits c .assign → c.pitch = 0 →
    assignTo (bits c.desc.w3 8 8) (bits c.desc.w3 0 8) = some k → s.assignExists k = true → k ≠ .group 0 →
    let v := bits c.desc.w4 0 15
    let force := bit c.desc.w4 15
    let now := s.pit.projected.assigned k
    k.range.1 ≤ v → v ≤ k.range.2 → ¬ (k.isFront = true ∧ force = true) → restZero c.desc 2 = true →
    (force = true ∨ now = v ∨ s.assignFree k = none) → (now = v ∨ s.pit.projected.assignFits k v = true) →
    let u := s.taken .assign c
    let w := if now = v then u
      else { u with pit := { u.pit with moves := u.pit.moves ++ [{ what := k, value := v, force := force }] } }
    exec (.assign c) s = .next (w.answered (s.appliedAs .assign c) stOk (word now)).serveDue) ∧
  (∀ s : State, s.takeMoves.pit = { s.pit.moves.foldl Pitches.assign s.pit with moves := [] }) ∧
  (∀ (x : Pitches) (m : Move), m.value ≤ m.what.range.2 →
    (x.assign m).assigned m.what = m.value ∧ ∀ j : AssignTo, j ≠ m.what → (x.assign m).assigned j = x.assigned j) ∧
  (∀ (s : State) (n : LaneIx) (v : Nat) (force : Bool),
    let u := s.assignDo { what := .lane n, value := v, force := force }
    (u.ln n).com = {} ∧ (u.ln n).gate = {} ∧ (u.ln n).ops.start = none ∧ (u.ln n).latch.latched = false ∧
      ∀ m : LaneIx, m ≠ n → u.ln m = s.ln m) ∧
  (∀ (s : State) (n : TrkIx) (v : Nat) (force : Bool),
    let u := s.assignDo { what := .wheel n, value := v, force := force }
    u.tk n = {} ∧ ∀ m : TrkIx, m ≠ n → u.tk m = s.tk m) ∧
  ∀ (s : State) (g : Fin 16) (v : Nat) (force : Bool),
    let u := s.assignDo { what := .group g, value := v, force := force }
    (∀ q : QueueIx, u.q.cq[q] = if groupOf q = g then {} else s.q.cq[q]) ∧ ∀ h ∈ u.q.held, groupOf h.queue ≠ g

/-- At an epoch of pitch p's window with no operation running, FUSE_WINDOW_START takes p's first waiting operation, ended with
ST_FUSE_SUPPLY where the supply is out of range or the market closed. Before its supply settles it ends so at FUSE_SUPPLY_TIMEOUT, and a
word or advance begins its steps at PROGRAMMING_SUPPLY_SETTLED (a roll first draws its salt). A pulse stores what the cell then reads;
where that is not the word, and fewer than four pulses were given, one more is given, else the step is done and the next begins.
FUSE_ABORT ends a running operation with ST_FUSE_SUPPLY and the word in progress partly programmed (with which bits is the model's
choice, log entry 76). Nothing but the fuses and the DRBG changes. -/
def Obligations.FuseWindowRunsItsSteps : Prop :=
  let set (s : State) (r : FuseRun) : State := { s with fuse := { s.fuse with run := some r } }
  (∀ (s : State) (p : Pitch) (o : FuseOp) (rest : List FuseOp), s.bell.epoch.toNat % 16 = 2 * p.val → s.fuse.run = none →
    takeOp p s.fuse.ops = some (o, rest) →
    let r : FuseRun := { op := o, bell := s.bell.bellNo, phase := .supply, steps := [] }
    exec (.fuseWindowStart p) s = .next { s with fuse := { s.fuse with
      ops := rest
      run := some (if s.supplyOk = true ∧ s.dev.closed = false then r else { r with phase := .ended, status := stFuseSupply }) } }) ∧
  (∀ (s : State) (r : FuseRun), s.fuse.run = some r → r.phase = .supply →
    exec .fuseSupplyTimeout s = .next (set s { r with phase := .ended, status := stFuseSupply, steps := [] }) ∧
    ((∀ sp, r.op.kind ≠ .keyRoll sp) →
      exec .programmingSupplySettled s = .next (set s ({ r with steps := r.op.kind.steps s.fuse.array }.begin s.fuse.array))) ∧
    ((∃ sp, r.op.kind = .keyRoll sp) → ∃ (u : State) (x : FuseRun), exec .programmingSupplySettled s = .next u ∧ x.op = r.op ∧
      u = { s with pit := { s.pit with drbg := u.pit.drbg }, fuse := { s.fuse with run := some x } })) ∧
  (∀ (s : State) (r : FuseRun) (x : FuseStep) (rest : List FuseStep) (rb : DWord) (ok : Bool), s.fuse.run = some r →
    r.phase = .pulsing → r.steps = x :: rest →
    let pass : Bool := if 2176 ≤ x.cell then rb &&& x.value == x.value else ok && rb == x.value
    let cell : FuseCell :=
      if 2176 ≤ x.cell then ⟨(fuseAt s.fuse.array x.cell).value ||| (rb &&& x.value), true⟩ else ⟨rb, ok⟩
    let m := fusePut s.fuse.array x.cell cell
    let u : State := { s with fuse := { s.fuse with array := m } }
    exec (.fusePulseEnd rb ok) s = .next (
      if pass = false ∧ r.pulses < 4 then
        set u { r with pulses := r.pulses + 1, used := if x.role.counts then r.pulses + 1 else r.used }
      else set u ((r.stepDone m x rest pass).begin m))) ∧
  ∀ (s : State) (r : FuseRun), s.fuse.run = some r → r.phase ≠ .ended →
    exec .fuseAbort s = .next (set s.leavePartial { r with phase := .ended, status := stFuseSupply, steps := [] })

/-- Of lane n alone, once the events that waited for a free tick have acted: a due carrier boundary starts a period, shows the period
that ended and takes the armed sets, the limit and a waiting target in force, with no valley seen, where it acts at once; in the tick of
a fault latch it is discarded, and behind another event it waits, each counted in MERGE_COUNT; rows that wait in the queue and bear its
tick count as events of that tick (the model's reading, log entry 34). A due end of the on-phase ends it at its instant; a trip keeps it
ended until the next boundary and is counted at its turn. The end of a dead time turns on the side that waited and is still wanted,
where no known end of its pulse removes it, in its first MINPULSE ticks only under judgement where MP_ACT is DROP (log entry 33);
without one the timed edges up to then are placed. In a watched off-phase of COT_ON an output below VALLEY_VDS is noted as a valley, and
one not below it is not. -/
def Obligations.CarrierPeriodsAndPhasesAdvance : Prop :=
  (∀ (s : State) (n : LaneIx) (t : Ticks),
    let v := s.laneTick n t
    let l := v.ln n
    let d := l.car.edges.at t
    l.boundaryDue t = true →
    (v.taskOpen n t 3 → ∃ u : State, exec (.carrierBoundary n t) s = .next u ∧ State.laneOnly n (s.tick t) u ∧
      (u.ln n).car.periodStart = l.car.wrap d ∧ (u.ln n).car.periodLast = satNat 16 (l.car.wrap d - l.car.periodStart) ∧
      (u.ln n).com.target = l.com.targetNext.getD l.com.target ∧ (u.ln n).com.targetNext = none ∧
      (u.ln n).car.valley = false ∧ (u.ln n).car.set.armed = none ∧ (u.ln n).sense.set.armed = none ∧
      (u.ln n).gate.set.armed = none ∧ (u.ln n).sense.ilimEff = (u.ln n).sense.limitNow ∧
      (u.ln n).car.runThrough = (l.car.runThrough && s.clk.runThrough)) ∧
    (l.car.latchTick = some d ∨ v.outranked n d 1 = true →
      exec (.carrierBoundary n t) s = .next (v.modLn n fun l => { l with car.mergeCount := satInc l.car.mergeCount })) ∧
    (l.car.latchTick ≠ some d → v.outranked n d 1 = false →
      (l.car.waiting ≠ [] ∨ d < l.car.taskFree ∨ v.outranked n d 3 = true) →
      exec (.carrierBoundary n t) s = .next (v.modLn n fun l => { l with
        car.mergeCount := satInc l.car.mergeCount, car.waiting := l.car.waiting ++ [⟨.boundary, d⟩] }))) ∧
  (∀ (s : State) (n : LaneIx) (t : Ticks) (why : PhaseEnd),
    let v := s.laneTick n t
    v.onEndDue n t why = true →
    ∃ u : State, exec (.onPhaseEnd n t why) s = .next u ∧ State.laneOnly n (s.tick t) u ∧
      (why ≠ .trip → (u.ln n).car.onPhase = false ∧ (u.ln n).car.phaseEnd = t ∧
        (u.ln n).sense.tripCount = (v.ln n).sense.tripCount) ∧
      (why = .trip → (v.endOn n t true).taskOpen n t 1 → (u.ln n).car.onPhase = false ∧ (u.ln n).car.phaseEnd = t ∧
        (u.ln n).car.tripped = true ∧ (u.ln n).sense.tripCount = satInc (v.ln n).sense.tripCount)) ∧
  (∀ (s : State) (n : LaneIx) (k : PhaseIx) (t : Ticks),
    let v := s.laneTick n t
    let r := v.edges n
    let b := (v.ln n).car.bridges[k].settle r t
    ∃ u : State, exec (.deadTimeEnd n k t) s = .next u ∧ State.laneOnly n (s.tick t) u ∧
      (∀ j : PhaseIx, j ≠ k → (u.ln n).car.bridges[j] = (v.ln n).car.bridges[j]) ∧
      (b.wait = none → (u.ln n).car.bridges[k] = b) ∧
      ∀ side, b.wait = some side → v.want n k = some side → b.readyAt r (v.extraWait n) side ≤ t →
        (u.ln n).car.bridges[k].wait = none ∧
        (v.planFor n k (some side) = none → b.late ≠ some side →
          (r.stretch = true ∨ r.minPulse ≤ 1 →
            (u.ln n).car.bridges[k].level side = true ∧ (u.ln n).car.bridges[k].since side = some t) ∧
          (r.stretch = false → 1 < r.minPulse → (u.ln n).car.bridges[k].young = some t))) ∧
  ∀ (s : State) (n : LaneIx) (t : Ticks) (mv : Int),
    let v := s.laneTick n t
    let watched : Prop := (v.ln n).running = true ∧ (v.ln n).car.set.live.mode = 1 ∧ (v.ln n).car.onPhase = false ∧
      (v.ln n).valleyWatched t = true
    let most : Nat := (v.ln n).sense.set.live.valleyVds.toNat % 256 * 2
    (watched ∧ mv < most → exec (.valleyDetect n t mv) s = .next (v.modLn n fun l => { l with car.valley := true })) ∧
    (¬ watched ∨ (most : Int) ≤ mv → exec (.valleyDetect n t mv) s = .next v)

/-- Of lane n alone, once the events that waited have acted, for events that act at once: a BEMF sample at the sample instant of a
watched row before its crossing moves blanking and the filter on, and is the crossing once ZC_FILTER + 1 samples in a row show it, but
one in the tick of a commutation event, a row of the queue included (log entry 34), is discarded; the event due after a crossing makes
the next row active, and after six consistent crossings of RAMP or HANDOVER enters RUN; a crossing missed in RUN or a RAMP stop is
counted, the first two make the next row active, the third is a stall: RUN gives way to a restart wait or the latch, a RAMP stop to
STOPPED. RESTART_COUNT_CLEAR in RUN without a miss clears the restart count. -/
def Obligations.CrossingsCommutateTheLane : Prop :=
  (∀ (s : State) (n : LaneIx) (t : Ticks) (above : Bool) (k : PhaseIx) (rise : Bool) (e : Ticks),
    let v := s.laneTick n t
    let x := (v.ln n).com
    (v.ln n).expected = some (k, rise) → (v.ln n).watching = true → (v.ln n).car.sampleDue = some t → x.crossed = false →
    v.rowChanges n t = false → x.blankAt t (decide (above ≠ rise)) = some e →
    let z := if above = rise ∧ e ≤ t then x.zcSamples + 1 else 0
    ∃ u : State, exec (.bemfSample n t above) s = .next u ∧ State.laneOnly n (s.tick t) u ∧ (u.ln n).com.blankEnd = some e ∧
      (u.ln n).com.zcSamples = z ∧ (u.ln n).com.crossed = decide (x.set.live.zcFilter + 1 ≤ z) ∧
      (u.ln n).com.zcCount = (if x.set.live.zcFilter + 1 ≤ z then x.zcCount + 1 else x.zcCount)) ∧
  (∀ (s : State) (n : LaneIx) (t : Ticks) (above : Bool),
    let v := s.laneTick n t
    v.rowChanges n t = true ∨ (v.ln n).com.crossed = true ∨ (v.ln n).watching = false ∨ (v.ln n).car.sampleDue ≠ some t →
    exec (.bemfSample n t above) s = .next v) ∧
  (∀ (s : State) (n : LaneIx) (t : Ticks),
    let v := s.laneTick n t
    (v.ln n).commutationDue t = true → v.taskOpen n t 2 →
    ∃ u : State, exec (.commutation n t) s = .next u ∧ State.laneOnly n (s.tick t) u ∧
      (u.ln n).car.row = nextRow (v.ln n).com.dir (v.ln n).car.row ∧ (u.ln n).com.crossed = false ∧
      (u.ln n).com.state = (if (v.ln n).com.state = .stopping then .stopping else .run)) ∧
  (∀ (s : State) (n : LaneIx) (t : Ticks),
    let v := s.laneTick n t
    let x := (v.ln n).com
    (v.ln n).missDue t = true →
    (x.missed.toNat < 2 → (v.modLn n (Lane.missSet t)).taskOpen n t 2 → ∃ u : State,
      exec (.missedCrossing n t) s = .next u ∧ State.laneOnly n (s.tick t) u ∧ (u.ln n).com.missed = x.missed + 1 ∧
      (u.ln n).com.state = x.state ∧ (u.ln n).car.row = nextRow x.dir (v.ln n).car.row) ∧
    (2 ≤ x.missed.toNat → ∃ u : State, exec (.missedCrossing n t) s = .next u ∧ State.laneOnly n (s.tick t) u ∧
      (u.ln n).com.stallCount = satInc x.stallCount ∧
      (x.state = .run → (u.ln n).com.state = .restartWait ∨ (u.ln n).latch.latched = true) ∧
      (x.state = .stopping → (u.ln n).com.state = .stopped))) ∧
  ∀ (s : State) (n : LaneIx), (s.ln n).com.state = .run → (s.ln n).com.missed = 0 →
    exec (.restartCountClear n) s = .next (s.modLn n fun l => { l with com.restarts := 0 })

/-- Of lane n alone, once the events that waited have acted, for events that act at once: once ALIGN_TIME has passed, ALIGN_END enters
RAMP with the next row active where a profile entry is left; with none left it enters HANDOVER with it, or counts a stall where HO_LIMIT
is 0; a due step of RAMP does the same; a due step of HANDOVER below its limit makes the next row active and is counted, one at the
limit counts a stall. Once RESTART_DELAY has passed in a restart wait that is no gate retry, RESTART enters ALIGN in the lane's row
ALIGN_ROW, or, where ALIGN_TIME is 0, acts as ALIGN_END does at its end. -/
def Obligations.OpenLoopStartsStepByStep : Prop :=
  let steps (x : LaneCommut) (u : State) (n : LaneIx) (next : Fin 6) : Prop :=
    (x.entry < x.profile.steps → (u.ln n).com.state = .ramp ∧ (u.ln n).car.row = next) ∧
    (x.profile.steps ≤ x.entry → 0 < bits x.profile.hoLimit 0 8 → (u.ln n).com.state = .handover ∧ (u.ln n).car.row = next) ∧
    (x.profile.steps ≤ x.entry → bits x.profile.hoLimit 0 8 = 0 → (u.ln n).com.stallCount = satInc x.stallCount)
  (∀ (s : State) (n : LaneIx) (t : Ticks),
    let v := s.laneTick n t
    (v.ln n).alignEndDue t = true → v.taskOpen n t 2 →
    ∃ u : State, exec (.alignEnd n t) s = .next u ∧ State.laneOnly n (s.tick t) u ∧
      steps (v.ln n).com u n (nextRow (v.ln n).com.dir (v.ln n).car.row)) ∧
  (∀ (s : State) (n : LaneIx) (t : Ticks),
    let v := s.laneTick n t
    let x := (v.ln n).com
    let next := nextRow x.dir (v.ln n).car.row
    (v.ln n).stepDue t = true → v.taskOpen n t 2 →
    ∃ u : State, exec (.profileStep n t) s = .next u ∧ State.laneOnly n (s.tick t) u ∧
      (x.state = .ramp → steps x u n next) ∧
      (x.state = .handover → x.hoCount < bits x.profile.hoLimit 0 8 →
        (u.ln n).com.state = .handover ∧ (u.ln n).com.hoCount = x.hoCount + 1 ∧ (u.ln n).car.row = next) ∧
      (x.state = .handover → bits x.profile.hoLimit 0 8 ≤ x.hoCount → (u.ln n).com.stallCount = satInc x.stallCount)) ∧
  ∀ (s : State) (n : LaneIx) (t : Ticks),
    let v := s.laneTick n t
    let p := (v.ln n).com.profile
    (v.ln n).com.state = .restartWait → (v.ln n).gate.waiting = false →
    (v.ln n).com.waitFrom + (v.ln n).com.set.live.restartMs * Config.ticksPerMs ≤ t →
    ∃ u : State, exec (.restart n t) s = .next u ∧ State.laneOnly n (s.tick t) u ∧
      (bits p.alignTime 0 8 ≠ 0 → (u.ln n).com.state = .align ∧ (u.ln n).car.row.val = p.alignRow % 6) ∧
      (bits p.alignTime 0 8 = 0 → ∃ r : Fin 6, r.val = p.alignRow % 6 ∧
        steps { (v.ln n).com with entry := 0 } u n (nextRow (v.ln n).com.dir r))

/-- Of lane n alone, once the events that waited have acted: BRAKE_END of a BRAKE stop whose declared time has passed, and RAMP_STOP_END
of a RAMP stop at REV_LIMIT or past its declared time, end STOPPED with each waiting LANE_STOP completed. A BEMF transition is noted
with its instant and disturbs a measurement in progress; with all six gates off in STOPPED or a gate retry's wait it is tracked with its
phase, sense and instant, and from the sixth transition in a row of one direction the intervals give SPEED_MEAS; it leaves the
commutation of a lane that does not coast as it was. COAST_SPEED_TIMEOUT of a lane that does, or that brakes, takes its measured speed
to 0. The tracking and the timeout in a gate retry's wait, and the timeout of a braking lane, are the model's reading (log entry 64). -/
def Obligations.StopsEndAndCoastIsTracked : Prop :=
  let ended (s v u : State) (n : LaneIx) : Prop :=
    (u.ln n).com.state = .stopped ∧ (u.ln n).ops.stops = [] ∧
    ∀ w ∈ (v.ln n).ops.stops, ⟨w.what, stOk, word w.mode.code, 0, 0, (v.ln n).com.speedMeas, s.bell.bellNo + 1⟩ ∈ u.q.outcomes
  (∀ (s : State) (n : LaneIx) (t : Ticks) (st : Stopping),
    let v := s.laneTick n t
    (v.ln n).com.state = .stopping → (v.ln n).com.stopping = some st →
    st.mode = .brake → st.since + st.declaredMs * Config.ticksPerMs ≤ t →
    ∃ u : State, exec (.brakeEnd n t) s = .next u ∧ State.laneOnly n (s.tick t) u ∧ ended s v u n) ∧
  (∀ (s : State) (n : LaneIx) (t : Ticks) (st : Stopping),
    let v := s.laneTick n t
    (v.ln n).com.state = .stopping → (v.ln n).com.stopping = some st →
    st.mode = .ramp → ((v.ln n).com.speedMeas ≤ (v.ln n).com.set.live.revLimit ∨
      st.since + st.declaredMs * Config.ticksPerMs ≤ t) →
    ∃ u : State, exec (.rampStopEnd n t) s = .next u ∧ State.laneOnly n (s.tick t) u ∧ ended s v u n) ∧
  (∀ (s : State) (n : LaneIx) (k : PhaseIx) (t : Ticks) (above : Bool),
    let v := s.laneTick n t
    let coasts : Prop := ((v.ln n).com.state = .stopped ∨ (v.ln n).gate.waiting = true) ∧ (v.ln n).allOff = true
    ∃ u : State, exec (.bemfTransition n k t above) s = .next u ∧ State.laneOnly n (s.tick t) u ∧
      u = { v with lane := u.lane } ∧ (u.ln n).ops.lastBemf = some t ∧
      (∀ m, (v.ln n).ops.measure = some m →
        (u.ln n).ops.measure = some { m with disturbed := m.disturbed || decide (m.ended = none) }) ∧
      (coasts → (u.ln n).com.coastLast = some (k, above) ∧ (u.ln n).com.coastAt = t ∧
        (6 ≤ (u.ln n).com.coastRun → (u.ln n).com.speedMeas = speedOf (u.ln n).com.intervals ∧
          (u.ln n).com.rotDir = (u.ln n).com.coastDir)) ∧
      (¬ coasts → (u.ln n).com = (v.ln n).com)) ∧
  ∀ (s : State) (n : LaneIx), ((s.ln n).com.state = .stopped ∨ (s.ln n).gate.waiting = true ∨
      ((s.ln n).com.state = .stopping ∧ ∃ st, (s.ln n).com.stopping = some st ∧ st.mode = .brake)) →
    exec (.coastSpeedTimeout n) s = .next (s.modLn n fun l => { l with com := { l.com with
      speedMeas := 0, coastRun := 0, coastLast := none, intervals := [], lastCross := none } })

/-- A capture of a running SERIAL lane that is due waits for the lane's slot. A comparator that is heard follows its output; a new
assertion counts if OC or UC, latches a lane that routes it so and is not latched, ends the on-phase of a SERIAL lane it trips, and in
PIN mode holds off every half-bridge whose high side is wanted. A fault pin that asserts does so in each licensed lane, once the events
that waited there have acted, leaves every other lane alone, and its release clears it. From SETTLED a converter slot gives an analogue
input its code, with a burst on it moved on or ended, and a PIN-mode or captured lane its conversion and net current. A change of a
rail's window shows in BULK_STATUS. Only what is named changes, with reports, tallies and trace. -/
def Obligations.SenseSourcesAndConversionsAct : Prop :=
  (∀ (s : State) (n : LaneIx) (t : Ticks),
    let v := s.laneTick n t
    let m := decide ((v.ln n).car.onSince + Config.measMin ≤ t)
    (v.ln n).running = true → (v.ln n).pin = false → (v.ln n).captureDue t = true →
    exec (.currentCapture n t) s = .next (v.modLn n fun l => { l with
      sense := { l.sense with captured := true, measurable := m }
      gate := { l.gate with
        lateRow := none, periodSeen := l.gate.periodSeen || m, rowMeasured := l.gate.rowMeasured || m } })) ∧
  (∀ (s : State) (n : LaneIx) (c : Comparator) (t : Ticks) (out : BitVec 10),
    let v := s.laneTick n t
    let l := v.ln n
    let route := l.sense.set.live.routeOf (sourceOf c).val
    (v.hears n t = false → exec (.comparatorAssert n c t out) s = .next v) ∧
    (v.hears n t = true → v.newlyBeyond n c t out = false →
      exec (.comparatorAssert n c t out) s = .next (v.modLn n fun l =>
        { l with sense := l.sense.shows c (l.beyond c t out) })) ∧
    (v.newlyBeyond n c t out = true →
      ∃ u : State, exec (.comparatorAssert n c t out) s = .next u ∧ State.laneOnly n (s.tick t) u ∧
        (u.ln n).sense.ocCount = (if c = .oc then satInc l.sense.ocCount else l.sense.ocCount) ∧
        (u.ln n).sense.ucCount = (if c = .uc then satInc l.sense.ucCount else l.sense.ucCount) ∧
        (route = 2 → (u.ln n).latch.latched = true ∧
          (l.latch.latched = false → (u.ln n).latch.src = sourceCode (sourceOf c).val)) ∧
        (route ≠ 2 → l.trips (sourceOf c).val = true → l.pin = false → (u.ln n).car.onPhase = false) ∧
        (route ≠ 2 → l.trips (sourceOf c).val = true → l.pin = true →
          (u.ln n).sense.tripCount = satInc l.sense.tripCount ∧
          ∀ k : PhaseIx, l.car.bridges[k].cmd = some .high → (u.ln n).car.bridges[k].tripHold = true))) ∧
  (∀ (s : State) (pin : FaultPin) (t : Ticks), s.atSettled = true →
    let a := if pin = .flt0 then { s.ana with flt0 := true } else { s.ana with flt1 := true }
    ∃ u : State, exec (.faultPinAssert pin t) s = .next u ∧
      u = { s.tick t with ana := a, lane := u.lane, q := u.q, obs := u.obs } ∧
      ∀ n : LaneIx, (s.licensed n = false → u.ln n = s.ln n) ∧
        (s.licensed n = true → ∃ w : State, w = { s.tick t with ana := a, lane := w.lane, q := w.q, obs := w.obs } ∧
          w.ln n = s.ln n ∧
          let v := w.laneTick n t
          u.ln n = (v.sourceActs n (pinSource pin) t).ln n ∧
          ((v.ln n).sense.set.live.routeOf (pinSource pin).val = 2 → (u.ln n).latch.latched = true ∧
            ((v.ln n).latch.latched = false → (u.ln n).latch.src = if pin = .flt0 then 0x20 else 0x30)))) ∧
  (∀ s : State, exec (.faultPinRelease .flt0) s = .next { s with ana := { s.ana with flt0 := false } } ∧
    exec (.faultPinRelease .flt1) s = .next { s with ana := { s.ana with flt1 := false } }) ∧
  (∀ (s : State) (adc : Fin 2) (slot : Fin 32) (odd : Bool) (code : BitVec 12), s.atSettled = true →
    (∀ m : AinIx, m.val = 4 * adc.val + (slot.val - 1) / 2 % 4 → slot.val % 2 = 1 → ∃ u : State,
      exec (.adcSlot adc slot odd code) s = .next u ∧ u = { s with ana := u.ana, q := u.q, obs := u.obs } ∧
      u.ana = { s.ana with ain := vset s.ana.ain m code, burst := u.ana.burst } ∧
      (s.ana.burst[m] = none → u.ana.burst = s.ana.burst ∧ u.q = s.q) ∧
      ∀ b, s.ana.burst[m] = some b → (b.left ≤ 1 ↔ u.ana.burst[m] = none)) ∧
    (∀ n : LaneIx, n.val = 3 * adc.val + slot.val % 8 / 2 % 3 → slot.val % 2 = 0 → slot.val % 8 ≠ 6 →
      ((s.ln n).pin = true ∨ (s.ln n).sense.captured = true) → ∃ u : State, exec (.adcSlot adc slot odd code) s = .next u ∧
      State.laneOnly n s u ∧ (u.ln n).sense.iRaw = code ∧ (u.ln n).sense.iNet = s.netOf n code ∧
      (u.ln n).sense.captured = false)) ∧
  ∀ (s : State) (rail : Rail) (low high : Bool),
    let v : BitVec 4 := BitVec.ofNat 4 (bit01 low + 2 * bit01 high)
    let b : BitVec 4 := if rail = .a then (s.ana.bulk &&& 0xC) ||| v else (s.ana.bulk &&& 0x3) ||| (v <<< 2)
    b ≠ s.ana.bulk → ∃ u : State, exec (.bulkWindowChange rail low high) s = .next u ∧
      u = { s with ana := u.ana, lane := u.lane, q := u.q } ∧
      u.ana = (if rail = .a then { s.ana with bulk := b, bulkChangedA := true } else { s.ana with bulk := b, bulkChangedB := true }) ∧
      ∀ n : LaneIx, (railOf n ≠ rail ∨ (low = false ∧ high = false)) → u.ln n = s.ln n

/-- From SETTLED, a slot s of a converter frame with s mod 8 = 6 converts channel k = (s - 6) / 8 + 4 x (frame mod 2): for k of 0 to 2
the NTC of lane 3 x ADC + k, whose conversion joins its next sample with its open and short verdicts and is held while the ADC is bad
(R546); for 3, 4 and 5 the reading of VBA, VGD and LINE on ADC_0, of VBB and VHOLD on ADC_1, whose value in millivolts the spec does not
give (a free value of the model, log entry 24), and nothing for VANA; 6 notes whether the VREF check lies more than 16 codes off; 7
judges the frame pair by both checks: the fourth failing pair in a row marks the ADC bad, the fourth passing one good, and with the mark
the ADC's NTCs become stale or not. Before SETTLED no slot converts. -/
def Obligations.RotatingSlotsConvertTheirChannel : Prop :=
  (∀ (s : State) (adc : Fin 2) (slot : Fin 32) (odd : Bool) (code : BitVec 12), s.atSettled = false →
    exec (.adcSlot adc slot odd code) s = .next s) ∧
  ∀ (s : State) (adc : Fin 2) (slot : Fin 32) (odd : Bool) (code : BitVec 12), s.atSettled = true → slot.val % 8 = 6 →
    let k := (slot.val - 6) / 8 + (if odd then 4 else 0)
    let run := exec (.adcSlot adc slot odd code) s
    (∀ n : LaneIx, n.val = 3 * adc.val + k → k < 3 →
      (s.ana.adcBad[adc] = true → run = .next s) ∧
      (s.ana.adcBad[adc] = false → run = .next (s.modSn (ntcIx n) fun x => { x with
        sum := x.sum + ntcTemp (s.ln n).heat.live.ntcCfg code, count := x.count + 1
        sawOpen := decide (4000 < code.toNat), sawShort := decide (code.toNat < 40) }))) ∧
    (k = 3 → run = .next { s with ana := if adc = 0 then { s.ana with vba := Config.supplyReading 0 code }
      else { s.ana with vbb := Config.supplyReading 1 code } }) ∧
    (k = 4 → run = .next { s with pwr := if adc = 0 then { s.pwr with vgdV := Config.supplyReading 2 code }
      else { s.pwr with vholdV := Config.supplyReading 3 code } }) ∧
    (k = 5 → run = .next (if adc = 0 then { s with pwr := { s.pwr with lineV := Config.supplyReading 4 code } } else s)) ∧
    (k = 6 → run = .next { s with ana := { s.ana with pairFail := vset s.ana.pairFail adc (decide (code.toNat + 16 < 4095)) } }) ∧
    (k = 7 →
      let fail := s.ana.pairFail[adc] || decide (16 < code.toNat)
      let bad := if fail then s.ana.adcBad[adc] || decide (3 ≤ s.ana.failRun[adc])
        else s.ana.adcBad[adc] && decide (s.ana.passRun[adc] < 3)
      ∃ u : State, run = .next u ∧ u = { s with ana := u.ana, heat := u.heat, lane := u.lane, obs := u.obs } ∧
        u.ana = { s.ana with
          failRun := vset s.ana.failRun adc (if fail then min 4 (s.ana.failRun[adc] + 1) else 0)
          passRun := vset s.ana.passRun adc (if fail then 0 else min 4 (s.ana.passRun[adc] + 1))
          pairFail := vset s.ana.pairFail adc false
          adcBad := vset s.ana.adcBad adc bad } ∧
        (bad = s.ana.adcBad[adc] → u.heat = s.heat ∧ u.lane = s.lane ∧ u.obs = s.obs) ∧
        (bad ≠ s.ana.adcBad[adc] →
          (∀ n : LaneIx, n.val / 3 = adc.val → u.sn (ntcIx n) = { s.sn (ntcIx n) with stale := bad }) ∧
          (∀ n : LaneIx, n.val / 3 ≠ adc.val → u.ln n = s.ln n) ∧
          ∀ i : SensorIx, (∀ n : LaneIx, n.val / 3 = adc.val → i ≠ ntcIx n) → u.sn i = s.sn i))

/-- A comparator is read against its level at the code 128 + round(OFFSET / 4) + L, clamped to 0 to 1023. In EDGE on a running lane the
trip level is min(I_DEM, ILIM_EFF) less floor(SLOPE x t / 256), t ticks after the boundary, and never below 0; in COT_ON and COT_OFF, on
a running lane, min(I_DEM, ILIM_EFF); on a lane that is not running, which has no carrier boundary, ILIM_EFF (the model's reading, log
entry 57). An output no higher leaves PEAK unasserted; one above it trips a SERIAL lane that routes PEAK to TRIP and sets the latch of
one that routes it so, where PEAK did not assert before. OC and UC compare with WIN_HI and WIN_LO in the same way. The limit in force is
formed as min(ILIM, ILIM_TH, ILIM_FR). -/
def Obligations.TripLevelsFollowTheLimit : Prop :=
  let code (x : LaneSense) (level : Int) : Int := max 0 (min 1023 (128 + roundHalfAway x.offset 4 + level))
  (∀ (s : State) (n : LaneIx) (t : Ticks) (out : BitVec 10),
    let v := s.laneTick n t
    let l := v.ln n
    let limit : Nat := if l.running then min l.com.iDem.toNat l.sense.ilimEff.toNat else l.sense.ilimEff.toNat
    let slope := l.sense.set.live.slope.toNat % 256
    let level : Int := if l.running = true ∧ l.car.set.live.mode = 0 then
        max 0 ((limit : Int) - ↑(slope * (t - l.car.periodStart) / 256)) else limit
    v.hears n t = true → ∃ u : State, exec (.comparatorAssert n .peak t out) s = .next u ∧ State.laneOnly n (s.tick t) u ∧
      ((out.toNat : Int) ≤ code l.sense level → u = v.modLn n fun l => { l with sense.peak := false }) ∧
      (code l.sense level < out.toNat → l.sense.peak = false →
        (l.sense.set.live.routeOf 0 = 2 → (u.ln n).latch.latched = true) ∧
        (l.sense.set.live.routeOf 0 = 1 → l.pin = false → (u.ln n).car.onPhase = false))) ∧
  (∀ (s : State) (n : LaneIx) (t : Ticks) (out : BitVec 10),
    let v := s.laneTick n t
    let x := (v.ln n).sense
    let hi : Int := ↑(x.set.live.winHi.toNat % 1024)
    let lo : Int := if x.set.live.winLo.toNat % 2048 < 1024 then x.set.live.winLo.toNat % 2048
      else x.set.live.winLo.toNat % 2048 - 2048
    v.hears n t = true →
    ((out.toNat : Int) ≤ code x hi →
      exec (.comparatorAssert n .oc t out) s = .next (v.modLn n fun l => { l with sense.oc := false })) ∧
    (code x lo ≤ out.toNat →
      exec (.comparatorAssert n .uc t out) s = .next (v.modLn n fun l => { l with sense.uc := false })) ∧
    (code x hi < out.toNat → x.oc = false → ∃ u : State, exec (.comparatorAssert n .oc t out) s = .next u ∧
      (u.ln n).sense.ocCount = satInc x.ocCount) ∧
    ((out.toNat : Int) < code x lo → x.uc = false → ∃ u : State, exec (.comparatorAssert n .uc t out) s = .next u ∧
      (u.ln n).sense.ucCount = satInc x.ucCount)) ∧
  ∀ x : LaneSense, x.limitNow.toNat = min (x.set.live.ilim.toNat % 1024) (min x.ilimTh.toNat x.ilimFr.toNat)

/-- At a commutation event of RUN that acts at once, the loop moves its reference towards the target in force, raised to RUN_MIN, by at
most ACCEL x dt, adds KI x e to its integrator and takes KP x e beside it, each sum clamped to 0 to ILIM_EFF, where e is the reference
less SPEED_MEAS; in a RAMP stop the reference falls towards 0 by at most DECEL x dt instead. I_DEM is then the demand in whole DAC steps
and never above ILIM_EFF. The loop is exact (the model's choice, log entry 58): speeds in 1/16 Hz per 160 000 ticks, the integrator in
1/4096 of that product. The row that becomes active takes an armed COMMUT set in force first (R450). No other lane changes. -/
def Obligations.SpeedLoopSetsTheDemand : Prop :=
  ∀ (s : State) (n : LaneIx) (t : Ticks),
    let v := s.laneTick n t
    let x := (v.ln n).com
    let c := x.set.armed.getD x.set.live
    let d := (v.ln n).car.edges.at t
    let dt := d - x.loopAt
    let down : Bool := decide (x.state = .stopping)
    let goal : Nat := if down then 0 else max x.target.toNat c.runMin.toNat * 160000
    let most : Nat := (if down then c.decel.toNat else c.accel.toNat) * dt
    let unit : Int := 4096 * 16 * 160000
    let top : Int := (v.ln n).sense.ilimEff.toNat * unit
    let clamp (y : Int) : Int := max 0 (min top y)
    (v.ln n).commutationDue t = true → (v.ln n).closedLoop = true → v.taskOpen n t 2 →
    ∃ u : State, exec (.commutation n t) s = .next u ∧ State.laneOnly n (s.tick t) u ∧
      let y := (u.ln n).com
      let e : Int := (y.speedRef : Int) - x.speedMeas.toNat * 160000
      y.speedRef = (if x.speedRef ≤ goal then min goal (x.speedRef + most) else max goal (x.speedRef - most)) ∧
      y.integ = clamp (x.integ + c.ki.toNat * e) ∧
      y.iDem.toNat = (clamp (y.integ + 16 * c.kp.toNat * e) / unit).toNat ∧
      y.iDem.toNat ≤ (v.ln n).sense.ilimEff.toNat ∧ y.loopAt = d

/-- Of lane n alone, once the events that waited have acted: a gate fault that its monitor asserts is shown and counted, on a STOPPING
lane too (log entry 66), which is then STOPPED; any other starts its retry wait with its gates off, a SERIAL lane in RESTART_WAIT, or is
latched where its retries are used up. Once RETRY_WAIT has passed the wait ends, one retry more counted, and the lane resumes: in PIN
mode it follows its pins; from RUN it enters RUN at once where the motor turns above REV_LIMIT in the commanded direction, else ALIGN;
from ALIGN, RAMP, HANDOVER or a stall's restart wait (the latter is the model's reading, log entry 82) it enters ALIGN, or what follows
it at once where ALIGN_TIME is 0: RAMP, HANDOVER with no profile entry, or a counted stall with HO_LIMIT 0 too; a lane that was stopped
is stopped again, which is the model's choice (log entry 35). A VGD fault clears VGD_OK and stops the buck with its cause shown, and,
where VGD was good, every lane is STOPPED; its recovery from SETTLED sets VGD_OK. A change of a pin's level is taken by its half-bridge.
-/
def Obligations.GateFaultsRetryOrLatch : Prop :=
  (∀ (s : State) (n : LaneIx) (k : PhaseIx) (kind : GateKind) (t : Ticks) (mv : Int),
    let v := s.laneTick n t
    let l := v.ln n
    l.gate.set.live.watches l.car.bridges[k] kind t mv = true →
    ∃ u : State, exec (.gateFault n k kind t mv) s = .next u ∧ State.laneOnly n (s.tick t) u ∧
      (u.ln n).gate.kind = gateKindCode kind ∧ (u.ln n).gate.hb = BitVec.ofNat 2 k.val ∧
      (u.ln n).gate.faultCount = satInc l.gate.faultCount ∧
      (l.com.state = .stopping → (u.ln n).com.state = .stopped) ∧
      (l.com.state ≠ .stopping → l.gate.set.live.retryMax ≤ l.gate.recent s.bell.bellNo →
        (u.ln n).latch.latched = true ∧
        (l.latch.latched = false → (u.ln n).latch.src = BitVec.ofNat 8 (0x40 + k.val) ∧ (u.ln n).com.state = .stopped)) ∧
      (l.com.state ≠ .stopping → l.gate.recent s.bell.bellNo < l.gate.set.live.retryMax →
        (u.ln n).gate.waiting = true ∧ (u.ln n).com.waitFrom = t ∧ (u.ln n).allOff = true ∧
        (u.ln n).com.restarts = l.com.restarts ∧ (u.ln n).gate.resume = l.resumeOf ∧
        (l.pin = false → l.gate.waiting = false → (u.ln n).com.state = .restartWait))) ∧
  (∀ (s : State) (n : LaneIx) (t : Ticks),
    let v := s.laneTick n t
    let l := v.ln n
    let p := l.com.profile
    let aligns (u : State) : Prop :=
      (bits p.alignTime 0 8 ≠ 0 → (u.ln n).com.state = .align) ∧
      (bits p.alignTime 0 8 = 0 → 1 ≤ p.steps → (u.ln n).com.state = .ramp) ∧
      (bits p.alignTime 0 8 = 0 → p.steps = 0 → 0 < bits p.hoLimit 0 8 → (u.ln n).com.state = .handover) ∧
      (bits p.alignTime 0 8 = 0 → p.steps = 0 → bits p.hoLimit 0 8 = 0 → (u.ln n).com.stallCount = satInc l.com.stallCount)
    l.gate.waiting = true → l.com.waitFrom + l.gate.set.live.retryWait * Config.ticksPerMs ≤ t →
    ∃ u : State, exec (.retryResume n t) s = .next u ∧ State.laneOnly n (s.tick t) u ∧ (u.ln n).gate.waiting = false ∧
      (u.ln n).gate.retries = s.bell.bellNo :: (l.gate.retries.filter fun b => s.bell.bellNo < b + Config.retryWindow) ∧
      (l.gate.resume = .pin → (u.ln n).com.state = l.com.state) ∧
      (l.gate.resume = .stopped → (u.ln n).com.state = .stopped) ∧
      (l.gate.resume = .align → aligns u) ∧
      (l.gate.resume = .run →
        if l.com.set.live.revLimit < l.com.speedMeas ∧ l.com.rotDir = l.com.dir then (u.ln n).com.state = .run else aligns u)) ∧
  (∀ (s : State) (t : Ticks) (ov : Bool), ∃ u : State, exec (.vgdFault t ov) s = .next u ∧ u.now = max s.now t ∧
    u.pwr = { s.pwr with vgdOk := false, buckOn := false, vgdUv := !ov, vgdOv := ov, wsDenied := u.pwr.wsDenied } ∧
    u.dev = s.dev ∧ u.bell = s.bell ∧ u.pit = s.pit ∧ u.clk = s.clk ∧ u.ring = s.ring ∧ u.host = s.host ∧ u.fuse = s.fuse ∧
    (s.pwr.vgdOk = true → ∀ n : LaneIx, (u.ln n).com.state = .stopped ∧ (u.ln n).allOff = true)) ∧
  (∀ (s : State) (t : Ticks), s.atSettled = true →
    let v := s.lanesTick t
    ∃ u : State, exec (.vgdRecover t) s = .next u ∧ u = { v with pwr := u.pwr, lane := u.lane, trk := u.trk, obs := u.obs } ∧
    u.pwr = { s.pwr with
      vgdOk := true, vgdUv := false, vgdOv := false, buckOn := s.pwr.buckOn || (s.pwr.lineOk && !s.pwr.ovStop)
      wsDenied := u.pwr.wsDenied } ∧
    ∀ n : LaneIx, (u.ln n).com = (v.ln n).com ∧ (u.ln n).latch = (v.ln n).latch) ∧
  ∀ (s : State) (h n : LaneIx) (k : PhaseIx) (pulse en : Bool) (t : Ticks), s.alive = true → h.val = 3 * n.val + k.val →
    let v := s.laneTick n t
    ∃ u : State, exec (.pinInputChange h pulse en t) s = .next u ∧ State.laneOnly n (s.tick t) u ∧
      (u.ln n).car.bridges[k].pulse = pulse ∧ (u.ln n).car.bridges[k].en = en ∧
      (v.pinTrip n = none → (u.ln n).car.bridges[k].tripHold = ((v.ln n).car.bridges[k].tripHold && pulse && en))

/-- A heard sensor's new level is kept, with the start of a HIGH pulse and its end. TOOTH_COMMIT takes the ended pulse: class F or R
clears DIR_UNKNOWN (R503), N sets it, an invalid width is counted. When the watched window is over, a tooth judged bad in SYNC, or a
first missing one, becomes synthetic; a missing one in CONFIRM, or a second in a row, ends UNSYNC. The next micro-tick m of SYNC, at
most 2^K - 1, is taken once m x P_exp / 2^K ticks have passed since the tooth, not before, and sets the angle to a_k + floor(d_k m /
2^K) forward, and to a_k - floor(d_(k-1) m / 2^K) in reverse (R517, R520). In one tracker tick the commands of a bell boundary go first,
then a tooth, then the angle (R534): an event that one of them is still to precede waits, rows that stand behind in the queue included
(log entry 34), and micro-ticks that waited follow a tooth. STANDSTILL clears TOOTH_RATE and keeps the sync state. Of tracker n alone,
with bursts, events, tallies and trace. -/
def Obligations.WheelPulsesCommitTeeth : Prop :=
  (∀ (s : State) (n : TrkIx) (level : WsLevel) (t : Ticks), s.wsHeard n = true → (s.tk n).level ≠ level →
    let p := s.wheelTicks t
    exec (.wsLevelChange n level t) s = .next ((s.tick t).modTk n fun x => { x with
      level := level, sensorWarn := x.sensorWarn && decide (level = .mid)
      pulseStart := if level = .high then some p else x.pulseStart
      pulseEnd := if level = .high then none else if x.level = .high ∧ x.pulseStart.isSome then some p else x.pulseEnd })) ∧
  (∀ (s : State) (n : TrkIx) (t : Ticks),
    ∀ r ∈ [(Instr.toothCommit n t, WheelEvent.tooth), (.toothWindowClose n t, .close), (.microTick n t, .micro)],
      s.wheelHeld n r.2 t = true → exec r.1 s = .next (s.modTk n fun x => { x with waiting := x.waiting ++ [⟨r.2, t⟩] })) ∧
  (∀ (s : State) (n : TrkIx) (t : Ticks) (p e : Nat), s.wheelHeld n .tooth t = false →
    (s.tk n).pulseStart = some p → (s.tk n).pulseEnd = some e →
    ∃ u : State, exec (.toothCommit n t) s = .next (u.wheelServe n) ∧ State.trackerOnly n (s.tick t) u ∧
      (u.tk n).pulseStart = none ∧ (u.tk n).pulseEnd = none ∧
      ((s.tk n).live.classify (e - p) = .forward ∨ (s.tk n).live.classify (e - p) = .reverse → (u.tk n).dirUnknown = false) ∧
      ((s.tk n).live.classify (e - p) = .neutral → (u.tk n).dirUnknown = true) ∧
      ((s.tk n).live.classify (e - p) = .invalid →
        (u.tk n).dirUnknown = (s.tk n).dirUnknown ∧ (u.tk n).badPulse = satInc (s.tk n).badPulse)) ∧
  (∀ (s : State) (n : TrkIx) (t : Ticks), s.wheelHeld n .close t = false → (s.tk n).watched = true →
    (s.tk n).windowOver ((s.tk n).since (s.wheelTicks t)) = true →
    let x := s.tk n
    let missing := x.judged = false ∧ x.pulsePending = false ∧ x.slowNow = false
    ∃ u : State, exec (.toothWindowClose n t) s = .next (u.wheelServe n) ∧ State.trackerOnly n (s.tick t) u ∧
      (x.judged = true ∨ (missing ∧ x.sync = .sync ∧ x.bad = 0) →
        (u.tk n).synthCount = satInc x.synthCount ∧ (u.tk n).tooth = x.table.next x.dir x.tooth ∧
        (u.tk n).lastTooth = some (x.lastTooth.getD 0 + x.expected) ∧ (u.tk n).sync = x.sync) ∧
      (missing → x.sync = .confirm → (u.tk n).sync = .unsync ∧ (u.tk n).syncLossCount = x.syncLossCount) ∧
      (missing → x.sync = .sync → 1 ≤ x.bad → (u.tk n).sync = .unsync ∧ (u.tk n).syncLossCount = satInc x.syncLossCount) ∧
      (x.judged = false → (x.pulsePending = true ∨ x.slowNow = true) → u = s.tick t)) ∧
  (∀ (s : State) (n : TrkIx) (t : Ticks), s.wheelHeld n .micro t = false → (s.tk n).sync = .sync → (s.tk n).hold = false →
    let x := s.tk n
    let m := x.micro + 1
    let d := x.table.ahead x.dir x.tooth
    let e := x.since (s.wheelTicks t)
    let reached := m ≤ 2 ^ x.kNow - 1 ∧ m * (x.pBase * d) ≤ e * 2 ^ x.kNow * x.dBase
    0 < x.pBase * d → ∃ u : State, exec (.microTick n t) s = .next u ∧ State.trackerOnly n (s.tick t) u ∧
      (reached → (u.tk n).micro = m ∧
        (x.dir = false → (u.tk n).angle = word (x.table.angle x.tooth + d * m / 2 ^ x.kNow)) ∧
        (x.dir = true → (u.tk n).angle = word (x.table.angle x.tooth) - word (d * m / 2 ^ x.kNow))) ∧
      (¬ reached → u = s.tick t)) ∧
  ∀ (s : State) (n : TrkIx), exec (.standstill n) s = .next (s.modTk n fun x =>
    { x with standstill := true, toothRate := 0, skip := true })

/-- A heard tracker found open shows WS_OPEN and leaves sync; a short shows WS_SHORT, whether its supply is on or not, and leaves the
supply off with a retry due, and leaves sync. Each change of WS_OPEN or WS_SHORT posts WHEEL_SENSOR to the owner with word 4 at 1 for
open, 2 for short, or 0 when both have cleared (R501). A due retry ends as due; where the owner's figures allow the supply it is on with
its hold-off, in which WS_n is ignored, else denied. WS_HOLDOFF_END ends the hold-off; MID for 1 ms shows SENSOR_WARN. Nothing else
changes. -/
def Obligations.WheelSensorFaultsActOnTheirSupply : Prop :=
  let told (s : State) (n : TrkIx) (w : Word) (u : State) : Prop :=
    ∀ p, s.trkOwner n = some p → ∃ es, u.q.events = s.q.events ++ es ++ [⟨p, s.eventEntry 0x02 n.val 0x24 w 0 0 0⟩]
  (∀ (s : State) (n : TrkIx), s.wsHeard n = true → (s.tk n).wsOpen = false →
    ∃ u : State, exec (.wsOpen n) s = .next u ∧ State.trackerOnly n s u ∧ (u.tk n).wsOpen = true ∧ (u.tk n).sync = .unsync ∧
      told s n 1 u) ∧
  (∀ (s : State) (n : TrkIx), s.wsHeard n = true → (s.tk n).wsOpen = true →
    exec (.wsOpenClear n) s = .next ((s.modTk n fun x => { x with wsOpen := false }).trkEvent n 0x24
      (if (s.tk n).wsShort then 2 else 0) 0 0 0)) ∧
  (∀ (s : State) (n : TrkIx), s.wsHeard n = true →
    ∃ u : State, exec (.wsShort n) s = .next u ∧ State.trackerOnly n s u ∧ (u.tk n).wsShort = true ∧ (u.tk n).supply = false ∧
      (u.tk n).retryDue = true ∧ (u.tk n).sync = .unsync ∧ ((s.tk n).wsShort = false → told s n 2 u)) ∧
  (∀ (s : State) (n : TrkIx), (s.tk n).retryDue = true → ∃ u : State, exec (.wsSupplyRetry n) s = .next u ∧
    u = { s with trk := u.trk, pwr := { s.pwr with wsDenied := u.pwr.wsDenied } } ∧ (∀ m, n ≠ m → u.tk m = s.tk m) ∧
    (u.tk n).retryDue = false ∧
    (∀ p, s.trkOwner n = some p → s.pwr.vgdOk = true → (s.tk n).supply = false →
      (s.wsAllowed p = true → (u.tk n).supply = true ∧ (u.tk n).holdoff = true) ∧
      (s.wsAllowed p = false → (u.tk n).supply = false ∧ bit u.pwr.wsDenied n.val = true))) ∧
  (∀ (s : State) (n : TrkIx), exec (.wsHoldoffEnd n) s = .next (s.modTk n fun x => { x with holdoff := false })) ∧
  (∀ (s : State) (n : TrkIx) (level : WsLevel) (t : Ticks), (s.tk n).holdoff = true →
    exec (.wsLevelChange n level t) s = .next { s with now := max s.now t } ∧ exec (.wsOpen n) s = .next s ∧
    exec (.wsShort n) s = .next s ∧ exec (.sensorWarn n) s = .next s) ∧
  (∀ (s : State) (n : TrkIx), s.wsHeard n = true → (s.tk n).wsShort = true → (s.tk n).supply = true →
    exec (.wsShortClear n) s = .next ((s.modTk n fun x => { x with wsShort := false }).trkEvent n 0x24
      (if (s.tk n).wsOpen then 1 else 0) 0 0 0)) ∧
  ∀ (s : State) (n : TrkIx), s.wsHeard n = true → (s.tk n).level = .mid →
    exec (.sensorWarn n) s = .next (s.modTk n fun x => { x with sensorWarn := true })

/-- From SETTLED a die conversion, corrected by the offset and slope trim of its sensor (what the slope trim does to a conversion is a
free value of the model, log entry 52), joins its sensor's next sample. A sample of a sensor that is not evaluated, unavailable or stale
takes no action; of any other it takes the mean of the conversions since the last one as the sensor's own sample, and, unless the sensor
is or was found broken, as its temperature; the mean is rounded half away from zero (the model's choice, log entry 58). A rate update
puts each evaluated sensor's latest sample at the front of its history, gives it the rate over its window once the history spans it, and
changes no temperature. The other sensors stay as they are, and so does all that no heat stop and no closure changes. -/
def Obligations.TemperaturesAreSampledAndRated : Prop :=
  (∀ (s : State) (i : Fin 8) (j : SensorIx) (raw : Int), s.atSettled = true → j.val = i.val →
    exec (.thermalConversion i raw) s = .next (s.modSn j fun x => { x with
      sum := x.sum + dieCorrected (dieTrim s.fuse.trims i) raw, count := x.count + 1 })) ∧
  (∀ (s : State) (i : SensorIx) (t : Ticks), s.atSettled = true →
    ((s.sn i).notEvaluated = true ∨ (s.sn i).unavailable = true ∨ (s.sn i).stale = true) →
    exec (.thermalSample i t) s = .next ((s.lanesTick t).modSn i fun x => { x with sum := 0, count := 0, rung := 0 })) ∧
  (∀ (s : State) (i : SensorIx) (t : Ticks), s.atSettled = true → (s.sn i).notEvaluated = false →
    (s.sn i).unavailable = false → (s.sn i).stale = false →
    let own := if (s.sn i).count = 0 then (s.sn i).own else roundHalfAway (s.sn i).sum (s.sn i).count
    ∃ u : State, exec (.thermalSample i t) s = .next u ∧
      u = { s.tick t with dev := u.dev, q := u.q, fuse := u.fuse, lane := u.lane, trk := u.trk, heat := u.heat, obs := u.obs } ∧
      u.heat = { s.heat with sensor := u.heat.sensor } ∧ (∀ j, j ≠ i → u.sn j = s.sn j) ∧
      (u.sn i).own = own ∧ (u.sn i).sum = 0 ∧ (u.sn i).count = 0 ∧
      ((u.sn i).substituted = false → (u.sn i).temp = own ∧ (u.sn i).hasSample = true)) ∧
  ∀ (s : State) (t : Ticks), s.atSettled = true → ∃ u : State, exec (.rateUpdate t) s = .next u ∧
    u = { s.tick t with heat := u.heat, q := u.q } ∧ u.heat = { s.heat with sensor := u.heat.sensor } ∧
    u.q = { s.q with events := u.q.events } ∧
    ∀ i : SensorIx, (u.sn i).temp = (s.sn i).temp ∧ (u.sn i).warn = (s.sn i).warn ∧ (u.sn i).stop = (s.sn i).stop ∧
      ((s.sn i).counts = true →
        (u.sn i).hist = ((s.sn i).temp :: (s.sn i).hist).take 64 ∧
        ∀ old, (s.sn i).hist[(if i.val < 8 then 8 else 64) - 1]? = some old →
          (u.sn i).rate = ((s.sn i).temp - old) * (if i.val < 8 then 8 else 1))

/-- At a micro-tick of a tracker in SYNC that nothing of its tick is still to precede (R534; rows that stand behind in the queue
included, log entry 34) and that moves the angle from a to b, each of its windows is taken alone: an open one closes unless a and b both
lie in its arc, and with ONCE is then disarmed; an armed one that is not open opens where the update enters its arc or passes over it,
only if the update before was in SYNC too and while the market is open. No other tracker changes. An opening with ACTION EVENT_OPEN or
EVENT_BOTH, and a closing with EVENT_BOTH, posts WINDOW_EDGE to the tracker's owner with the window, the sense, the direction, b and the
tracker ticks since the boundary; one with ACTION BURST leaves a burst running on its input. Leaving SYNC, as at WS_OPEN, closes each
open window and leaves every window armed as it was. WIN_m is high exactly while an open window with ACTION PIN of a tracker of its
owner names it. -/
def Obligations.WindowsFollowTheAngle : Prop :=
  (∀ (s : State) (n : TrkIx) (t : Ticks),
    let x := s.tk n
    let a := x.angle
    let b := x.angleAt (x.micro + 1)
    let enters (v : Window) : Bool := (v.inArc b && !v.inArc a) || v.passed x.dir a b
    let leaves (v : Window) : Bool := v.isOpen && !(v.inArc b && v.inArc a)
    let arms (v : Window) : Bool := v.armed && !(leaves v && v.once)
    let opens (v : Window) : Bool := arms v && !(v.isOpen && !leaves v) && x.prevSync && enters v && !s.dev.closed
    let told (u : State) (w : WinIx) (opening : Bool) : Prop := ∀ p, s.trkOwner n = some p →
      let k := s.wheelTicks t - s.wheelTicks s.bell.boundaryAt
      ⟨p, s.eventEntry 0x02 n.val 0x22
        (word (w.val + bit01 opening * 2 ^ 8 + bit01 x.dir * 2 ^ 9 + bit01 s.clk.runThrough * 2 ^ 10)) b (word k)
        (word (k / 65536))⟩ ∈ u.q.events
    s.wheelHeld n .micro t = false → x.sync = .sync → x.hold = false → x.micro < x.microsAt (x.since (s.wheelTicks t)) →
    ∃ u : State, exec (.microTick n t) s = .next u ∧ State.trackerOnly n (s.tick t) u ∧ (u.tk n).angle = b ∧
      (u.tk n).prevSync = true ∧
      ∀ w : WinIx,
        let v := x.windows[w]
        (u.tk n).windows[w] = { v with isOpen := (v.isOpen && !leaves v) || opens v, armed := arms v } ∧
        (opens v = true → (v.action = 3 ∨ v.action = 4) → told u w true) ∧
        (leaves v = true → v.action = 4 → told u w false) ∧
        (opens v = true → v.action = 2 → (s.trkOwner n).isSome = true →
          ∀ m : AinIx, m.val = v.target → (u.ana.burst[m]).isSome = true)) ∧
  (∀ (v : Window) (c : Word), v.inArc c = true ↔
    if v.start < v.stop then v.start ≤ c ∧ c < v.stop else v.start ≤ c ∨ c < v.stop) ∧
  (∀ (s : State) (n : TrkIx), s.wsHeard n = true → (s.tk n).wsOpen = false → (s.tk n).sync ≠ .unsync →
    ∃ u : State, exec (.wsOpen n) s = .next u ∧ ∀ w : WinIx, (u.tk n).windows[w] = { (s.tk n).windows[w] with isOpen := false }) ∧
  ∀ (s : State) (m : TrkIx), s.winLevel m = true ↔ ∃ (n : TrkIx) (w : WinIx) (p : Pitch),
    s.pit.own.win[m] = some p ∧ s.trkOwner n = some p ∧ (s.tk n).windows[w].isOpen = true ∧
    (s.tk n).windows[w].cfg.toNat % 8 = 1 ∧ (s.tk n).windows[w].cfg.toNat / 16 % 8 = m.val

/-- Take a sample of a sensor in use whose own value does not show it broken. Where it newly reaches the stop level, STOP is set, and
each lane that the sensor acts on and that runs, without a stop in progress, takes a heat stop (below T_CLOSE): an orderly one in the
configured stop mode where t_p is infinite or exceeds the declared stop time by more than 10 ms, else an immediate one, BRAKE for
BRAKE_TIME, or STOPPED at once where BRAKE_TIME is 0 or no safe level is LOW (the latter is the model's reading, log entry 70); the
recipient of a lane's sensor gets THERMAL_STOP with the value, the path and t_p. Where STOP is not newly set and an orderly heat stop is
in progress from before, it becomes immediate once t_p is no greater than the declared time left, and not before. t_p is the least of
(ceiling - temperature) / rate over the available sensors that act on the lane and rise by more than 0.5 K/s. A substituted sensor
without two usable neighbours becomes unavailable, reads 0x8000 with STOP clear (the model's reading, log entry 53) and leaves its own
lane STOPPING or STOPPED. A sample rounds the mean half away from zero, and an event shows t_p in whole ms rounded down (log entry 58).
v is the state once the events that waited at the lanes have acted. -/
def Obligations.HeatStopsTakeTheirPath : Prop :=
  let own (s : State) (i : SensorIx) : Int := if (s.sn i).count = 0 then (s.sn i).own else roundHalfAway (s.sn i).sum (s.sn i).count
  let used (s : State) (i : SensorIx) : Prop := s.atSettled = true ∧ (s.sn i).notEvaluated = false ∧
    (s.sn i).unavailable = false ∧ (s.sn i).stale = false ∧ (s.sn i).substituted = false
  let unbroken (s : State) (i : SensorIx) (t : Ticks) : Prop :=
    ((s.modSn i fun x => { x with own := own s i, sum := 0, count := 0 }).judge i t (own s i)).2 = none
  let newly (s : State) (i : SensorIx) : Prop := (s.levels i).2 ≤ own s i ∧ (s.sn i).stop = false
  let open_ (s : State) (i : SensorIx) : Prop := i.val < 8 → own s i < Config.tClose
  let left (s : State) (i : SensorIx) (n : LaneIx) : Option Rat :=
    (s.modSn i fun x => { x with temp := own s i, hasSample := true }).predict n
  let quick (l : Lane) : Prop := l.com.set.live.brakeMs = 0 ∨ ∀ k : PhaseIx, safeLow l.car.policy k = false
  let immediate (s u : State) (n : LaneIx) (t : Ticks) : Prop :=
    (quick (s.ln n) → (u.ln n).com.state = .stopped) ∧
    (¬ quick (s.ln n) → (u.ln n).com.state = .stopping ∧ (u.ln n).com.stopping =
      some { mode := .brake, since := t, declaredMs := (s.ln n).com.set.live.brakeMs, heat := true })
  let orderly (s u : State) (n : LaneIx) (t : Ticks) : Prop :=
    let m := (s.ln n).stopMode (s.ln n).com.set.live.stopMode false
    (m = .coast → (u.ln n).com.state = .stopped) ∧
    (m ≠ .coast → (u.ln n).com.state = .stopping ∧ (u.ln n).com.stopping =
      some { mode := m, since := t, declaredMs := (s.ln n).declaredMs m, heat := false, orderlyHeat := true })
  let told (v : State) (i : SensorIx) (n : LaneIx) : EventOut :=
    ⟨v.sensorPitch i, v.eventEntry 0x01 n.val 0x31 (word i.val) (sword (own v i))
      (word (bit01 ((left v i n).any fun x => decide (x ≤ (((v.ln n).declared + 10 : Nat) : Rat))))) (predictWord (left v i n))⟩
  (∀ (s : State) (i : SensorIx) (t : Ticks),
    let v := s.lanesTick t
    used v i → unbroken v i t → newly v i → open_ v i →
    ∃ u : State, exec (.thermalSample i t) s = .next u ∧ (u.sn i).stop = true ∧
      ∀ n ∈ lanesOf i, (v.ln n).running = true → (v.ln n).com.state ≠ .stopping →
        (∀ x, left v i n = some x → x ≤ ((v.ln n).declared + 10 : Nat) → immediate v u n t) ∧
        (left v i n = none ∨ (∃ x, left v i n = some x ∧ ((v.ln n).declared + 10 : Nat) < x) → orderly v u n t) ∧
        (sensorLane i = some n → told v i n ∈ u.q.events)) ∧
  (∀ (s : State) (i : SensorIx) (n : LaneIx) (t : Ticks) (st : Stopping) (x : Rat),
    let v := s.lanesTick t
    used v i → unbroken v i t → ¬ newly v i → open_ v i → n ∈ lanesOf i → (v.ln n).com.state = .stopping →
    (v.ln n).com.stopping = some st → st.orderlyHeat = true → st.since < t → left v i n = some x →
    let rest := st.since + st.declaredMs * Config.ticksPerMs - t
    ∃ u : State, exec (.thermalSample i t) s = .next u ∧
      (x * Config.ticksPerMs ≤ (rest : Rat) → immediate v u n t) ∧
      ((rest : Rat) < x * Config.ticksPerMs → (u.ln n).com.state = .stopping ∧ (u.ln n).com.stopping = some st)) ∧
  (∀ (s : State) (n : LaneIx),
    let rises (i : SensorIx) : Prop := i ∈ sensorsOf n ∧ (s.sn i).available = true ∧ 8192 < 2000 * (s.sn i).rate
    let time (i : SensorIx) : Rat := 512 * ((s.ceiling i - (s.sn i).temp : Int) : Rat) / ((s.sn i).rate : Rat)
    (s.predict n = none ↔ ∀ i, ¬ rises i) ∧
    ∀ x, s.predict n = some x → (∃ i, rises i ∧ x = time i) ∧ ∀ i, rises i → x ≤ time i) ∧
  ∀ (s : State) (i : SensorIx) (t : Ticks), s.atSettled = true → (s.sn i).notEvaluated = false → (s.sn i).unavailable = false →
    (s.sn i).stale = false → (s.sn i).substituted = true → s.heat.median i = none →
    let v := s.lanesTick t
    ∃ u : State, exec (.thermalSample i t) s = .next u ∧ (u.sn i).unavailable = true ∧ (u.sn i).tempWord = 0x8000 ∧
      (u.sn i).stop = false ∧ (∀ j, j ≠ i → u.sn j = s.sn j) ∧
      ∀ n, sensorLane i = some n → (v.ln n).running = true →
        (u.ln n).com.state = .stopping ∨ (u.ln n).com.state = .stopped

/-- After a sample of a sensor in use whose own value (the mean, rounded half away from zero, the model's choice, log entry 58) does not
show it broken (below T_CLOSE), each lane that the sensor acts on has ILIM_TH formed anew. Take the sensors acting on a lane that are
available and not stale: where none of them is above its warn level or has RATE, ILIM_TH is 0x3FF; where one is at its stop level, it is
0; where one has RATE, it is at most half of ILIM; between the levels of one it is at most ILIM x (stop - T) / (stop - warn); and unless
0x3FF, it is the floor of that product for one of them. At a boundary each pitch's heat sum is that of its lanes' estimates, at most 32
767, and the lanes of a pitch above its heat figure are limited, while the die is WARM, to floor(ILIM x sqrt(figure / sum)), the others
to 0x3FF. -/
def Obligations.DeratingFollowsTheSensors : Prop :=
  (∀ (s : State) (i : SensorIx) (t : Ticks), s.atSettled = true → (s.sn i).notEvaluated = false → (s.sn i).unavailable = false →
    (s.sn i).stale = false → (s.sn i).substituted = false →
    let own := if (s.sn i).count = 0 then (s.sn i).own else roundHalfAway (s.sn i).sum (s.sn i).count
    (((s.lanesTick t).modSn i fun x => { x with own := own, sum := 0, count := 0 }).judge i t own).2 = none →
    (i.val < 8 → own < Config.tClose) →
    ∃ u : State, exec (.thermalSample i t) s = .next u ∧ (u.sn i).temp = own ∧
      ∀ n ∈ lanesOf i, (u.ln n).sense.ilimTh = u.thermalLimit n) ∧
  (∀ (s : State) (n : LaneIx),
    let th := (s.thermalLimit n).toNat
    let ilim := (s.ln n).sense.set.live.limit.toNat
    let acts (i : SensorIx) : Prop := i ∈ sensorsOf n ∧ (s.sn i).counts = true
    let warn (i : SensorIx) : Int := (s.levels i).1
    let stop (i : SensorIx) : Int := (s.levels i).2
    (∀ i, acts i → warn i < stop i) →
    ((∀ i, acts i → (s.sn i).temp ≤ warn i ∧ (s.sn i).rateFlag = false) → th = 0x3FF) ∧
    (∀ i, acts i → stop i ≤ (s.sn i).temp → th = 0) ∧
    (∀ i, acts i → (s.sn i).rateFlag = true → 2 * th ≤ ilim) ∧
    (∀ i, acts i → warn i < (s.sn i).temp → (th : Int) * (stop i - warn i) ≤ ilim * max 0 (stop i - (s.sn i).temp)) ∧
    (th ≠ 0x3FF → ∃ i, acts i ∧ (th : Int) = ((ilim : Rat) * s.derate i).floor)) ∧
  ∀ (s : State) (p : Pitch),
    let u := s.heatBoundary
    let sum := (laneIxs.map fun n => if s.laneOwner n = some p then (u.ln n).heat.est else 0).sum
    u.heat.heatSum[p] = min 32767 sum ∧
    ∀ n : LaneIx, s.laneOwner n = some p →
      let m := (u.ln n).sense.ilimFr.toNat
      let ilim := (u.ln n).sense.set.live.limit.toNat
      (u.heat.warm = true → s.pit.front.heat[p] < min 32767 sum →
        m * m * min 32767 sum ≤ ilim * ilim * s.pit.front.heat[p] ∧
        (0 < ilim → ilim * ilim * s.pit.front.heat[p] < (m + 1) * (m + 1) * min 32767 sum)) ∧
      (u.heat.warm = false ∨ min 32767 sum ≤ s.pit.front.heat[p] → m = 0x3FF)

/-- While the root holds and some effective mask is nonzero, TRACE_PACKET_SEND sends the first packet of the device queue; with that
queue empty, the first packet of the next pitch in rotation that has one, and the turn passes to the pitch after it. With every queue
empty the port stands between packets. With no mask in effect, or without the root, nothing changes. Nothing but the trace queues and
the port changes, once the events that waited at the lanes have acted. On the pins, TRC_CLK runs while some effective mask is nonzero
and the root holds, from a rising edge at a packet's start on; eight edges of it carry each word of the packet being sent, its bit pairs
most significant first, TRC_D_1 the higher, with TRC_SYNC high for the header word alone; between packets the other three pins are low,
and with no mask in effect or while the root is failed all four. -/
def Obligations.TracePortServesItsQueues : Prop :=
  let put (v : State) (o : Observe) : State := { v with obs := o }
  let runs (s : State) : Prop := s.clk.rootOk = true ∧ s.obs.active = true
  (∀ (s : State) (t : Ticks) (k : Packet) (r : List Packet),
    let v := s.lanesTick t
    runs v → v.obs.devQueue = k :: r →
    exec (.tracePacketSend t) s = .next (put v { v.obs with devQueue := r, sent := some k })) ∧
  (∀ (s : State) (t : Ticks) (p : Pitch) (k : Packet) (r : List Packet),
    let v := s.lanesTick t
    runs v → v.obs.devQueue = [] →
    v.obs.queue[p] = k :: r → (∀ d : Pitch, d < p - v.obs.turn → v.obs.queue[v.obs.turn + d] = []) →
    exec (.tracePacketSend t) s =
      .next (put v { v.obs with queue := vset v.obs.queue p r, sent := some k, turn := p + 1 })) ∧
  (∀ (s : State) (t : Ticks),
    let v := s.lanesTick t
    runs v → v.obs.devQueue = [] → (∀ p : Pitch, v.obs.queue[p] = []) →
    exec (.tracePacketSend t) s = .next (put v { v.obs with sent := none })) ∧
  (∀ (s : State) (t : Ticks), ¬ runs s →
    exec (.tracePacketSend t) s = .next (s.lanesTick t) ∧ ∀ k, s.tracePins k = ⟨false, false, false, false⟩) ∧
  (∀ (s : State) (k : Nat), runs s → s.obs.sent = none → s.tracePins k = ⟨decide (k % 2 = 0), false, false, false⟩) ∧
  ∀ (s : State) (p : Packet) (k : Nat), runs s → s.obs.sent = some p →
    (8 * p.words.length ≤ k → s.tracePins k = ⟨decide (k % 2 = 0), false, false, false⟩) ∧
    ∀ (j e : Nat) (w : Word), p.words[j]? = some w → e < 8 → k = 8 * j + e →
      s.tracePins k = ⟨decide (k % 2 = 0), decide (j = 0), w.getLsbD (15 - 2 * e), w.getLsbD (14 - 2 * e)⟩

/-- An admitted COMMIT_BATTEN from the owner of the batten's object whose shadow set is inconsistent completes with ST_INCONSISTENT and
does nothing else. A CARRIER set is inconsistent as R355 lists for the mode it names, a POLICY set when a reserved bit is set, a MASK
set when a row breaks R345 or two adjacent rows give a phase two different states neither of which is FLOAT (R356, R346), a SENSE set as
R405 lists, a COMMUT set as R452, a GATE set as R491 with R458, a TRACK set as R540, a HEAT set as R580; and by those conditions alone.
-/
def Obligations.InconsistentSetsAreRefused : Prop :=
  (∀ (s : State) (c : Cmd) (b : BattenId), s.admits c .commitBatten → battenOf (blockPage c.desc) (bits c.desc.w3 0 4) = some b →
    s.ownsBatten c.pitch b = true → s.battenBad b = true →
    exec (.commitBatten c) s = .next ((s.taken .commitBatten c).answered (s.appliedAs .commitBatten c) stInconsistent).serveDue) ∧
  (∀ (s : State) (n : LaneIx), s.battenBad (.carrier n) = true ↔
    let x := (s.ln n).car.set.shadow
    let mode := x.ctrl.toNat % 4
    let sum := x.deadMp.toNat % 256 + x.deadMp.toNat / 256
    let cot (phase : Nat) : Prop := x.periodMin.toNat < 800 ∨ x.periodMax.toNat < x.periodMin.toNat ∨ phase ≤ sum ∨
      x.periodMin.toNat < phase + x.deadMp.toNat / 256 ∨ phase ≤ x.sampleAt.toNat
    mode = 3 ∨ mode = 1 ∧ cot x.tOn.toNat ∨ mode = 2 ∧ cot x.tOff.toNat ∨
      mode = 0 ∧ (x.period.toNat < 800 ∨ x.period.toNat ≤ 2 * sum ∨ x.period.toNat ≤ x.sampleAt.toNat)) ∧
  (∀ (s : State) (n : LaneIx), s.battenBad (.policy n) = true ↔
    (s.ln n).car.policyShadow.toNat / 8 % 2 = 1 ∨ 128 ≤ (s.ln n).car.policyShadow.toNat) ∧
  (∀ (s : State) (n : LaneIx), s.battenBad (.commut n) = true ↔
    let x := (s.ln n).com.set.shadow
    x.ctrl.toNat % 4 = 3 ∨ 5 < x.ctrl.toNat / 8 % 8 ∨ 30 < x.advance.toNat % 32 ∨ x.runMin = 0 ∨ 0xBB80 < x.runMin.toNat ∨
      0x03C0 < x.revLimit.toNat ∨ x.accel = 0 ∨ x.decel = 0 ∨ 2048 ≤ x.ctrl.toNat ∨ 256 ≤ x.blankMin.toNat ∨
      32 ≤ x.advance.toNat ∨ 256 ≤ x.restartDelay.toNat) ∧
  (∀ (s : State) (n : LaneIx), s.battenBad (.gate n) = true ↔
    let x := (s.ln n).gate.set.shadow
    x.retryCfg.toNat % 256 = 0 ∨ (x.ctrl.toNat % 2 = 1 ∧ (2 ≤ n.val ∨ s.fuse.cfg100.getLsbD (6 + n.val) = false)) ∨
      x.ctrl.toNat / 8 % 2 = 1 ∨ x.ctrl.toNat / 128 % 2 = 1 ∨ 2048 ≤ x.ctrl.toNat ∨ 4096 ≤ x.vdsCfg.toNat ∨
      2048 ≤ x.retryCfg.toNat ∨ 4096 ≤ x.openLevel.toNat) ∧
  (∀ (s : State) (n : LaneIx), s.battenBad (.sense n) = true ↔
    let x := (s.ln n).sense.set.shadow
    let ilim := x.ilim.toNat % 1024
    let hi := x.winHi.toNat % 1024
    let lo : Int := if x.winLo.toNat % 2048 < 1024 then x.winLo.toNat % 2048 else x.winLo.toNat % 2048 - 2048
    ilim = 0 ∨ 895 < ilim ∨ hi ≤ ilim ∨ 895 < hi ∨ 0 ≤ lo ∨ lo < -128 ∨ ∃ k : Fin 5, x.route.toNat / 4 ^ k.val % 4 = 3) ∧
  (∀ (s : State) (n : LaneIx), s.battenBad (.mask n) = true ↔
    let st (r : Fin 6) (k : PhaseIx) : Nat := (s.ln n).car.mask.shadow.rows[r].toNat / 4 ^ k.val % 4
    (∃ r : Fin 6, ¬ ∃ i j k : PhaseIx, i ≠ j ∧ i ≠ k ∧ j ≠ k ∧ st r i = 0 ∧
      (st r j = 3 ∧ st r k = 1 ∨ st r j = 2 ∧ st r k = 1 ∨ st r j = 2 ∧ st r k = 3)) ∨
    ∃ (r : Fin 6) (k : PhaseIx), st r k ≠ st (r + 1) k ∧ st r k ≠ 0 ∧ st (r + 1) k ≠ 0) ∧
  (∀ (s : State) (n : TrkIx), s.battenBad (.track n) = true ↔
    let x := (s.tk n).shadow
    let f := x.cls.toNat % 256
    let r := x.cls.toNat / 256
    let c := x.cfg.toNat % 256
    let k := x.cfg.toNat / 256 % 16
    f < 4 ∨ 10 * r < 18 * f ∨ 10 * c < 18 * r ∨ k < 4 ∨ 10 < k ∨ x.tol.toNat % 64 < 1 ∨ 16 < x.tol.toNat % 64 ∨ x.slow = 0 ∨
      x.still.toNat % 256 < 100 ∨ 4096 ≤ x.cfg.toNat ∨ 64 ≤ x.tol.toNat ∨ 256 ≤ x.still.toNat) ∧
  ∀ (s : State) (n : LaneIx), s.battenBad (.heat n) = true ↔
    let x := (s.ln n).heat.shadow
    let b := x.ntcCfg.toNat / 256
    let warn := x.ntcLim.toNat % 256
    let stop := x.ntcLim.toNat / 256
    b < 100 ∨ 250 < b ∨ x.ntcCfg.toNat % 256 = 0 ∨ 150 < stop ∨ stop < warn + 5 ∨ 32768 ≤ x.sw.toNat

/-- At a boundary the host step and a bench hold take force. A HOST_PITCH that P0 wrote becomes the host pitch with a whole lease, the
old one keeping its lease end. At a host loss, by that change or by RST_N, the host pitch's commands submitted through the host port and
not yet applied complete with ST_LATE at this boundary and no other command lapses, DEV_EVENT.HOST_LOSS_SEEN sets, and each running lane
of that pitch with ON_HOST_LOSS ORDERLY is STOPPING or STOPPED, with HOST_LOSS reported unless it keeps a sooner stop; the other lanes
stay. Every boundary but the first counts each lease down. A bench hold puts each owned lane with ON_HOLD SAFE that runs or is in PIN
mode at its safe levels, STOPPED, with LANE_HOLD_SAFE posted; its end releases those levels. After a boundary IRQ_N is low, of its
sources but ERROR, exactly while an enabled one is pending for the host pitch: a completion, an event, or a lease of two bells or fewer;
ERROR acts at once, from SETTLED. -/
def Obligations.HostStepAndHoldTakeForce : Prop :=
  (∀ (s : State) (new : Pitch), s.pit.hostPitchNext = some new →
    (new = s.pit.hostPitch → s.takeHostPitch = { s with pit := { s.pit with hostPitchNext := none } }) ∧
    (new ≠ s.pit.hostPitch → ∃ v : State, s.takeHostPitch = v.hostLost s.pit.hostPitch 1 ∧
      v = { s with
        pit := { s.pit with hostPitch := new, hostPitchNext := none }
        host := { s.host with
          leaseOn := true, leaseOut := false, leaseLeft := s.host.leaseLen.toNat, oldLeases := v.host.oldLeases } } ∧
      ∀ o, o ∈ v.host.oldLeases ↔ o.pitch ≠ new ∧ (o ∈ s.host.oldLeases ∨
        (s.host.leaseOn = true ∧ s.host.leaseOut = false ∧ o = ⟨s.pit.hostPitch, s.host.leaseLeft⟩)))) ∧
  (∀ s : State, s.pit.hostPitchNext = none → s.takeHostPitch = s) ∧
  (∀ (s : State) (p : Pitch) (w : Word),
    let u := s.hostLost p w
    let goes (c : Cmd) : Prop := c.pitch = p ∧ c.door ≠ .ring
    u.dev.devEvent = s.dev.devEvent ||| 0x0004 ∧
    (∀ c, c ∈ u.q.accepted ↔ c ∈ s.q.accepted ∧ ¬ goes c) ∧
    (∀ c ∈ s.q.accepted, goes c → ∃ d ∈ u.q.outcomes, d.what.cmd = c ∧ d.status = stLate ∧ d.due = s.bell.bellNo) ∧
    ∀ n : LaneIx,
      let stops : Prop := s.laneOwner n = some p ∧ (s.ln n).running = true ∧ (s.ln n).car.policy.getLsbD 2 = false
      (stops → ((u.ln n).com.state = .stopping ∨ (u.ln n).com.state = .stopped) ∧
        ((s.ln n).keepsStop s.now .ramp false = false → ⟨p, s.eventEntry 0x01 n.val 0x02 w 0 0 0⟩ ∈ u.q.events)) ∧
      (¬ stops → u.ln n = s.ln n)) ∧
  (∀ s : State, s.leaseTick true = s ∧ s.leaseTick false = { s with host := { s.host with
    leaseLeft := s.host.leaseLeft - 1, oldLeases := s.host.oldLeases.map fun o => { o with left := o.left - 1 } } }) ∧
  (∀ s : State, s.q.holdNext = some true → s.q.hold = false →
    let u := s.takeHold
    u.q.hold = true ∧ u.q.holdNext = none ∧ ∀ n : LaneIx,
      let safe : Prop := (s.laneOwner n).isSome = true ∧ (s.ln n).car.policy.getLsbD 1 = false ∧
        ((s.ln n).running = true ∨ (s.ln n).pin = true)
      (safe → (u.ln n).latch.safeHold = true ∧ (u.ln n).com.state = .stopped ∧
        ∀ p, s.laneOwner n = some p → ⟨p, s.eventEntry 0x01 n.val 0x11 0 0 0 0⟩ ∈ u.q.events) ∧
      (¬ safe → u.ln n = s.ln n)) ∧
  (∀ s : State, s.q.holdNext = some false → s.q.hold = true →
    let u := s.takeHold
    u.q.hold = false ∧ u.q.holdNext = none ∧ ∀ n : LaneIx,
      ((s.ln n).latch.safeHold = true → (u.ln n).latch.safeHold = false ∧ (u.ln n).com.state = (s.ln n).com.state) ∧
      ((s.ln n).latch.safeHold = false → u.ln n = s.ln n)) ∧
  (∀ (s : State) (obs : BellObs) (e : DWord) (k : BellKind), s.bell.next = some (e, k) → s.atJoined = true → s.host.waiting = [] →
    ∃ u : State, exec (.bellBoundary obs) s = .next u ∧ u.host.irqBell = u.irqPending) ∧
  (∀ s : State, s.irqPending = true ↔
    (s.host.irqEn.getLsbD 0 = true ∧ ∃ q : QueueIx, s.ownsQueue s.pit.hostPitch q = true ∧ s.q.cq[q].entries ≠ []) ∨
    (s.host.irqEn.getLsbD 1 = true ∧ s.q.evq[s.pit.hostPitch].entries ≠ []) ∨
    (s.host.irqEn.getLsbD 2 = true ∧ s.host.leaseOn = true ∧ s.host.leaseLeft ≤ 2)) ∧
  ∀ s : State, s.irqLow = true ↔ s.atSettled = true ∧
    (s.host.irqBell = true ∨ (s.host.irqEn.getLsbD 3 = true ∧ (s.host.crcErr = true ∨ s.host.frameErr = true)))

/-- For every command and every state, exec answers a next state: no row of the table faults or is refused, since the spec gives each
its effect. No command puts a command into the queue or takes one out, so the queue after it is the queue before it. The state holds
every effect, refusals by status included. -/
def Obligations.EveryCommandCompletes : Prop :=
  ∀ (c : Instr) (s : State), ∃ u : State, exec c s = .next u ∧ u.pending = s.pending

/-- Take a state in which each half-bridge has on only the side wanted last or one that STRETCH keeps on, never both, and waiting for
its dead time or held back by DROP only the side wanted last; in which both fuse stores are in canonical form, and queue group 0 belongs
to P0 with no ASSIGN of it on its way. Whatever command is next, the step's state is such a state again; in particular queue group 0
belongs to P0 at all times (R244), and no command, in any order and with any operands, brings the two switches of a half-bridge on
together. That State.reset is such a state is a statement of its own. -/
def Obligations.StepsKeepSafeStates : Prop :=
  ∀ s t : State, s.Safe → step s = .next t →
    t.Safe ∧ t.pit.own.group[(0 : Fin 16)] = some 0 ∧ ∀ (n : LaneIx) (k : PhaseIx), ¬ ((t.ln n).car.bridges[k]).shootThrough

/-- From every state whose count of flywheel bells in a row is at most four, whatever command is next, the step's state has at most four
again. At four in a row FLYWHEEL_BELL makes no boundary: the bell, the epoch and the count stay as they are but for BELL_OK and
BELL_EVENT, and the island of R107 to R110 takes over. -/
def Obligations.FlywheelBellsStayAtMostFour : Prop :=
  (∀ s t : State, s.bell.flyRun ≤ 4 → step s = .next t → t.bell.flyRun ≤ 4) ∧
  ∀ (s : State) (obs : BellObs), 4 ≤ s.bell.flyRun → ∃ u : State, exec (.flywheelBell obs) s = .next u ∧
    u.bell = { s.bell with bellOk := u.bell.bellOk, bellEvent := u.bell.bellEvent, fresh := u.bell.fresh }

/-- State.reset meets the invariants of the two statements before this one: every gate is off, no side waits or is held back, both fuse
stores are in canonical form with the part's code alone listed, queue group 0 belongs to P0, and no flywheel bell has been made. No
command waits in its queue. -/
def Obligations.ResetIsASafeState : Prop :=
  State.reset.Safe ∧ State.reset.bell.flyRun = 0 ∧ State.reset.pending = [] ∧
  (∀ (n : LaneIx) (k : PhaseIx), ((State.reset.ln n).car.bridges[k]).isOff = true ∧
    ((State.reset.ln n).car.bridges[k]).wait = none) ∧
  State.reset.fuse.array = [(0x082, { value := 0x5B096846, ok := true })] ∧
  State.reset.fuse.image = [(0x082, { value := 0x5B096846, ok := true })]
end

