-- ==== Sys2Proof/Laws/State.lean ====
section
/-! SUPPORT. The small lemmas of the state's access and of its plainest updates: what each update leaves of every part of the state,
so that no proof unfolds a record update. -/

namespace Sys2Proof.Machine

-- One proof at a time: proofs elaborated side by side would wait for each other, each with its own stack.
set_option Elab.async false

/-! ### Vectors -/

/-- A place of a vector with one place replaced. -/
theorem vset_get {α : Type} {n : Nat} (v : Vector α n) (i : Fin n) (x : α) (j : Nat) (hj : j < n) :
    (vset v i x)[j] = if i.val = j then x else v[j] := by
  simp [vset, Vector.getElem_set]

@[simp] theorem vset_self {α : Type} {n : Nat} (v : Vector α n) (i : Fin n) (x : α) : (vset v i x)[i.val] = x := by
  simp [vset]

theorem vset_ne {α : Type} {n : Nat} (v : Vector α n) (i j : Fin n) (x : α) (h : i ≠ j) : (vset v i x)[j.val] = v[j.val] := by
  rw [vset_get, if_neg (fun e => h (Fin.ext e))]

theorem vmod_eq {α : Type} {n : Nat} (v : Vector α n) (i : Fin n) (f : α → α) : vmod v i f = vset v i (f v[i.val]) := rfl

@[simp] theorem vmod_self {α : Type} {n : Nat} (v : Vector α n) (i : Fin n) (f : α → α) : (vmod v i f)[i.val] = f v[i.val] := by
  rw [vmod_eq, vset_self]

theorem vmod_ne {α : Type} {n : Nat} (v : Vector α n) (i j : Fin n) (f : α → α) (h : i ≠ j) : (vmod v i f)[j.val] = v[j.val] := by
  rw [vmod_eq, vset_ne _ _ _ _ h]

@[simp] theorem vmap_get {α β : Type} {n : Nat} (f : α → β) (v : Vector α n) (j : Nat) (hj : j < n) : (vmap f v)[j] = f v[j] := by
  simp [vmap]

@[simp] theorem vset_get_self {α : Type} {n : Nat} (v : Vector α n) (i : Fin n) : vset v i v[i.val] = v := by
  apply Vector.ext
  intro j hj
  rw [vset_get]
  split
  · rename_i h; subst h; rfl
  · rfl

/-! ### Lanes, trackers and sensors -/

@[simp] theorem State.ln_setLn (s : State) (n : LaneIx) (l : Lane) : (s.setLn n l).ln n = l := vset_self _ _ _

theorem State.ln_setLn_ne (s : State) (n m : LaneIx) (l : Lane) (h : n ≠ m) : (s.setLn n l).ln m = s.ln m := by
  simp only [State.ln, State.setLn]; exact vset_ne _ _ _ _ h

@[simp] theorem State.ln_modLn (s : State) (n : LaneIx) (f : Lane → Lane) : (s.modLn n f).ln n = f (s.ln n) := by
  simp [State.modLn]

theorem State.ln_modLn_ne (s : State) (n m : LaneIx) (f : Lane → Lane) (h : n ≠ m) : (s.modLn n f).ln m = s.ln m :=
  s.ln_setLn_ne n m _ h

@[simp] theorem State.setLn_ln (s : State) (n : LaneIx) : s.setLn n (s.ln n) = s := by
  unfold State.setLn State.ln
  rw [show vset s.lane n s.lane[n] = s.lane from vset_get_self s.lane n]

@[simp] theorem State.tk_setTk (s : State) (n : TrkIx) (x : Tracker) : (s.setTk n x).tk n = x := vset_self _ _ _

theorem State.tk_setTk_ne (s : State) (n m : TrkIx) (x : Tracker) (h : n ≠ m) : (s.setTk n x).tk m = s.tk m := by
  simp only [State.tk, State.setTk]; exact vset_ne _ _ _ _ h

@[simp] theorem State.tk_modTk (s : State) (n : TrkIx) (f : Tracker → Tracker) : (s.modTk n f).tk n = f (s.tk n) := by
  simp [State.modTk]

theorem State.tk_modTk_ne (s : State) (n m : TrkIx) (f : Tracker → Tracker) (h : n ≠ m) : (s.modTk n f).tk m = s.tk m :=
  s.tk_setTk_ne n m _ h

@[simp] theorem State.sn_modSn (s : State) (i : SensorIx) (f : Sensor → Sensor) : (s.modSn i f).sn i = f (s.sn i) := vmod_self _ _ _

theorem State.sn_modSn_ne (s : State) (i j : SensorIx) (f : Sensor → Sensor) (h : i ≠ j) : (s.modSn i f).sn j = s.sn j := by
  simp only [State.sn, State.modSn]; exact vmod_ne _ _ _ _ h

/-! ### What the plain updates leave -/

@[simp] theorem State.setLn_pending (s : State) (n : LaneIx) (l : Lane) : (s.setLn n l).pending = s.pending := rfl
@[simp] theorem State.setLn_now (s : State) (n : LaneIx) (l : Lane) : (s.setLn n l).now = s.now := rfl
@[simp] theorem State.setLn_dev (s : State) (n : LaneIx) (l : Lane) : (s.setLn n l).dev = s.dev := rfl
@[simp] theorem State.setLn_pwr (s : State) (n : LaneIx) (l : Lane) : (s.setLn n l).pwr = s.pwr := rfl
@[simp] theorem State.setLn_clk (s : State) (n : LaneIx) (l : Lane) : (s.setLn n l).clk = s.clk := rfl
@[simp] theorem State.setLn_bell (s : State) (n : LaneIx) (l : Lane) : (s.setLn n l).bell = s.bell := rfl
@[simp] theorem State.setLn_ring (s : State) (n : LaneIx) (l : Lane) : (s.setLn n l).ring = s.ring := rfl
@[simp] theorem State.setLn_pit (s : State) (n : LaneIx) (l : Lane) : (s.setLn n l).pit = s.pit := rfl
@[simp] theorem State.setLn_host (s : State) (n : LaneIx) (l : Lane) : (s.setLn n l).host = s.host := rfl
@[simp] theorem State.setLn_q (s : State) (n : LaneIx) (l : Lane) : (s.setLn n l).q = s.q := rfl
@[simp] theorem State.setLn_fuse (s : State) (n : LaneIx) (l : Lane) : (s.setLn n l).fuse = s.fuse := rfl
@[simp] theorem State.setLn_ana (s : State) (n : LaneIx) (l : Lane) : (s.setLn n l).ana = s.ana := rfl
@[simp] theorem State.setLn_trk (s : State) (n : LaneIx) (l : Lane) : (s.setLn n l).trk = s.trk := rfl
@[simp] theorem State.setLn_heat (s : State) (n : LaneIx) (l : Lane) : (s.setLn n l).heat = s.heat := rfl
@[simp] theorem State.setLn_obs (s : State) (n : LaneIx) (l : Lane) : (s.setLn n l).obs = s.obs := rfl
@[simp] theorem State.setLn_start (s : State) (n : LaneIx) (l : Lane) : (s.setLn n l).start = s.start := rfl

@[simp] theorem State.modLn_pending (s : State) (n : LaneIx) (f : Lane → Lane) : (s.modLn n f).pending = s.pending := rfl
@[simp] theorem State.modLn_now (s : State) (n : LaneIx) (f : Lane → Lane) : (s.modLn n f).now = s.now := rfl
@[simp] theorem State.modLn_dev (s : State) (n : LaneIx) (f : Lane → Lane) : (s.modLn n f).dev = s.dev := rfl
@[simp] theorem State.modLn_pwr (s : State) (n : LaneIx) (f : Lane → Lane) : (s.modLn n f).pwr = s.pwr := rfl
@[simp] theorem State.modLn_clk (s : State) (n : LaneIx) (f : Lane → Lane) : (s.modLn n f).clk = s.clk := rfl
@[simp] theorem State.modLn_bell (s : State) (n : LaneIx) (f : Lane → Lane) : (s.modLn n f).bell = s.bell := rfl
@[simp] theorem State.modLn_ring (s : State) (n : LaneIx) (f : Lane → Lane) : (s.modLn n f).ring = s.ring := rfl
@[simp] theorem State.modLn_pit (s : State) (n : LaneIx) (f : Lane → Lane) : (s.modLn n f).pit = s.pit := rfl
@[simp] theorem State.modLn_host (s : State) (n : LaneIx) (f : Lane → Lane) : (s.modLn n f).host = s.host := rfl
@[simp] theorem State.modLn_q (s : State) (n : LaneIx) (f : Lane → Lane) : (s.modLn n f).q = s.q := rfl
@[simp] theorem State.modLn_fuse (s : State) (n : LaneIx) (f : Lane → Lane) : (s.modLn n f).fuse = s.fuse := rfl
@[simp] theorem State.modLn_ana (s : State) (n : LaneIx) (f : Lane → Lane) : (s.modLn n f).ana = s.ana := rfl
@[simp] theorem State.modLn_trk (s : State) (n : LaneIx) (f : Lane → Lane) : (s.modLn n f).trk = s.trk := rfl
@[simp] theorem State.modLn_heat (s : State) (n : LaneIx) (f : Lane → Lane) : (s.modLn n f).heat = s.heat := rfl
@[simp] theorem State.modLn_obs (s : State) (n : LaneIx) (f : Lane → Lane) : (s.modLn n f).obs = s.obs := rfl
@[simp] theorem State.modLn_start (s : State) (n : LaneIx) (f : Lane → Lane) : (s.modLn n f).start = s.start := rfl

@[simp] theorem State.setTk_pending (s : State) (n : TrkIx) (x : Tracker) : (s.setTk n x).pending = s.pending := rfl
@[simp] theorem State.setTk_now (s : State) (n : TrkIx) (x : Tracker) : (s.setTk n x).now = s.now := rfl
@[simp] theorem State.setTk_dev (s : State) (n : TrkIx) (x : Tracker) : (s.setTk n x).dev = s.dev := rfl
@[simp] theorem State.setTk_pwr (s : State) (n : TrkIx) (x : Tracker) : (s.setTk n x).pwr = s.pwr := rfl
@[simp] theorem State.setTk_clk (s : State) (n : TrkIx) (x : Tracker) : (s.setTk n x).clk = s.clk := rfl
@[simp] theorem State.setTk_bell (s : State) (n : TrkIx) (x : Tracker) : (s.setTk n x).bell = s.bell := rfl
@[simp] theorem State.setTk_ring (s : State) (n : TrkIx) (x : Tracker) : (s.setTk n x).ring = s.ring := rfl
@[simp] theorem State.setTk_pit (s : State) (n : TrkIx) (x : Tracker) : (s.setTk n x).pit = s.pit := rfl
@[simp] theorem State.setTk_host (s : State) (n : TrkIx) (x : Tracker) : (s.setTk n x).host = s.host := rfl
@[simp] theorem State.setTk_q (s : State) (n : TrkIx) (x : Tracker) : (s.setTk n x).q = s.q := rfl
@[simp] theorem State.setTk_fuse (s : State) (n : TrkIx) (x : Tracker) : (s.setTk n x).fuse = s.fuse := rfl
@[simp] theorem State.setTk_lane (s : State) (n : TrkIx) (x : Tracker) : (s.setTk n x).lane = s.lane := rfl
@[simp] theorem State.setTk_ana (s : State) (n : TrkIx) (x : Tracker) : (s.setTk n x).ana = s.ana := rfl
@[simp] theorem State.setTk_heat (s : State) (n : TrkIx) (x : Tracker) : (s.setTk n x).heat = s.heat := rfl
@[simp] theorem State.setTk_obs (s : State) (n : TrkIx) (x : Tracker) : (s.setTk n x).obs = s.obs := rfl
@[simp] theorem State.setTk_start (s : State) (n : TrkIx) (x : Tracker) : (s.setTk n x).start = s.start := rfl

@[simp] theorem State.modTk_pending (s : State) (n : TrkIx) (f : Tracker → Tracker) : (s.modTk n f).pending = s.pending := rfl
@[simp] theorem State.modTk_now (s : State) (n : TrkIx) (f : Tracker → Tracker) : (s.modTk n f).now = s.now := rfl
@[simp] theorem State.modTk_dev (s : State) (n : TrkIx) (f : Tracker → Tracker) : (s.modTk n f).dev = s.dev := rfl
@[simp] theorem State.modTk_pwr (s : State) (n : TrkIx) (f : Tracker → Tracker) : (s.modTk n f).pwr = s.pwr := rfl
@[simp] theorem State.modTk_clk (s : State) (n : TrkIx) (f : Tracker → Tracker) : (s.modTk n f).clk = s.clk := rfl
@[simp] theorem State.modTk_bell (s : State) (n : TrkIx) (f : Tracker → Tracker) : (s.modTk n f).bell = s.bell := rfl
@[simp] theorem State.modTk_ring (s : State) (n : TrkIx) (f : Tracker → Tracker) : (s.modTk n f).ring = s.ring := rfl
@[simp] theorem State.modTk_pit (s : State) (n : TrkIx) (f : Tracker → Tracker) : (s.modTk n f).pit = s.pit := rfl
@[simp] theorem State.modTk_host (s : State) (n : TrkIx) (f : Tracker → Tracker) : (s.modTk n f).host = s.host := rfl
@[simp] theorem State.modTk_q (s : State) (n : TrkIx) (f : Tracker → Tracker) : (s.modTk n f).q = s.q := rfl
@[simp] theorem State.modTk_fuse (s : State) (n : TrkIx) (f : Tracker → Tracker) : (s.modTk n f).fuse = s.fuse := rfl
@[simp] theorem State.modTk_lane (s : State) (n : TrkIx) (f : Tracker → Tracker) : (s.modTk n f).lane = s.lane := rfl
@[simp] theorem State.modTk_ana (s : State) (n : TrkIx) (f : Tracker → Tracker) : (s.modTk n f).ana = s.ana := rfl
@[simp] theorem State.modTk_heat (s : State) (n : TrkIx) (f : Tracker → Tracker) : (s.modTk n f).heat = s.heat := rfl
@[simp] theorem State.modTk_obs (s : State) (n : TrkIx) (f : Tracker → Tracker) : (s.modTk n f).obs = s.obs := rfl
@[simp] theorem State.modTk_start (s : State) (n : TrkIx) (f : Tracker → Tracker) : (s.modTk n f).start = s.start := rfl

@[simp] theorem State.modSn_pending (s : State) (i : SensorIx) (f : Sensor → Sensor) : (s.modSn i f).pending = s.pending := rfl
@[simp] theorem State.modSn_now (s : State) (i : SensorIx) (f : Sensor → Sensor) : (s.modSn i f).now = s.now := rfl
@[simp] theorem State.modSn_dev (s : State) (i : SensorIx) (f : Sensor → Sensor) : (s.modSn i f).dev = s.dev := rfl
@[simp] theorem State.modSn_pwr (s : State) (i : SensorIx) (f : Sensor → Sensor) : (s.modSn i f).pwr = s.pwr := rfl
@[simp] theorem State.modSn_clk (s : State) (i : SensorIx) (f : Sensor → Sensor) : (s.modSn i f).clk = s.clk := rfl
@[simp] theorem State.modSn_bell (s : State) (i : SensorIx) (f : Sensor → Sensor) : (s.modSn i f).bell = s.bell := rfl
@[simp] theorem State.modSn_ring (s : State) (i : SensorIx) (f : Sensor → Sensor) : (s.modSn i f).ring = s.ring := rfl
@[simp] theorem State.modSn_pit (s : State) (i : SensorIx) (f : Sensor → Sensor) : (s.modSn i f).pit = s.pit := rfl
@[simp] theorem State.modSn_host (s : State) (i : SensorIx) (f : Sensor → Sensor) : (s.modSn i f).host = s.host := rfl
@[simp] theorem State.modSn_q (s : State) (i : SensorIx) (f : Sensor → Sensor) : (s.modSn i f).q = s.q := rfl
@[simp] theorem State.modSn_fuse (s : State) (i : SensorIx) (f : Sensor → Sensor) : (s.modSn i f).fuse = s.fuse := rfl
@[simp] theorem State.modSn_lane (s : State) (i : SensorIx) (f : Sensor → Sensor) : (s.modSn i f).lane = s.lane := rfl
@[simp] theorem State.modSn_ana (s : State) (i : SensorIx) (f : Sensor → Sensor) : (s.modSn i f).ana = s.ana := rfl
@[simp] theorem State.modSn_trk (s : State) (i : SensorIx) (f : Sensor → Sensor) : (s.modSn i f).trk = s.trk := rfl
@[simp] theorem State.modSn_obs (s : State) (i : SensorIx) (f : Sensor → Sensor) : (s.modSn i f).obs = s.obs := rfl
@[simp] theorem State.modSn_start (s : State) (i : SensorIx) (f : Sensor → Sensor) : (s.modSn i f).start = s.start := rfl

@[simp] theorem State.tick_pending (s : State) (t : Ticks) : (s.tick t).pending = s.pending := rfl
@[simp] theorem State.tick_dev (s : State) (t : Ticks) : (s.tick t).dev = s.dev := rfl
@[simp] theorem State.tick_pwr (s : State) (t : Ticks) : (s.tick t).pwr = s.pwr := rfl
@[simp] theorem State.tick_clk (s : State) (t : Ticks) : (s.tick t).clk = s.clk := rfl
@[simp] theorem State.tick_bell (s : State) (t : Ticks) : (s.tick t).bell = s.bell := rfl
@[simp] theorem State.tick_ring (s : State) (t : Ticks) : (s.tick t).ring = s.ring := rfl
@[simp] theorem State.tick_pit (s : State) (t : Ticks) : (s.tick t).pit = s.pit := rfl
@[simp] theorem State.tick_host (s : State) (t : Ticks) : (s.tick t).host = s.host := rfl
@[simp] theorem State.tick_q (s : State) (t : Ticks) : (s.tick t).q = s.q := rfl
@[simp] theorem State.tick_fuse (s : State) (t : Ticks) : (s.tick t).fuse = s.fuse := rfl
@[simp] theorem State.tick_lane (s : State) (t : Ticks) : (s.tick t).lane = s.lane := rfl
@[simp] theorem State.tick_ana (s : State) (t : Ticks) : (s.tick t).ana = s.ana := rfl
@[simp] theorem State.tick_trk (s : State) (t : Ticks) : (s.tick t).trk = s.trk := rfl
@[simp] theorem State.tick_heat (s : State) (t : Ticks) : (s.tick t).heat = s.heat := rfl
@[simp] theorem State.tick_obs (s : State) (t : Ticks) : (s.tick t).obs = s.obs := rfl

@[simp] theorem State.finishIn_pending (s : State) (k : Nat) (a : Applied) (st : Byte) (r0 r1 r2 r3 : Word) : (s.finishIn k a st r0 r1 r2 r3).pending = s.pending := rfl
@[simp] theorem State.finishIn_now (s : State) (k : Nat) (a : Applied) (st : Byte) (r0 r1 r2 r3 : Word) : (s.finishIn k a st r0 r1 r2 r3).now = s.now := rfl
@[simp] theorem State.finishIn_dev (s : State) (k : Nat) (a : Applied) (st : Byte) (r0 r1 r2 r3 : Word) : (s.finishIn k a st r0 r1 r2 r3).dev = s.dev := rfl
@[simp] theorem State.finishIn_pwr (s : State) (k : Nat) (a : Applied) (st : Byte) (r0 r1 r2 r3 : Word) : (s.finishIn k a st r0 r1 r2 r3).pwr = s.pwr := rfl
@[simp] theorem State.finishIn_clk (s : State) (k : Nat) (a : Applied) (st : Byte) (r0 r1 r2 r3 : Word) : (s.finishIn k a st r0 r1 r2 r3).clk = s.clk := rfl
@[simp] theorem State.finishIn_bell (s : State) (k : Nat) (a : Applied) (st : Byte) (r0 r1 r2 r3 : Word) : (s.finishIn k a st r0 r1 r2 r3).bell = s.bell := rfl
@[simp] theorem State.finishIn_ring (s : State) (k : Nat) (a : Applied) (st : Byte) (r0 r1 r2 r3 : Word) : (s.finishIn k a st r0 r1 r2 r3).ring = s.ring := rfl
@[simp] theorem State.finishIn_pit (s : State) (k : Nat) (a : Applied) (st : Byte) (r0 r1 r2 r3 : Word) : (s.finishIn k a st r0 r1 r2 r3).pit = s.pit := rfl
@[simp] theorem State.finishIn_host (s : State) (k : Nat) (a : Applied) (st : Byte) (r0 r1 r2 r3 : Word) : (s.finishIn k a st r0 r1 r2 r3).host = s.host := rfl
@[simp] theorem State.finishIn_fuse (s : State) (k : Nat) (a : Applied) (st : Byte) (r0 r1 r2 r3 : Word) : (s.finishIn k a st r0 r1 r2 r3).fuse = s.fuse := rfl
@[simp] theorem State.finishIn_lane (s : State) (k : Nat) (a : Applied) (st : Byte) (r0 r1 r2 r3 : Word) : (s.finishIn k a st r0 r1 r2 r3).lane = s.lane := rfl
@[simp] theorem State.finishIn_ana (s : State) (k : Nat) (a : Applied) (st : Byte) (r0 r1 r2 r3 : Word) : (s.finishIn k a st r0 r1 r2 r3).ana = s.ana := rfl
@[simp] theorem State.finishIn_trk (s : State) (k : Nat) (a : Applied) (st : Byte) (r0 r1 r2 r3 : Word) : (s.finishIn k a st r0 r1 r2 r3).trk = s.trk := rfl
@[simp] theorem State.finishIn_heat (s : State) (k : Nat) (a : Applied) (st : Byte) (r0 r1 r2 r3 : Word) : (s.finishIn k a st r0 r1 r2 r3).heat = s.heat := rfl
@[simp] theorem State.finishIn_obs (s : State) (k : Nat) (a : Applied) (st : Byte) (r0 r1 r2 r3 : Word) : (s.finishIn k a st r0 r1 r2 r3).obs = s.obs := rfl

@[simp] theorem State.finish_pending (s : State) (a : Applied) (st : Byte) (r0 r1 r2 r3 : Word) : (s.finish a st r0 r1 r2 r3).pending = s.pending := rfl
@[simp] theorem State.finish_now (s : State) (a : Applied) (st : Byte) (r0 r1 r2 r3 : Word) : (s.finish a st r0 r1 r2 r3).now = s.now := rfl
@[simp] theorem State.finish_dev (s : State) (a : Applied) (st : Byte) (r0 r1 r2 r3 : Word) : (s.finish a st r0 r1 r2 r3).dev = s.dev := rfl
@[simp] theorem State.finish_pwr (s : State) (a : Applied) (st : Byte) (r0 r1 r2 r3 : Word) : (s.finish a st r0 r1 r2 r3).pwr = s.pwr := rfl
@[simp] theorem State.finish_clk (s : State) (a : Applied) (st : Byte) (r0 r1 r2 r3 : Word) : (s.finish a st r0 r1 r2 r3).clk = s.clk := rfl
@[simp] theorem State.finish_bell (s : State) (a : Applied) (st : Byte) (r0 r1 r2 r3 : Word) : (s.finish a st r0 r1 r2 r3).bell = s.bell := rfl
@[simp] theorem State.finish_ring (s : State) (a : Applied) (st : Byte) (r0 r1 r2 r3 : Word) : (s.finish a st r0 r1 r2 r3).ring = s.ring := rfl
@[simp] theorem State.finish_pit (s : State) (a : Applied) (st : Byte) (r0 r1 r2 r3 : Word) : (s.finish a st r0 r1 r2 r3).pit = s.pit := rfl
@[simp] theorem State.finish_host (s : State) (a : Applied) (st : Byte) (r0 r1 r2 r3 : Word) : (s.finish a st r0 r1 r2 r3).host = s.host := rfl
@[simp] theorem State.finish_fuse (s : State) (a : Applied) (st : Byte) (r0 r1 r2 r3 : Word) : (s.finish a st r0 r1 r2 r3).fuse = s.fuse := rfl
@[simp] theorem State.finish_lane (s : State) (a : Applied) (st : Byte) (r0 r1 r2 r3 : Word) : (s.finish a st r0 r1 r2 r3).lane = s.lane := rfl
@[simp] theorem State.finish_ana (s : State) (a : Applied) (st : Byte) (r0 r1 r2 r3 : Word) : (s.finish a st r0 r1 r2 r3).ana = s.ana := rfl
@[simp] theorem State.finish_trk (s : State) (a : Applied) (st : Byte) (r0 r1 r2 r3 : Word) : (s.finish a st r0 r1 r2 r3).trk = s.trk := rfl
@[simp] theorem State.finish_heat (s : State) (a : Applied) (st : Byte) (r0 r1 r2 r3 : Word) : (s.finish a st r0 r1 r2 r3).heat = s.heat := rfl
@[simp] theorem State.finish_obs (s : State) (a : Applied) (st : Byte) (r0 r1 r2 r3 : Word) : (s.finish a st r0 r1 r2 r3).obs = s.obs := rfl

@[simp] theorem State.count_pending (s : State) (c i : Nat) (w : Option Pitch) : (s.count c i w).pending = s.pending := by simp only [State.count]
@[simp] theorem State.count_now (s : State) (c i : Nat) (w : Option Pitch) : (s.count c i w).now = s.now := by simp only [State.count]
@[simp] theorem State.count_dev (s : State) (c i : Nat) (w : Option Pitch) : (s.count c i w).dev = s.dev := by simp only [State.count]
@[simp] theorem State.count_pwr (s : State) (c i : Nat) (w : Option Pitch) : (s.count c i w).pwr = s.pwr := by simp only [State.count]
@[simp] theorem State.count_clk (s : State) (c i : Nat) (w : Option Pitch) : (s.count c i w).clk = s.clk := by simp only [State.count]
@[simp] theorem State.count_bell (s : State) (c i : Nat) (w : Option Pitch) : (s.count c i w).bell = s.bell := by simp only [State.count]
@[simp] theorem State.count_ring (s : State) (c i : Nat) (w : Option Pitch) : (s.count c i w).ring = s.ring := by simp only [State.count]
@[simp] theorem State.count_pit (s : State) (c i : Nat) (w : Option Pitch) : (s.count c i w).pit = s.pit := by simp only [State.count]
@[simp] theorem State.count_host (s : State) (c i : Nat) (w : Option Pitch) : (s.count c i w).host = s.host := by simp only [State.count]
@[simp] theorem State.count_q (s : State) (c i : Nat) (w : Option Pitch) : (s.count c i w).q = s.q := by simp only [State.count]
@[simp] theorem State.count_fuse (s : State) (c i : Nat) (w : Option Pitch) : (s.count c i w).fuse = s.fuse := by simp only [State.count]
@[simp] theorem State.count_lane (s : State) (c i : Nat) (w : Option Pitch) : (s.count c i w).lane = s.lane := by simp only [State.count]
@[simp] theorem State.count_ana (s : State) (c i : Nat) (w : Option Pitch) : (s.count c i w).ana = s.ana := by simp only [State.count]
@[simp] theorem State.count_trk (s : State) (c i : Nat) (w : Option Pitch) : (s.count c i w).trk = s.trk := by simp only [State.count]
@[simp] theorem State.count_heat (s : State) (c i : Nat) (w : Option Pitch) : (s.count c i w).heat = s.heat := by simp only [State.count]
@[simp] theorem State.count_start (s : State) (c i : Nat) (w : Option Pitch) : (s.count c i w).start = s.start := by simp only [State.count]

@[simp] theorem State.eventFor_pending (s : State) (p : Pitch) (c i k : Nat) (w4 w5 w6 w7 : Word) : (s.eventFor p c i k w4 w5 w6 w7).pending = s.pending := rfl
@[simp] theorem State.eventFor_now (s : State) (p : Pitch) (c i k : Nat) (w4 w5 w6 w7 : Word) : (s.eventFor p c i k w4 w5 w6 w7).now = s.now := rfl
@[simp] theorem State.eventFor_dev (s : State) (p : Pitch) (c i k : Nat) (w4 w5 w6 w7 : Word) : (s.eventFor p c i k w4 w5 w6 w7).dev = s.dev := rfl
@[simp] theorem State.eventFor_pwr (s : State) (p : Pitch) (c i k : Nat) (w4 w5 w6 w7 : Word) : (s.eventFor p c i k w4 w5 w6 w7).pwr = s.pwr := rfl
@[simp] theorem State.eventFor_clk (s : State) (p : Pitch) (c i k : Nat) (w4 w5 w6 w7 : Word) : (s.eventFor p c i k w4 w5 w6 w7).clk = s.clk := rfl
@[simp] theorem State.eventFor_bell (s : State) (p : Pitch) (c i k : Nat) (w4 w5 w6 w7 : Word) : (s.eventFor p c i k w4 w5 w6 w7).bell = s.bell := rfl
@[simp] theorem State.eventFor_ring (s : State) (p : Pitch) (c i k : Nat) (w4 w5 w6 w7 : Word) : (s.eventFor p c i k w4 w5 w6 w7).ring = s.ring := rfl
@[simp] theorem State.eventFor_pit (s : State) (p : Pitch) (c i k : Nat) (w4 w5 w6 w7 : Word) : (s.eventFor p c i k w4 w5 w6 w7).pit = s.pit := rfl
@[simp] theorem State.eventFor_host (s : State) (p : Pitch) (c i k : Nat) (w4 w5 w6 w7 : Word) : (s.eventFor p c i k w4 w5 w6 w7).host = s.host := rfl
@[simp] theorem State.eventFor_fuse (s : State) (p : Pitch) (c i k : Nat) (w4 w5 w6 w7 : Word) : (s.eventFor p c i k w4 w5 w6 w7).fuse = s.fuse := rfl
@[simp] theorem State.eventFor_lane (s : State) (p : Pitch) (c i k : Nat) (w4 w5 w6 w7 : Word) : (s.eventFor p c i k w4 w5 w6 w7).lane = s.lane := rfl
@[simp] theorem State.eventFor_ana (s : State) (p : Pitch) (c i k : Nat) (w4 w5 w6 w7 : Word) : (s.eventFor p c i k w4 w5 w6 w7).ana = s.ana := rfl
@[simp] theorem State.eventFor_trk (s : State) (p : Pitch) (c i k : Nat) (w4 w5 w6 w7 : Word) : (s.eventFor p c i k w4 w5 w6 w7).trk = s.trk := rfl
@[simp] theorem State.eventFor_heat (s : State) (p : Pitch) (c i k : Nat) (w4 w5 w6 w7 : Word) : (s.eventFor p c i k w4 w5 w6 w7).heat = s.heat := rfl
@[simp] theorem State.eventFor_obs (s : State) (p : Pitch) (c i k : Nat) (w4 w5 w6 w7 : Word) : (s.eventFor p c i k w4 w5 w6 w7).obs = s.obs := rfl

@[simp] theorem State.devEventSet_pending (s : State) (m : Word) : (s.devEventSet m).pending = s.pending := rfl
@[simp] theorem State.devEventSet_now (s : State) (m : Word) : (s.devEventSet m).now = s.now := rfl
@[simp] theorem State.devEventSet_pwr (s : State) (m : Word) : (s.devEventSet m).pwr = s.pwr := rfl
@[simp] theorem State.devEventSet_clk (s : State) (m : Word) : (s.devEventSet m).clk = s.clk := rfl
@[simp] theorem State.devEventSet_bell (s : State) (m : Word) : (s.devEventSet m).bell = s.bell := rfl
@[simp] theorem State.devEventSet_ring (s : State) (m : Word) : (s.devEventSet m).ring = s.ring := rfl
@[simp] theorem State.devEventSet_pit (s : State) (m : Word) : (s.devEventSet m).pit = s.pit := rfl
@[simp] theorem State.devEventSet_host (s : State) (m : Word) : (s.devEventSet m).host = s.host := rfl
@[simp] theorem State.devEventSet_q (s : State) (m : Word) : (s.devEventSet m).q = s.q := rfl
@[simp] theorem State.devEventSet_fuse (s : State) (m : Word) : (s.devEventSet m).fuse = s.fuse := rfl
@[simp] theorem State.devEventSet_lane (s : State) (m : Word) : (s.devEventSet m).lane = s.lane := rfl
@[simp] theorem State.devEventSet_ana (s : State) (m : Word) : (s.devEventSet m).ana = s.ana := rfl
@[simp] theorem State.devEventSet_trk (s : State) (m : Word) : (s.devEventSet m).trk = s.trk := rfl
@[simp] theorem State.devEventSet_heat (s : State) (m : Word) : (s.devEventSet m).heat = s.heat := rfl
@[simp] theorem State.devEventSet_obs (s : State) (m : Word) : (s.devEventSet m).obs = s.obs := rfl

@[simp] theorem State.pwrEventSet_pending (s : State) (m : Word) : (s.pwrEventSet m).pending = s.pending := rfl
@[simp] theorem State.pwrEventSet_now (s : State) (m : Word) : (s.pwrEventSet m).now = s.now := rfl
@[simp] theorem State.pwrEventSet_dev (s : State) (m : Word) : (s.pwrEventSet m).dev = s.dev := rfl
@[simp] theorem State.pwrEventSet_clk (s : State) (m : Word) : (s.pwrEventSet m).clk = s.clk := rfl
@[simp] theorem State.pwrEventSet_bell (s : State) (m : Word) : (s.pwrEventSet m).bell = s.bell := rfl
@[simp] theorem State.pwrEventSet_ring (s : State) (m : Word) : (s.pwrEventSet m).ring = s.ring := rfl
@[simp] theorem State.pwrEventSet_pit (s : State) (m : Word) : (s.pwrEventSet m).pit = s.pit := rfl
@[simp] theorem State.pwrEventSet_host (s : State) (m : Word) : (s.pwrEventSet m).host = s.host := rfl
@[simp] theorem State.pwrEventSet_q (s : State) (m : Word) : (s.pwrEventSet m).q = s.q := rfl
@[simp] theorem State.pwrEventSet_fuse (s : State) (m : Word) : (s.pwrEventSet m).fuse = s.fuse := rfl
@[simp] theorem State.pwrEventSet_lane (s : State) (m : Word) : (s.pwrEventSet m).lane = s.lane := rfl
@[simp] theorem State.pwrEventSet_ana (s : State) (m : Word) : (s.pwrEventSet m).ana = s.ana := rfl
@[simp] theorem State.pwrEventSet_trk (s : State) (m : Word) : (s.pwrEventSet m).trk = s.trk := rfl
@[simp] theorem State.pwrEventSet_heat (s : State) (m : Word) : (s.pwrEventSet m).heat = s.heat := rfl
@[simp] theorem State.pwrEventSet_obs (s : State) (m : Word) : (s.pwrEventSet m).obs = s.obs := rfl

@[simp] theorem State.clkEventSet_pending (s : State) (m : Word) : (s.clkEventSet m).pending = s.pending := rfl
@[simp] theorem State.clkEventSet_now (s : State) (m : Word) : (s.clkEventSet m).now = s.now := rfl
@[simp] theorem State.clkEventSet_dev (s : State) (m : Word) : (s.clkEventSet m).dev = s.dev := rfl
@[simp] theorem State.clkEventSet_pwr (s : State) (m : Word) : (s.clkEventSet m).pwr = s.pwr := rfl
@[simp] theorem State.clkEventSet_bell (s : State) (m : Word) : (s.clkEventSet m).bell = s.bell := rfl
@[simp] theorem State.clkEventSet_ring (s : State) (m : Word) : (s.clkEventSet m).ring = s.ring := rfl
@[simp] theorem State.clkEventSet_pit (s : State) (m : Word) : (s.clkEventSet m).pit = s.pit := rfl
@[simp] theorem State.clkEventSet_host (s : State) (m : Word) : (s.clkEventSet m).host = s.host := rfl
@[simp] theorem State.clkEventSet_q (s : State) (m : Word) : (s.clkEventSet m).q = s.q := rfl
@[simp] theorem State.clkEventSet_fuse (s : State) (m : Word) : (s.clkEventSet m).fuse = s.fuse := rfl
@[simp] theorem State.clkEventSet_lane (s : State) (m : Word) : (s.clkEventSet m).lane = s.lane := rfl
@[simp] theorem State.clkEventSet_ana (s : State) (m : Word) : (s.clkEventSet m).ana = s.ana := rfl
@[simp] theorem State.clkEventSet_trk (s : State) (m : Word) : (s.clkEventSet m).trk = s.trk := rfl
@[simp] theorem State.clkEventSet_heat (s : State) (m : Word) : (s.clkEventSet m).heat = s.heat := rfl
@[simp] theorem State.clkEventSet_obs (s : State) (m : Word) : (s.clkEventSet m).obs = s.obs := rfl

@[simp] theorem State.bellEventSet_pending (s : State) (m : Word) : (s.bellEventSet m).pending = s.pending := rfl
@[simp] theorem State.bellEventSet_now (s : State) (m : Word) : (s.bellEventSet m).now = s.now := rfl
@[simp] theorem State.bellEventSet_dev (s : State) (m : Word) : (s.bellEventSet m).dev = s.dev := rfl
@[simp] theorem State.bellEventSet_pwr (s : State) (m : Word) : (s.bellEventSet m).pwr = s.pwr := rfl
@[simp] theorem State.bellEventSet_clk (s : State) (m : Word) : (s.bellEventSet m).clk = s.clk := rfl
@[simp] theorem State.bellEventSet_ring (s : State) (m : Word) : (s.bellEventSet m).ring = s.ring := rfl
@[simp] theorem State.bellEventSet_pit (s : State) (m : Word) : (s.bellEventSet m).pit = s.pit := rfl
@[simp] theorem State.bellEventSet_host (s : State) (m : Word) : (s.bellEventSet m).host = s.host := rfl
@[simp] theorem State.bellEventSet_q (s : State) (m : Word) : (s.bellEventSet m).q = s.q := rfl
@[simp] theorem State.bellEventSet_fuse (s : State) (m : Word) : (s.bellEventSet m).fuse = s.fuse := rfl
@[simp] theorem State.bellEventSet_lane (s : State) (m : Word) : (s.bellEventSet m).lane = s.lane := rfl
@[simp] theorem State.bellEventSet_ana (s : State) (m : Word) : (s.bellEventSet m).ana = s.ana := rfl
@[simp] theorem State.bellEventSet_trk (s : State) (m : Word) : (s.bellEventSet m).trk = s.trk := rfl
@[simp] theorem State.bellEventSet_heat (s : State) (m : Word) : (s.bellEventSet m).heat = s.heat := rfl
@[simp] theorem State.bellEventSet_obs (s : State) (m : Word) : (s.bellEventSet m).obs = s.obs := rfl

@[simp] theorem State.ringEventSet_pending (s : State) (m : Word) : (s.ringEventSet m).pending = s.pending := rfl
@[simp] theorem State.ringEventSet_now (s : State) (m : Word) : (s.ringEventSet m).now = s.now := rfl
@[simp] theorem State.ringEventSet_dev (s : State) (m : Word) : (s.ringEventSet m).dev = s.dev := rfl
@[simp] theorem State.ringEventSet_pwr (s : State) (m : Word) : (s.ringEventSet m).pwr = s.pwr := rfl
@[simp] theorem State.ringEventSet_clk (s : State) (m : Word) : (s.ringEventSet m).clk = s.clk := rfl
@[simp] theorem State.ringEventSet_bell (s : State) (m : Word) : (s.ringEventSet m).bell = s.bell := rfl
@[simp] theorem State.ringEventSet_pit (s : State) (m : Word) : (s.ringEventSet m).pit = s.pit := rfl
@[simp] theorem State.ringEventSet_host (s : State) (m : Word) : (s.ringEventSet m).host = s.host := rfl
@[simp] theorem State.ringEventSet_q (s : State) (m : Word) : (s.ringEventSet m).q = s.q := rfl
@[simp] theorem State.ringEventSet_fuse (s : State) (m : Word) : (s.ringEventSet m).fuse = s.fuse := rfl
@[simp] theorem State.ringEventSet_lane (s : State) (m : Word) : (s.ringEventSet m).lane = s.lane := rfl
@[simp] theorem State.ringEventSet_ana (s : State) (m : Word) : (s.ringEventSet m).ana = s.ana := rfl
@[simp] theorem State.ringEventSet_trk (s : State) (m : Word) : (s.ringEventSet m).trk = s.trk := rfl
@[simp] theorem State.ringEventSet_heat (s : State) (m : Word) : (s.ringEventSet m).heat = s.heat := rfl
@[simp] theorem State.ringEventSet_obs (s : State) (m : Word) : (s.ringEventSet m).obs = s.obs := rfl

@[simp] theorem State.noObject_pending (s : State) : (s.noObject).pending = s.pending := rfl
@[simp] theorem State.noObject_now (s : State) : (s.noObject).now = s.now := rfl
@[simp] theorem State.noObject_dev (s : State) : (s.noObject).dev = s.dev := rfl
@[simp] theorem State.noObject_pwr (s : State) : (s.noObject).pwr = s.pwr := rfl
@[simp] theorem State.noObject_clk (s : State) : (s.noObject).clk = s.clk := rfl
@[simp] theorem State.noObject_bell (s : State) : (s.noObject).bell = s.bell := rfl
@[simp] theorem State.noObject_ring (s : State) : (s.noObject).ring = s.ring := rfl
@[simp] theorem State.noObject_pit (s : State) : (s.noObject).pit = s.pit := rfl
@[simp] theorem State.noObject_q (s : State) : (s.noObject).q = s.q := rfl
@[simp] theorem State.noObject_fuse (s : State) : (s.noObject).fuse = s.fuse := rfl
@[simp] theorem State.noObject_lane (s : State) : (s.noObject).lane = s.lane := rfl
@[simp] theorem State.noObject_ana (s : State) : (s.noObject).ana = s.ana := rfl
@[simp] theorem State.noObject_trk (s : State) : (s.noObject).trk = s.trk := rfl
@[simp] theorem State.noObject_heat (s : State) : (s.noObject).heat = s.heat := rfl
@[simp] theorem State.noObject_obs (s : State) : (s.noObject).obs = s.obs := rfl
@[simp] theorem State.noObject_start (s : State) : (s.noObject).start = s.start := rfl

/-! ### What traces, events and ledger entries leave -/

@[simp] theorem State.trace_pending (s : State) (c : Nat) (p : Pitch) (l : List Word) : (s.trace c p l).pending = s.pending := by
  unfold State.trace; split <;> [skip; rfl]; dsimp only; split <;> rfl
@[simp] theorem State.trace_now (s : State) (c : Nat) (p : Pitch) (l : List Word) : (s.trace c p l).now = s.now := by
  unfold State.trace; split <;> [skip; rfl]; dsimp only; split <;> rfl
@[simp] theorem State.trace_dev (s : State) (c : Nat) (p : Pitch) (l : List Word) : (s.trace c p l).dev = s.dev := by
  unfold State.trace; split <;> [skip; rfl]; dsimp only; split <;> rfl
@[simp] theorem State.trace_pwr (s : State) (c : Nat) (p : Pitch) (l : List Word) : (s.trace c p l).pwr = s.pwr := by
  unfold State.trace; split <;> [skip; rfl]; dsimp only; split <;> rfl
@[simp] theorem State.trace_clk (s : State) (c : Nat) (p : Pitch) (l : List Word) : (s.trace c p l).clk = s.clk := by
  unfold State.trace; split <;> [skip; rfl]; dsimp only; split <;> rfl
@[simp] theorem State.trace_bell (s : State) (c : Nat) (p : Pitch) (l : List Word) : (s.trace c p l).bell = s.bell := by
  unfold State.trace; split <;> [skip; rfl]; dsimp only; split <;> rfl
@[simp] theorem State.trace_ring (s : State) (c : Nat) (p : Pitch) (l : List Word) : (s.trace c p l).ring = s.ring := by
  unfold State.trace; split <;> [skip; rfl]; dsimp only; split <;> rfl
@[simp] theorem State.trace_pit (s : State) (c : Nat) (p : Pitch) (l : List Word) : (s.trace c p l).pit = s.pit := by
  unfold State.trace; split <;> [skip; rfl]; dsimp only; split <;> rfl
@[simp] theorem State.trace_host (s : State) (c : Nat) (p : Pitch) (l : List Word) : (s.trace c p l).host = s.host := by
  unfold State.trace; split <;> [skip; rfl]; dsimp only; split <;> rfl
@[simp] theorem State.trace_q (s : State) (c : Nat) (p : Pitch) (l : List Word) : (s.trace c p l).q = s.q := by
  unfold State.trace; split <;> [skip; rfl]; dsimp only; split <;> rfl
@[simp] theorem State.trace_fuse (s : State) (c : Nat) (p : Pitch) (l : List Word) : (s.trace c p l).fuse = s.fuse := by
  unfold State.trace; split <;> [skip; rfl]; dsimp only; split <;> rfl
@[simp] theorem State.trace_lane (s : State) (c : Nat) (p : Pitch) (l : List Word) : (s.trace c p l).lane = s.lane := by
  unfold State.trace; split <;> [skip; rfl]; dsimp only; split <;> rfl
@[simp] theorem State.trace_ana (s : State) (c : Nat) (p : Pitch) (l : List Word) : (s.trace c p l).ana = s.ana := by
  unfold State.trace; split <;> [skip; rfl]; dsimp only; split <;> rfl
@[simp] theorem State.trace_trk (s : State) (c : Nat) (p : Pitch) (l : List Word) : (s.trace c p l).trk = s.trk := by
  unfold State.trace; split <;> [skip; rfl]; dsimp only; split <;> rfl
@[simp] theorem State.trace_heat (s : State) (c : Nat) (p : Pitch) (l : List Word) : (s.trace c p l).heat = s.heat := by
  unfold State.trace; split <;> [skip; rfl]; dsimp only; split <;> rfl
@[simp] theorem State.trace_start (s : State) (c : Nat) (p : Pitch) (l : List Word) : (s.trace c p l).start = s.start := by
  unfold State.trace; split <;> [skip; rfl]; dsimp only; split <;> rfl

@[simp] theorem State.traceTo_pending (s : State) (c : Nat) (o : Option Pitch) (l : List Word) : (s.traceTo c o l).pending = s.pending := by
  cases o <;> simp [State.traceTo]
@[simp] theorem State.traceTo_now (s : State) (c : Nat) (o : Option Pitch) (l : List Word) : (s.traceTo c o l).now = s.now := by
  cases o <;> simp [State.traceTo]
@[simp] theorem State.traceTo_dev (s : State) (c : Nat) (o : Option Pitch) (l : List Word) : (s.traceTo c o l).dev = s.dev := by
  cases o <;> simp [State.traceTo]
@[simp] theorem State.traceTo_pwr (s : State) (c : Nat) (o : Option Pitch) (l : List Word) : (s.traceTo c o l).pwr = s.pwr := by
  cases o <;> simp [State.traceTo]
@[simp] theorem State.traceTo_clk (s : State) (c : Nat) (o : Option Pitch) (l : List Word) : (s.traceTo c o l).clk = s.clk := by
  cases o <;> simp [State.traceTo]
@[simp] theorem State.traceTo_bell (s : State) (c : Nat) (o : Option Pitch) (l : List Word) : (s.traceTo c o l).bell = s.bell := by
  cases o <;> simp [State.traceTo]
@[simp] theorem State.traceTo_ring (s : State) (c : Nat) (o : Option Pitch) (l : List Word) : (s.traceTo c o l).ring = s.ring := by
  cases o <;> simp [State.traceTo]
@[simp] theorem State.traceTo_pit (s : State) (c : Nat) (o : Option Pitch) (l : List Word) : (s.traceTo c o l).pit = s.pit := by
  cases o <;> simp [State.traceTo]
@[simp] theorem State.traceTo_host (s : State) (c : Nat) (o : Option Pitch) (l : List Word) : (s.traceTo c o l).host = s.host := by
  cases o <;> simp [State.traceTo]
@[simp] theorem State.traceTo_q (s : State) (c : Nat) (o : Option Pitch) (l : List Word) : (s.traceTo c o l).q = s.q := by
  cases o <;> simp [State.traceTo]
@[simp] theorem State.traceTo_fuse (s : State) (c : Nat) (o : Option Pitch) (l : List Word) : (s.traceTo c o l).fuse = s.fuse := by
  cases o <;> simp [State.traceTo]
@[simp] theorem State.traceTo_lane (s : State) (c : Nat) (o : Option Pitch) (l : List Word) : (s.traceTo c o l).lane = s.lane := by
  cases o <;> simp [State.traceTo]
@[simp] theorem State.traceTo_ana (s : State) (c : Nat) (o : Option Pitch) (l : List Word) : (s.traceTo c o l).ana = s.ana := by
  cases o <;> simp [State.traceTo]
@[simp] theorem State.traceTo_trk (s : State) (c : Nat) (o : Option Pitch) (l : List Word) : (s.traceTo c o l).trk = s.trk := by
  cases o <;> simp [State.traceTo]
@[simp] theorem State.traceTo_heat (s : State) (c : Nat) (o : Option Pitch) (l : List Word) : (s.traceTo c o l).heat = s.heat := by
  cases o <;> simp [State.traceTo]
@[simp] theorem State.traceTo_start (s : State) (c : Nat) (o : Option Pitch) (l : List Word) : (s.traceTo c o l).start = s.start := by
  cases o <;> simp [State.traceTo]

@[simp] theorem State.traceDev_pending (s : State) (c : Nat) (o : Option Pitch) (l : List Word) : (s.traceDev c o l).pending = s.pending := by
  unfold State.traceDev; dsimp only; split <;> [rfl; (cases o <;> rfl)]
@[simp] theorem State.traceDev_now (s : State) (c : Nat) (o : Option Pitch) (l : List Word) : (s.traceDev c o l).now = s.now := by
  unfold State.traceDev; dsimp only; split <;> [rfl; (cases o <;> rfl)]
@[simp] theorem State.traceDev_dev (s : State) (c : Nat) (o : Option Pitch) (l : List Word) : (s.traceDev c o l).dev = s.dev := by
  unfold State.traceDev; dsimp only; split <;> [rfl; (cases o <;> rfl)]
@[simp] theorem State.traceDev_pwr (s : State) (c : Nat) (o : Option Pitch) (l : List Word) : (s.traceDev c o l).pwr = s.pwr := by
  unfold State.traceDev; dsimp only; split <;> [rfl; (cases o <;> rfl)]
@[simp] theorem State.traceDev_clk (s : State) (c : Nat) (o : Option Pitch) (l : List Word) : (s.traceDev c o l).clk = s.clk := by
  unfold State.traceDev; dsimp only; split <;> [rfl; (cases o <;> rfl)]
@[simp] theorem State.traceDev_bell (s : State) (c : Nat) (o : Option Pitch) (l : List Word) : (s.traceDev c o l).bell = s.bell := by
  unfold State.traceDev; dsimp only; split <;> [rfl; (cases o <;> rfl)]
@[simp] theorem State.traceDev_ring (s : State) (c : Nat) (o : Option Pitch) (l : List Word) : (s.traceDev c o l).ring = s.ring := by
  unfold State.traceDev; dsimp only; split <;> [rfl; (cases o <;> rfl)]
@[simp] theorem State.traceDev_pit (s : State) (c : Nat) (o : Option Pitch) (l : List Word) : (s.traceDev c o l).pit = s.pit := by
  unfold State.traceDev; dsimp only; split <;> [rfl; (cases o <;> rfl)]
@[simp] theorem State.traceDev_host (s : State) (c : Nat) (o : Option Pitch) (l : List Word) : (s.traceDev c o l).host = s.host := by
  unfold State.traceDev; dsimp only; split <;> [rfl; (cases o <;> rfl)]
@[simp] theorem State.traceDev_q (s : State) (c : Nat) (o : Option Pitch) (l : List Word) : (s.traceDev c o l).q = s.q := by
  unfold State.traceDev; dsimp only; split <;> [rfl; (cases o <;> rfl)]
@[simp] theorem State.traceDev_fuse (s : State) (c : Nat) (o : Option Pitch) (l : List Word) : (s.traceDev c o l).fuse = s.fuse := by
  unfold State.traceDev; dsimp only; split <;> [rfl; (cases o <;> rfl)]
@[simp] theorem State.traceDev_lane (s : State) (c : Nat) (o : Option Pitch) (l : List Word) : (s.traceDev c o l).lane = s.lane := by
  unfold State.traceDev; dsimp only; split <;> [rfl; (cases o <;> rfl)]
@[simp] theorem State.traceDev_ana (s : State) (c : Nat) (o : Option Pitch) (l : List Word) : (s.traceDev c o l).ana = s.ana := by
  unfold State.traceDev; dsimp only; split <;> [rfl; (cases o <;> rfl)]
@[simp] theorem State.traceDev_trk (s : State) (c : Nat) (o : Option Pitch) (l : List Word) : (s.traceDev c o l).trk = s.trk := by
  unfold State.traceDev; dsimp only; split <;> [rfl; (cases o <;> rfl)]
@[simp] theorem State.traceDev_heat (s : State) (c : Nat) (o : Option Pitch) (l : List Word) : (s.traceDev c o l).heat = s.heat := by
  unfold State.traceDev; dsimp only; split <;> [rfl; (cases o <;> rfl)]
@[simp] theorem State.traceDev_start (s : State) (c : Nat) (o : Option Pitch) (l : List Word) : (s.traceDev c o l).start = s.start := by
  unfold State.traceDev; dsimp only; split <;> [rfl; (cases o <;> rfl)]

@[simp] theorem State.traceLane_pending (s : State) (n : LaneIx) (k d : Nat) (v : Word) : (s.traceLane n k d v).pending = s.pending := by simp [State.traceLane]
@[simp] theorem State.traceLane_now (s : State) (n : LaneIx) (k d : Nat) (v : Word) : (s.traceLane n k d v).now = s.now := by simp [State.traceLane]
@[simp] theorem State.traceLane_dev (s : State) (n : LaneIx) (k d : Nat) (v : Word) : (s.traceLane n k d v).dev = s.dev := by simp [State.traceLane]
@[simp] theorem State.traceLane_pwr (s : State) (n : LaneIx) (k d : Nat) (v : Word) : (s.traceLane n k d v).pwr = s.pwr := by simp [State.traceLane]
@[simp] theorem State.traceLane_clk (s : State) (n : LaneIx) (k d : Nat) (v : Word) : (s.traceLane n k d v).clk = s.clk := by simp [State.traceLane]
@[simp] theorem State.traceLane_bell (s : State) (n : LaneIx) (k d : Nat) (v : Word) : (s.traceLane n k d v).bell = s.bell := by simp [State.traceLane]
@[simp] theorem State.traceLane_ring (s : State) (n : LaneIx) (k d : Nat) (v : Word) : (s.traceLane n k d v).ring = s.ring := by simp [State.traceLane]
@[simp] theorem State.traceLane_pit (s : State) (n : LaneIx) (k d : Nat) (v : Word) : (s.traceLane n k d v).pit = s.pit := by simp [State.traceLane]
@[simp] theorem State.traceLane_host (s : State) (n : LaneIx) (k d : Nat) (v : Word) : (s.traceLane n k d v).host = s.host := by simp [State.traceLane]
@[simp] theorem State.traceLane_q (s : State) (n : LaneIx) (k d : Nat) (v : Word) : (s.traceLane n k d v).q = s.q := by simp [State.traceLane]
@[simp] theorem State.traceLane_fuse (s : State) (n : LaneIx) (k d : Nat) (v : Word) : (s.traceLane n k d v).fuse = s.fuse := by simp [State.traceLane]
@[simp] theorem State.traceLane_lane (s : State) (n : LaneIx) (k d : Nat) (v : Word) : (s.traceLane n k d v).lane = s.lane := by simp [State.traceLane]
@[simp] theorem State.traceLane_ana (s : State) (n : LaneIx) (k d : Nat) (v : Word) : (s.traceLane n k d v).ana = s.ana := by simp [State.traceLane]
@[simp] theorem State.traceLane_trk (s : State) (n : LaneIx) (k d : Nat) (v : Word) : (s.traceLane n k d v).trk = s.trk := by simp [State.traceLane]
@[simp] theorem State.traceLane_heat (s : State) (n : LaneIx) (k d : Nat) (v : Word) : (s.traceLane n k d v).heat = s.heat := by simp [State.traceLane]
@[simp] theorem State.traceLane_start (s : State) (n : LaneIx) (k d : Nat) (v : Word) : (s.traceLane n k d v).start = s.start := by simp [State.traceLane]

@[simp] theorem State.traceWheel_pending (s : State) (n : TrkIx) (k d : Nat) (v : Word) : (s.traceWheel n k d v).pending = s.pending := by simp [State.traceWheel]
@[simp] theorem State.traceWheel_now (s : State) (n : TrkIx) (k d : Nat) (v : Word) : (s.traceWheel n k d v).now = s.now := by simp [State.traceWheel]
@[simp] theorem State.traceWheel_dev (s : State) (n : TrkIx) (k d : Nat) (v : Word) : (s.traceWheel n k d v).dev = s.dev := by simp [State.traceWheel]
@[simp] theorem State.traceWheel_pwr (s : State) (n : TrkIx) (k d : Nat) (v : Word) : (s.traceWheel n k d v).pwr = s.pwr := by simp [State.traceWheel]
@[simp] theorem State.traceWheel_clk (s : State) (n : TrkIx) (k d : Nat) (v : Word) : (s.traceWheel n k d v).clk = s.clk := by simp [State.traceWheel]
@[simp] theorem State.traceWheel_bell (s : State) (n : TrkIx) (k d : Nat) (v : Word) : (s.traceWheel n k d v).bell = s.bell := by simp [State.traceWheel]
@[simp] theorem State.traceWheel_ring (s : State) (n : TrkIx) (k d : Nat) (v : Word) : (s.traceWheel n k d v).ring = s.ring := by simp [State.traceWheel]
@[simp] theorem State.traceWheel_pit (s : State) (n : TrkIx) (k d : Nat) (v : Word) : (s.traceWheel n k d v).pit = s.pit := by simp [State.traceWheel]
@[simp] theorem State.traceWheel_host (s : State) (n : TrkIx) (k d : Nat) (v : Word) : (s.traceWheel n k d v).host = s.host := by simp [State.traceWheel]
@[simp] theorem State.traceWheel_q (s : State) (n : TrkIx) (k d : Nat) (v : Word) : (s.traceWheel n k d v).q = s.q := by simp [State.traceWheel]
@[simp] theorem State.traceWheel_fuse (s : State) (n : TrkIx) (k d : Nat) (v : Word) : (s.traceWheel n k d v).fuse = s.fuse := by simp [State.traceWheel]
@[simp] theorem State.traceWheel_lane (s : State) (n : TrkIx) (k d : Nat) (v : Word) : (s.traceWheel n k d v).lane = s.lane := by simp [State.traceWheel]
@[simp] theorem State.traceWheel_ana (s : State) (n : TrkIx) (k d : Nat) (v : Word) : (s.traceWheel n k d v).ana = s.ana := by simp [State.traceWheel]
@[simp] theorem State.traceWheel_trk (s : State) (n : TrkIx) (k d : Nat) (v : Word) : (s.traceWheel n k d v).trk = s.trk := by simp [State.traceWheel]
@[simp] theorem State.traceWheel_heat (s : State) (n : TrkIx) (k d : Nat) (v : Word) : (s.traceWheel n k d v).heat = s.heat := by simp [State.traceWheel]
@[simp] theorem State.traceWheel_start (s : State) (n : TrkIx) (k d : Nat) (v : Word) : (s.traceWheel n k d v).start = s.start := by simp [State.traceWheel]

@[simp] theorem State.eventTo_pending (s : State) (o : Option Pitch) (c i k : Nat) (w4 w5 w6 w7 : Word) : (s.eventTo o c i k w4 w5 w6 w7).pending = s.pending := by
  cases o <;> rfl
@[simp] theorem State.eventTo_now (s : State) (o : Option Pitch) (c i k : Nat) (w4 w5 w6 w7 : Word) : (s.eventTo o c i k w4 w5 w6 w7).now = s.now := by
  cases o <;> rfl
@[simp] theorem State.eventTo_dev (s : State) (o : Option Pitch) (c i k : Nat) (w4 w5 w6 w7 : Word) : (s.eventTo o c i k w4 w5 w6 w7).dev = s.dev := by
  cases o <;> rfl
@[simp] theorem State.eventTo_pwr (s : State) (o : Option Pitch) (c i k : Nat) (w4 w5 w6 w7 : Word) : (s.eventTo o c i k w4 w5 w6 w7).pwr = s.pwr := by
  cases o <;> rfl
@[simp] theorem State.eventTo_clk (s : State) (o : Option Pitch) (c i k : Nat) (w4 w5 w6 w7 : Word) : (s.eventTo o c i k w4 w5 w6 w7).clk = s.clk := by
  cases o <;> rfl
@[simp] theorem State.eventTo_bell (s : State) (o : Option Pitch) (c i k : Nat) (w4 w5 w6 w7 : Word) : (s.eventTo o c i k w4 w5 w6 w7).bell = s.bell := by
  cases o <;> rfl
@[simp] theorem State.eventTo_ring (s : State) (o : Option Pitch) (c i k : Nat) (w4 w5 w6 w7 : Word) : (s.eventTo o c i k w4 w5 w6 w7).ring = s.ring := by
  cases o <;> rfl
@[simp] theorem State.eventTo_pit (s : State) (o : Option Pitch) (c i k : Nat) (w4 w5 w6 w7 : Word) : (s.eventTo o c i k w4 w5 w6 w7).pit = s.pit := by
  cases o <;> rfl
@[simp] theorem State.eventTo_host (s : State) (o : Option Pitch) (c i k : Nat) (w4 w5 w6 w7 : Word) : (s.eventTo o c i k w4 w5 w6 w7).host = s.host := by
  cases o <;> rfl
@[simp] theorem State.eventTo_fuse (s : State) (o : Option Pitch) (c i k : Nat) (w4 w5 w6 w7 : Word) : (s.eventTo o c i k w4 w5 w6 w7).fuse = s.fuse := by
  cases o <;> rfl
@[simp] theorem State.eventTo_lane (s : State) (o : Option Pitch) (c i k : Nat) (w4 w5 w6 w7 : Word) : (s.eventTo o c i k w4 w5 w6 w7).lane = s.lane := by
  cases o <;> rfl
@[simp] theorem State.eventTo_ana (s : State) (o : Option Pitch) (c i k : Nat) (w4 w5 w6 w7 : Word) : (s.eventTo o c i k w4 w5 w6 w7).ana = s.ana := by
  cases o <;> rfl
@[simp] theorem State.eventTo_trk (s : State) (o : Option Pitch) (c i k : Nat) (w4 w5 w6 w7 : Word) : (s.eventTo o c i k w4 w5 w6 w7).trk = s.trk := by
  cases o <;> rfl
@[simp] theorem State.eventTo_heat (s : State) (o : Option Pitch) (c i k : Nat) (w4 w5 w6 w7 : Word) : (s.eventTo o c i k w4 w5 w6 w7).heat = s.heat := by
  cases o <;> rfl
@[simp] theorem State.eventTo_obs (s : State) (o : Option Pitch) (c i k : Nat) (w4 w5 w6 w7 : Word) : (s.eventTo o c i k w4 w5 w6 w7).obs = s.obs := by
  cases o <;> rfl
@[simp] theorem State.eventTo_start (s : State) (o : Option Pitch) (c i k : Nat) (w4 w5 w6 w7 : Word) : (s.eventTo o c i k w4 w5 w6 w7).start = s.start := by
  cases o <;> rfl

@[simp] theorem State.laneEvent_pending (s : State) (n : LaneIx) (k : Nat) (w4 w5 w6 w7 : Word) : (s.laneEvent n k w4 w5 w6 w7).pending = s.pending := by simp [State.laneEvent]
@[simp] theorem State.laneEvent_now (s : State) (n : LaneIx) (k : Nat) (w4 w5 w6 w7 : Word) : (s.laneEvent n k w4 w5 w6 w7).now = s.now := by simp [State.laneEvent]
@[simp] theorem State.laneEvent_dev (s : State) (n : LaneIx) (k : Nat) (w4 w5 w6 w7 : Word) : (s.laneEvent n k w4 w5 w6 w7).dev = s.dev := by simp [State.laneEvent]
@[simp] theorem State.laneEvent_pwr (s : State) (n : LaneIx) (k : Nat) (w4 w5 w6 w7 : Word) : (s.laneEvent n k w4 w5 w6 w7).pwr = s.pwr := by simp [State.laneEvent]
@[simp] theorem State.laneEvent_clk (s : State) (n : LaneIx) (k : Nat) (w4 w5 w6 w7 : Word) : (s.laneEvent n k w4 w5 w6 w7).clk = s.clk := by simp [State.laneEvent]
@[simp] theorem State.laneEvent_bell (s : State) (n : LaneIx) (k : Nat) (w4 w5 w6 w7 : Word) : (s.laneEvent n k w4 w5 w6 w7).bell = s.bell := by simp [State.laneEvent]
@[simp] theorem State.laneEvent_ring (s : State) (n : LaneIx) (k : Nat) (w4 w5 w6 w7 : Word) : (s.laneEvent n k w4 w5 w6 w7).ring = s.ring := by simp [State.laneEvent]
@[simp] theorem State.laneEvent_pit (s : State) (n : LaneIx) (k : Nat) (w4 w5 w6 w7 : Word) : (s.laneEvent n k w4 w5 w6 w7).pit = s.pit := by simp [State.laneEvent]
@[simp] theorem State.laneEvent_host (s : State) (n : LaneIx) (k : Nat) (w4 w5 w6 w7 : Word) : (s.laneEvent n k w4 w5 w6 w7).host = s.host := by simp [State.laneEvent]
@[simp] theorem State.laneEvent_fuse (s : State) (n : LaneIx) (k : Nat) (w4 w5 w6 w7 : Word) : (s.laneEvent n k w4 w5 w6 w7).fuse = s.fuse := by simp [State.laneEvent]
@[simp] theorem State.laneEvent_lane (s : State) (n : LaneIx) (k : Nat) (w4 w5 w6 w7 : Word) : (s.laneEvent n k w4 w5 w6 w7).lane = s.lane := by simp [State.laneEvent]
@[simp] theorem State.laneEvent_ana (s : State) (n : LaneIx) (k : Nat) (w4 w5 w6 w7 : Word) : (s.laneEvent n k w4 w5 w6 w7).ana = s.ana := by simp [State.laneEvent]
@[simp] theorem State.laneEvent_trk (s : State) (n : LaneIx) (k : Nat) (w4 w5 w6 w7 : Word) : (s.laneEvent n k w4 w5 w6 w7).trk = s.trk := by simp [State.laneEvent]
@[simp] theorem State.laneEvent_heat (s : State) (n : LaneIx) (k : Nat) (w4 w5 w6 w7 : Word) : (s.laneEvent n k w4 w5 w6 w7).heat = s.heat := by simp [State.laneEvent]
@[simp] theorem State.laneEvent_obs (s : State) (n : LaneIx) (k : Nat) (w4 w5 w6 w7 : Word) : (s.laneEvent n k w4 w5 w6 w7).obs = s.obs := by simp [State.laneEvent]
@[simp] theorem State.laneEvent_start (s : State) (n : LaneIx) (k : Nat) (w4 w5 w6 w7 : Word) : (s.laneEvent n k w4 w5 w6 w7).start = s.start := by simp [State.laneEvent]

@[simp] theorem State.trkEvent_pending (s : State) (n : TrkIx) (k : Nat) (w4 w5 w6 w7 : Word) : (s.trkEvent n k w4 w5 w6 w7).pending = s.pending := by simp [State.trkEvent]
@[simp] theorem State.trkEvent_now (s : State) (n : TrkIx) (k : Nat) (w4 w5 w6 w7 : Word) : (s.trkEvent n k w4 w5 w6 w7).now = s.now := by simp [State.trkEvent]
@[simp] theorem State.trkEvent_dev (s : State) (n : TrkIx) (k : Nat) (w4 w5 w6 w7 : Word) : (s.trkEvent n k w4 w5 w6 w7).dev = s.dev := by simp [State.trkEvent]
@[simp] theorem State.trkEvent_pwr (s : State) (n : TrkIx) (k : Nat) (w4 w5 w6 w7 : Word) : (s.trkEvent n k w4 w5 w6 w7).pwr = s.pwr := by simp [State.trkEvent]
@[simp] theorem State.trkEvent_clk (s : State) (n : TrkIx) (k : Nat) (w4 w5 w6 w7 : Word) : (s.trkEvent n k w4 w5 w6 w7).clk = s.clk := by simp [State.trkEvent]
@[simp] theorem State.trkEvent_bell (s : State) (n : TrkIx) (k : Nat) (w4 w5 w6 w7 : Word) : (s.trkEvent n k w4 w5 w6 w7).bell = s.bell := by simp [State.trkEvent]
@[simp] theorem State.trkEvent_ring (s : State) (n : TrkIx) (k : Nat) (w4 w5 w6 w7 : Word) : (s.trkEvent n k w4 w5 w6 w7).ring = s.ring := by simp [State.trkEvent]
@[simp] theorem State.trkEvent_pit (s : State) (n : TrkIx) (k : Nat) (w4 w5 w6 w7 : Word) : (s.trkEvent n k w4 w5 w6 w7).pit = s.pit := by simp [State.trkEvent]
@[simp] theorem State.trkEvent_host (s : State) (n : TrkIx) (k : Nat) (w4 w5 w6 w7 : Word) : (s.trkEvent n k w4 w5 w6 w7).host = s.host := by simp [State.trkEvent]
@[simp] theorem State.trkEvent_fuse (s : State) (n : TrkIx) (k : Nat) (w4 w5 w6 w7 : Word) : (s.trkEvent n k w4 w5 w6 w7).fuse = s.fuse := by simp [State.trkEvent]
@[simp] theorem State.trkEvent_lane (s : State) (n : TrkIx) (k : Nat) (w4 w5 w6 w7 : Word) : (s.trkEvent n k w4 w5 w6 w7).lane = s.lane := by simp [State.trkEvent]
@[simp] theorem State.trkEvent_ana (s : State) (n : TrkIx) (k : Nat) (w4 w5 w6 w7 : Word) : (s.trkEvent n k w4 w5 w6 w7).ana = s.ana := by simp [State.trkEvent]
@[simp] theorem State.trkEvent_trk (s : State) (n : TrkIx) (k : Nat) (w4 w5 w6 w7 : Word) : (s.trkEvent n k w4 w5 w6 w7).trk = s.trk := by simp [State.trkEvent]
@[simp] theorem State.trkEvent_heat (s : State) (n : TrkIx) (k : Nat) (w4 w5 w6 w7 : Word) : (s.trkEvent n k w4 w5 w6 w7).heat = s.heat := by simp [State.trkEvent]
@[simp] theorem State.trkEvent_obs (s : State) (n : TrkIx) (k : Nat) (w4 w5 w6 w7 : Word) : (s.trkEvent n k w4 w5 w6 w7).obs = s.obs := by simp [State.trkEvent]
@[simp] theorem State.trkEvent_start (s : State) (n : TrkIx) (k : Nat) (w4 w5 w6 w7 : Word) : (s.trkEvent n k w4 w5 w6 w7).start = s.start := by simp [State.trkEvent]

@[simp] theorem State.ledgerWrite_pending (s : State) (a : Applied) (st : Byte) : (s.ledgerWrite a st).pending = s.pending := by simp [State.ledgerWrite]
@[simp] theorem State.ledgerWrite_now (s : State) (a : Applied) (st : Byte) : (s.ledgerWrite a st).now = s.now := by simp [State.ledgerWrite]
@[simp] theorem State.ledgerWrite_dev (s : State) (a : Applied) (st : Byte) : (s.ledgerWrite a st).dev = s.dev := by simp [State.ledgerWrite]
@[simp] theorem State.ledgerWrite_pwr (s : State) (a : Applied) (st : Byte) : (s.ledgerWrite a st).pwr = s.pwr := by simp [State.ledgerWrite]
@[simp] theorem State.ledgerWrite_clk (s : State) (a : Applied) (st : Byte) : (s.ledgerWrite a st).clk = s.clk := by simp [State.ledgerWrite]
@[simp] theorem State.ledgerWrite_bell (s : State) (a : Applied) (st : Byte) : (s.ledgerWrite a st).bell = s.bell := by simp [State.ledgerWrite]
@[simp] theorem State.ledgerWrite_ring (s : State) (a : Applied) (st : Byte) : (s.ledgerWrite a st).ring = s.ring := by simp [State.ledgerWrite]
@[simp] theorem State.ledgerWrite_pit (s : State) (a : Applied) (st : Byte) : (s.ledgerWrite a st).pit = s.pit := by simp [State.ledgerWrite]
@[simp] theorem State.ledgerWrite_host (s : State) (a : Applied) (st : Byte) : (s.ledgerWrite a st).host = s.host := by simp [State.ledgerWrite]
@[simp] theorem State.ledgerWrite_fuse (s : State) (a : Applied) (st : Byte) : (s.ledgerWrite a st).fuse = s.fuse := by simp [State.ledgerWrite]
@[simp] theorem State.ledgerWrite_lane (s : State) (a : Applied) (st : Byte) : (s.ledgerWrite a st).lane = s.lane := by simp [State.ledgerWrite]
@[simp] theorem State.ledgerWrite_ana (s : State) (a : Applied) (st : Byte) : (s.ledgerWrite a st).ana = s.ana := by simp [State.ledgerWrite]
@[simp] theorem State.ledgerWrite_trk (s : State) (a : Applied) (st : Byte) : (s.ledgerWrite a st).trk = s.trk := by simp [State.ledgerWrite]
@[simp] theorem State.ledgerWrite_heat (s : State) (a : Applied) (st : Byte) : (s.ledgerWrite a st).heat = s.heat := by simp [State.ledgerWrite]
@[simp] theorem State.ledgerWrite_start (s : State) (a : Applied) (st : Byte) : (s.ledgerWrite a st).start = s.start := by simp [State.ledgerWrite]

/-! ### What they add -/

@[simp] theorem State.tick_now (s : State) (t : Ticks) : (s.tick t).now = max s.now t := rfl
@[simp] theorem State.tick_start (s : State) (t : Ticks) : (s.tick t).start = s.start := rfl

@[simp] theorem State.devEventSet_dev (s : State) (m : Word) :
    (s.devEventSet m).dev = { s.dev with devEvent := s.dev.devEvent ||| m, fresh := s.dev.fresh.set s.now m } := rfl
@[simp] theorem State.devEventSet_start (s : State) (m : Word) : (s.devEventSet m).start = s.start := rfl

@[simp] theorem State.pwrEventSet_pwr (s : State) (m : Word) :
    (s.pwrEventSet m).pwr = { s.pwr with pwrEvent := s.pwr.pwrEvent ||| m, fresh := s.pwr.fresh.set s.now m } := rfl
@[simp] theorem State.pwrEventSet_start (s : State) (m : Word) : (s.pwrEventSet m).start = s.start := rfl

@[simp] theorem State.clkEventSet_clk (s : State) (m : Word) :
    (s.clkEventSet m).clk = { s.clk with clkEvent := s.clk.clkEvent ||| m, fresh := s.clk.fresh.set s.now m } := rfl
@[simp] theorem State.clkEventSet_start (s : State) (m : Word) : (s.clkEventSet m).start = s.start := rfl

@[simp] theorem State.bellEventSet_bell (s : State) (m : Word) :
    (s.bellEventSet m).bell = { s.bell with bellEvent := s.bell.bellEvent ||| m, fresh := s.bell.fresh.set s.now m } := rfl
@[simp] theorem State.bellEventSet_start (s : State) (m : Word) : (s.bellEventSet m).start = s.start := rfl

@[simp] theorem State.ringEventSet_ring (s : State) (m : Word) :
    (s.ringEventSet m).ring = { s.ring with ringEvent := s.ring.ringEvent ||| m, fresh := s.ring.fresh.set s.now m } := rfl
@[simp] theorem State.ringEventSet_start (s : State) (m : Word) : (s.ringEventSet m).start = s.start := rfl

@[simp] theorem State.finishIn_q (s : State) (k : Nat) (a : Applied) (st : Byte) (r0 r1 r2 r3 : Word) :
    (s.finishIn k a st r0 r1 r2 r3).q =
      { s.q with outcomes := s.q.outcomes ++ [⟨a, st, r0, r1, r2, r3, s.bell.bellNo + k⟩] } := rfl
@[simp] theorem State.finishIn_start (s : State) (k : Nat) (a : Applied) (st : Byte) (r0 r1 r2 r3 : Word) : (s.finishIn k a st r0 r1 r2 r3).start = s.start := rfl

@[simp] theorem State.finish_q (s : State) (a : Applied) (st : Byte) (r0 r1 r2 r3 : Word) :
    (s.finish a st r0 r1 r2 r3).q =
      { s.q with outcomes := s.q.outcomes ++ [⟨a, st, r0, r1, r2, r3, s.bell.bellNo + 1⟩] } := rfl
@[simp] theorem State.finish_start (s : State) (a : Applied) (st : Byte) (r0 r1 r2 r3 : Word) : (s.finish a st r0 r1 r2 r3).start = s.start := rfl

@[simp] theorem State.eventFor_q (s : State) (p : Pitch) (c i k : Nat) (w4 w5 w6 w7 : Word) :
    (s.eventFor p c i k w4 w5 w6 w7).q =
      { s.q with events := s.q.events ++ [⟨p, s.eventEntry c i k w4 w5 w6 w7⟩] } := rfl
@[simp] theorem State.eventFor_start (s : State) (p : Pitch) (c i k : Nat) (w4 w5 w6 w7 : Word) : (s.eventFor p c i k w4 w5 w6 w7).start = s.start := rfl

end Sys2Proof.Machine
end

