-- ==== Sys2Proof/Laws/Lane.lean ====
section
/-! SUPPORT. What the shared operations on one motor lane can do, said once: each changes that lane, its queue of reports and the
observation counters alone, and keeps the lane's half-bridges sound. -/

namespace Sys2Proof.Machine

-- One proof at a time: proofs elaborated side by side would wait for each other, each with its own stack.
set_option Elab.async false

/-! ### The relation -/

/-- From `s` to `t` only lane `n`, tallies and trace queues may have changed, outcomes and events may have joined those on their way,
and sound half-bridges stay sound. -/
structure LaneStep (n : LaneIx) (s t : State) : Prop where
  rest : t = { s with lane := t.lane, q := t.q, obs := t.obs }
  queue : t.q = { s.q with outcomes := t.q.outcomes, events := t.q.events }
  watch : t.obs = { s.obs with
    tally := t.obs.tally, queue := t.obs.queue, lostSince := t.obs.lostSince, lost := t.obs.lost }
  outcomes : s.q.outcomes <+: t.q.outcomes
  events : s.q.events <+: t.q.events
  others : ∀ m, n ≠ m → t.ln m = s.ln m
  sound : (s.ln n).sound → (t.ln n).sound

namespace LaneStep

variable {n : LaneIx} {s t u : State}

protected theorem refl (n : LaneIx) (s : State) : LaneStep n s s := ⟨rfl, rfl, rfl, List.prefix_rfl, List.prefix_rfl, fun _ _ => rfl, id⟩

theorem trans (h : LaneStep n s t) (k : LaneStep n t u) : LaneStep n s u where
  rest := k.rest.trans (by rw [h.rest])
  queue := k.queue.trans (by rw [h.queue])
  watch := k.watch.trans (by rw [h.watch])
  outcomes := h.outcomes.trans k.outcomes
  events := h.events.trans k.events
  others m hm := (k.others m hm).trans (h.others m hm)
  sound x := k.sound (h.sound x)

theorem pending (h : LaneStep n s t) : t.pending = s.pending := by rw [h.rest]
theorem now (h : LaneStep n s t) : t.now = s.now := by rw [h.rest]
theorem dev (h : LaneStep n s t) : t.dev = s.dev := by rw [h.rest]
theorem pwr (h : LaneStep n s t) : t.pwr = s.pwr := by rw [h.rest]
theorem clk (h : LaneStep n s t) : t.clk = s.clk := by rw [h.rest]
theorem bell (h : LaneStep n s t) : t.bell = s.bell := by rw [h.rest]
theorem ring (h : LaneStep n s t) : t.ring = s.ring := by rw [h.rest]
theorem pit (h : LaneStep n s t) : t.pit = s.pit := by rw [h.rest]
theorem host (h : LaneStep n s t) : t.host = s.host := by rw [h.rest]
theorem fuse (h : LaneStep n s t) : t.fuse = s.fuse := by rw [h.rest]
theorem ana (h : LaneStep n s t) : t.ana = s.ana := by rw [h.rest]
theorem trk (h : LaneStep n s t) : t.trk = s.trk := by rw [h.rest]
theorem heat (h : LaneStep n s t) : t.heat = s.heat := by rw [h.rest]

/-- A step of one lane keeps every half-bridge sound. -/
theorem bridges (h : LaneStep n s t) (hs : s.bridgesSound) : t.bridgesSound := by
  intro m
  by_cases e : n = m
  · subst e; exact h.sound (hs n)
  · rw [h.others m e]; exact hs m

end LaneStep

/-! ### Half-bridges -/

theorem HalfBridge.sound_reset : ({} : HalfBridge).Sound :=
  ⟨by simp [HalfBridge.shootThrough], fun side => by cases side <;> simp [HalfBridge.level], by simp, by simp⟩

theorem HalfBridge.sound_off (t : Ticks) (b : HalfBridge) : (b.off t).Sound :=
  ⟨by simp [HalfBridge.shootThrough, HalfBridge.off], fun side => by cases side <;> simp [HalfBridge.level, HalfBridge.off],
    by simp [HalfBridge.off], by simp [HalfBridge.off]⟩

/-- Soundness reads these fields of a half-bridge alone. -/
theorem HalfBridge.Sound.same {b c : HalfBridge} (h : b.Sound) (x : c.high = b.high) (y : c.low = b.low) (z : c.cmd = b.cmd)
    (l : c.late = b.late) (w : c.wait = b.wait) (u : c.young = b.young) : c.Sound := by
  obtain ⟨o, k, p, q⟩ := h
  constructor
  · simpa only [HalfBridge.shootThrough, x, y] using o
  · intro side; have := k side
    cases side <;> simpa only [HalfBridge.level, x, y, z, l] using this
  · intro side; have := p side
    cases side <;> simpa only [HalfBridge.level, x, y, z, l, w] using this
  · have e : ∀ side, c.level side = b.level side := fun side => by cases side <;> assumption
    simpa only [e, z, w, u] using q

/-- The side wanted last goes on where none waits; the other one goes off with it. -/
theorem HalfBridge.Sound.turnOn {b : HalfBridge} (u : Ticks) (side : Side) (hc : b.cmd = some side) (hw : b.wait = none) :
    (b.turnOn u side).Sound := by
  cases side <;> constructor
  all_goals first
    | simp [HalfBridge.shootThrough, HalfBridge.turnOn]; done
    | (simp [HalfBridge.turnOn, hw]; done)
    | (intro s'; cases s' <;> simp [HalfBridge.level, HalfBridge.turnOn, hc])

/-- A side that is on, or that STRETCH keeps on, goes off. -/
theorem HalfBridge.Sound.turnOff {b : HalfBridge} (h : b.Sound) (t : Ticks) (side : Side)
    (hs : b.level side = true ∨ b.late = some side) : (b.turnOff t side).Sound := by
  obtain ⟨one, wanted, waits, held⟩ := h
  have hi := wanted .high
  have lo := wanted .low
  have wi := waits .high
  have wo := waits .low
  refine ⟨?_, fun s' => ?_, fun s' => ?_, fun e => ?_⟩
  · cases side <;> simp [HalfBridge.shootThrough, HalfBridge.turnOff]
  · rcases hs with hs | hs <;> cases side <;> cases s' <;>
      simp only [HalfBridge.level, HalfBridge.turnOff, HalfBridge.shootThrough] at * <;> intros <;> simp_all
  · rcases hs with hs | hs <;> cases side <;> cases s' <;>
      simp only [HalfBridge.level, HalfBridge.turnOff, HalfBridge.shootThrough] at * <;> intros <;> simp_all
  · obtain ⟨x, s', y, z⟩ := held (by cases side <;> exact e)
    refine ⟨by cases side <;> exact x, s', by cases side <;> exact y, ?_⟩
    cases side <;> cases s' <;> simp_all [HalfBridge.level, HalfBridge.turnOff]

theorem HalfBridge.Sound.endLate {b : HalfBridge} (h : b.Sound) (t : Ticks) : (b.endLate t).Sound := by
  unfold HalfBridge.endLate
  split
  · rename_i side hl
    split
    · exact h.turnOff _ _ (.inr hl)
    · exact h
  · exact h

/-- What the filter does by itself keeps a half-bridge sound (R341). -/
theorem HalfBridge.Sound.settle {b : HalfBridge} (h : b.Sound) (r : EdgeRule) (t : Ticks) : (b.settle r t).Sound := by
  unfold HalfBridge.settle
  dsimp only
  have a := h.endLate t
  split
  · rename_i u side hu hc
    split
    · exact .turnOn _ _ hc (a.held (by simp [hu])).1
    · exact a
  · exact a

/-- A half-bridge of which no side is wanted: what is on is kept on by STRETCH, and DROP holds nothing back. -/
structure HalfBridge.Idle (b : HalfBridge) : Prop where
  one : ¬ b.shootThrough
  kept : ∀ side, b.level side = true → b.late = some side
  young : b.young = none

theorem HalfBridge.Idle.leave {b : HalfBridge} (t : Ticks) (side : Side) (o : ¬ b.shootThrough)
    (k : ∀ side, b.level side = true → b.late = some side) : (b.leave t side).Idle := by
  have hi := k .high
  have lo := k .low
  cases side <;> exact ⟨o, fun s' => by cases s' <;> first | exact hi | exact lo, rfl⟩

/-- The wanted side's end leaves on only what STRETCH keeps on. -/
theorem HalfBridge.Sound.endSide {b : HalfBridge} (h : b.Sound) (r : EdgeRule) (t : Ticks) (side : Side)
    (hc : b.cmd = some side) : (b.endSide r t side).1.Idle := by
  obtain ⟨one, wanted, waits, held⟩ := h
  have hi := wanted .high
  have lo := wanted .low
  have off : b.level side = false → ∀ s', b.level s' = true → b.late = some s' := fun e s' => by
    cases s' <;> cases side <;> simp_all [HalfBridge.level]
  unfold HalfBridge.endSide
  dsimp only
  split
  · rename_i u hu
    obtain ⟨_, s', x, y⟩ := held (by simp [hu])
    have i := off (by rw [hc] at x; cases x; exact y)
    split
    · refine .leave _ _ ?_ fun s' => ?_
      · cases side <;> simp [HalfBridge.shootThrough, HalfBridge.turnOff, HalfBridge.turnOn]
      · cases side <;> cases s' <;> simp [HalfBridge.level, HalfBridge.turnOff, HalfBridge.turnOn]
    · exact .leave _ _ one i
  · rename_i hu
    split
    · rename_i hl
      split
      · refine ⟨?_, fun s' => ?_, ?_⟩
        · cases side <;> exact one
        · cases side <;> cases s' <;> simp_all [HalfBridge.level, HalfBridge.leave, HalfBridge.shootThrough]
        · cases side <;> rfl
      · refine .leave _ _ ?_ fun s' => ?_
        · cases side <;> simp [HalfBridge.shootThrough, HalfBridge.turnOff]
        · cases side <;> cases s' <;> simp_all [HalfBridge.level, HalfBridge.turnOff, HalfBridge.shootThrough]
    · rename_i hl
      exact .leave _ _ one (off (by simpa using hl))

theorem HalfBridge.Sound.endWanted {b : HalfBridge} (h : b.Sound) (r : EdgeRule) (t : Ticks) : (b.endWanted r t).1.Idle := by
  unfold HalfBridge.endWanted
  split
  · rename_i side hc; exact h.endSide r t side hc
  · rename_i hc
    refine ⟨h.one, fun s' e => (h.wanted s' e).resolve_left (by simp [hc]), ?_⟩
    cases hy : b.young with
    | none => rfl
    | some u => obtain ⟨_, s', x, _⟩ := h.held (by simp [hy]); simp [hc] at x

/-- The side wanted last begins its pulse, where it is off but for STRETCH. -/
theorem HalfBridge.Sound.start {b : HalfBridge} (h : b.Sound) (r : EdgeRule) (t : Ticks) (p : Option Ticks) (side : Side)
    (hc : b.cmd = some side) (hl : b.level side = true → b.late = some side) : (b.start r t p side).Sound := by
  obtain ⟨one, wanted, waits, held⟩ := h
  have hi := wanted .high
  have lo := wanted .low
  have base : ({ b with wait := none } : HalfBridge).Sound :=
    ⟨one, fun s' => by cases s' <;> first | exact hi | exact lo, by simp, fun e => by
      obtain ⟨_, s', x, y⟩ := held e
      exact ⟨rfl, s', x, by cases s' <;> exact y⟩⟩
  unfold HalfBridge.start
  dsimp only
  split
  · exact base
  · split
    · rename_i e
      refine ⟨one, fun s' f => ?_, by simp, fun f => ?_⟩
      · left; cases s' <;> cases side <;> simp_all [HalfBridge.level, HalfBridge.shootThrough]
      · obtain ⟨_, s', x, y⟩ := held f
        exact ⟨rfl, s', x, by cases s' <;> exact y⟩
    · rename_i e
      split
      · exact .turnOn _ _ hc rfl
      · refine ⟨one, fun s' => by cases s' <;> first | exact hi | exact lo, by simp, fun _ => ⟨rfl, side, hc, ?_⟩⟩
        cases side <;> simp_all [HalfBridge.level]

/-- Driving a half-bridge to a wanted side keeps it sound (R340). -/
theorem HalfBridge.sound_drive (r : EdgeRule) (t extra : Ticks) (p : Option Ticks) (w : Option Side) (b : HalfBridge)
    (h : b.Sound) : (b.drive r t extra p w).1.Sound := by
  unfold HalfBridge.drive
  dsimp only
  have a := h.settle r t
  generalize b.settle r t = c at a ⊢
  split
  · exact a
  · have i := a.endWanted r t
    generalize c.endWanted r t = x at i ⊢
    have hi := i.kept .high
    have lo := i.kept .low
    have base : ∀ v, (∀ s', v = some s' → w = some s') → ({ x.1 with cmd := w, wait := v } : HalfBridge).Sound := fun v hv =>
      ⟨i.one, fun s' e => .inr (by cases s' <;> first | exact hi e | exact lo e),
        fun s' e => ⟨hv s' e, fun e => by cases s' <;> first | exact hi e | exact lo e⟩, by simp [i.young]⟩
    split
    · exact base none (by simp)
    · rename_i side _
      split
      · exact (base none (by simp)).start _ _ _ _ rfl fun e => by cases side <;> first | exact hi e | exact lo e
      · exact base (some side) fun s' e => e

/-! ### One lane changed -/

section

variable {n : LaneIx} {s r : State}

/-- A lane replaced by one whose half-bridges stay sound. -/
theorem LaneStep.setLn (h : LaneStep n s r) (l : Lane) (hl : (r.ln n).sound → l.sound) : LaneStep n s (r.setLn n l) :=
  h.trans ⟨rfl, rfl, rfl, List.prefix_rfl, List.prefix_rfl, fun m hm => r.ln_setLn_ne n m l hm, by rw [r.ln_setLn]; exact hl⟩

/-- A lane changed, its half-bridges untouched. -/
theorem LaneStep.modLn (h : LaneStep n s r) (f : Lane → Lane) (hf : ∀ l, (f l).car.bridges = l.car.bridges := by intro; rfl) :
    LaneStep n s (r.modLn n f) :=
  h.setLn _ fun k i => by simpa only [hf] using k i

theorem LaneStep.finish (h : LaneStep n s r) (a : Applied) (st : Byte) (r0 r1 r2 r3 : Word) :
    LaneStep n s (r.finish a st r0 r1 r2 r3) :=
  h.trans ⟨rfl, rfl, rfl, List.prefix_append .., List.prefix_rfl, fun _ _ => rfl, id⟩

theorem LaneStep.eventFor (h : LaneStep n s r) (p : Pitch) (c i k : Nat) (w4 w5 w6 w7 : Word) :
    LaneStep n s (r.eventFor p c i k w4 w5 w6 w7) :=
  h.trans ⟨rfl, rfl, rfl, List.prefix_rfl, List.prefix_append .., fun _ _ => rfl, id⟩

theorem LaneStep.laneEvent (h : LaneStep n s r) (m : LaneIx) (k : Nat) (w4 w5 w6 w7 : Word) :
    LaneStep n s (r.laneEvent m k w4 w5 w6 w7) := by
  unfold State.laneEvent State.eventTo
  split
  · exact h.eventFor ..
  · exact h

theorem LaneStep.count (h : LaneStep n s r) (c i : Nat) (w : Option Pitch) : LaneStep n s (r.count c i w) := by
  unfold State.count
  generalize Vector.ofFn _ = x
  exact h.trans ⟨rfl, rfl, rfl, List.prefix_rfl, List.prefix_rfl, fun _ _ => rfl, id⟩

theorem LaneStep.trace (h : LaneStep n s r) (c : Nat) (p : Pitch) (l : List Word) : LaneStep n s (r.trace c p l) := by
  unfold State.trace
  split
  · dsimp only
    split <;> exact h.trans ⟨rfl, rfl, rfl, List.prefix_rfl, List.prefix_rfl, fun _ _ => rfl, id⟩
  · exact h

theorem LaneStep.traceLane (h : LaneStep n s r) (m : LaneIx) (k d : Nat) (v : Word) : LaneStep n s (r.traceLane m k d v) := by
  unfold State.traceLane State.traceTo
  split
  · exact h.trace ..
  · exact h

/-! ### Gate levels -/

theorem LaneStep.countTrip (h : LaneStep n s r) (i : Nat) : LaneStep n s (r.countTrip n i) :=
  .traceLane (.count (h.modLn _) ..) ..

/-- The gates of a lane follow what it wants (R340 to R343). -/
theorem LaneStep.drive (h : LaneStep n s r) (t : Ticks) : LaneStep n s (r.drive n t) :=
  h.setLn _ fun k i => by
    simp only [Lane.setBridges, Fin.getElem_fin, Vector.getElem_ofFn]
    exact HalfBridge.sound_drive _ _ _ _ _ _ (k i)

/-- All six gates of a lane go off. -/
theorem LaneStep.gatesOff (h : LaneStep n s r) (t : Ticks) : LaneStep n s (r.gatesOff n t) :=
  h.setLn _ fun _ i => by
    simp only [Lane.setBridges, Fin.getElem_fin, vmap_get]
    exact HalfBridge.sound_off ..

/-- The gates of a lane follow what it wants, its pins included (R462). -/
theorem LaneStep.drivePins (h : LaneStep n s r) (t : Ticks) : LaneStep n s (r.drivePins n t) := by
  refine LaneStep.drive ?_ t
  unfold State.pinGuard
  dsimp only
  split
  · split
    · exact (h.countTrip _).setLn _ fun k i => by
        simp only [Fin.getElem_fin, Vector.getElem_ofFn]
        exact (k i).same rfl rfl rfl rfl rfl rfl
    · exact h
  · exact h

/-- One half-bridge of a lane replaced by a sound one. -/
theorem LaneStep.setBridge (h : LaneStep n s r) (k : PhaseIx) (b : HalfBridge) (m : Nat)
    (hb : (r.ln n).car.bridges[k].Sound → b.Sound) :
    LaneStep n s (r.setLn n ((r.ln n).setBridges (vset (r.ln n).car.bridges k b) m)) :=
  h.setLn _ fun hs j => by
    simp only [Lane.setBridges, Fin.getElem_fin, vset_get]
    split
    · exact hb (hs k)
    · exact hs j

/-! ### Reports -/

theorem LaneStep.laneState (h : LaneStep n s r) (st : LaneState) : LaneStep n s (r.laneState n st) := by
  unfold State.laneState
  split
  · exact h
  · exact (h.modLn _).traceLane ..

theorem LaneStep.endStart (h : LaneStep n s r) (o : Word) : LaneStep n s (r.endStart n o) := by
  unfold State.endStart
  dsimp only
  split
  · exact (h.modLn _).finish ..
  · exact h

/-- Steps of one lane in a row. -/
theorem LaneStep.foldl {α : Type} (h : LaneStep n s r) (f : State → α → State)
    (hf : ∀ r x, LaneStep n s r → LaneStep n s (f r x)) (l : List α) : LaneStep n s (l.foldl f r) := by
  induction l generalizing r with
  | nil => exact h
  | cons x l ih => exact ih (hf r x h)

/-! ### Stops, safe levels and the latch -/

theorem LaneStep.toStopped (h : LaneStep n s r) (t : Ticks) : LaneStep n s (r.toStopped n t) := by
  unfold State.toStopped
  dsimp only
  have a := (h.foldl (fun s w => s.finish w.what stOk (word w.mode.code) 0 0 (r.ln n).com.speedMeas) (fun r x k => k.finish ..)
    (r.ln n).ops.stops).laneState .stopped
  refine LaneStep.drive (.gatesOff (.modLn (.modLn ?_ _) _) t) t
  split
  · exact a.laneEvent ..
  · exact a

/-- Safe levels forced on a lane by a change of that lane. -/
theorem LaneStep.forceSafe (h : LaneStep n s r) (t : Ticks) (o : Word) (c : State → State)
    (hc : ∀ r, LaneStep n s r → LaneStep n s (c r)) : LaneStep n s (r.forceSafe n t o c) := by
  unfold State.forceSafe
  dsimp only
  have a := (hc _ (h.endStart o)).modLn (Lane.force (r.forced n) t)
  split
  · exact a.toStopped t
  · split
    · exact a.drive t
    · exact (a.gatesOff t).drive t

theorem LaneStep.releaseSafe (h : LaneStep n s r) (t : Ticks) (c : State → State)
    (hc : ∀ r, LaneStep n s r → LaneStep n s (c r)) : LaneStep n s (r.releaseSafe n t c) := by
  unfold State.releaseSafe
  dsimp only
  split
  · exact hc r h
  · exact ((hc r h).gatesOff t).drivePins t

/-- The events due beside a latch are noted at the task input (R372). -/
theorem LaneStep.latchTask (h : LaneStep n s r) (t : Ticks) : LaneStep n s (r.latchTask n t) := by
  unfold State.latchTask; exact h.modLn _

theorem LaneStep.setLatch (h : LaneStep n s r) (src : Byte) (t : Ticks) : LaneStep n s (r.setLatch n src t) := by
  unfold State.setLatch
  split
  · exact h
  · exact .traceLane (.laneEvent ((h.latchTask t).forceSafe t 2 _ fun r k => k.modLn _) ..) ..

theorem LaneStep.applyStop (h : LaneStep n s r) (t : Ticks) (m : StopMode) (ms : Nat) (heat : Bool) :
    LaneStep n s (r.applyStop n t m ms heat) := by
  cases m with
  | coast => exact h.toStopped t
  | brake => exact (((h.modLn (Lane.stopSet t .brake ms heat)).laneState .stopping).gatesOff t).drive t
  | ramp => exact ((h.modLn (Lane.stopSet t .ramp ms heat)).laneState .stopping).drive t

theorem LaneStep.beginStop (h : LaneStep n s r) (t : Ticks) (m : StopMode) (heat : Bool) (c : Option Applied) (o : Word)
    (line : Bool) : LaneStep n s (r.beginStop n t m heat c o line) := by
  unfold State.beginStop
  dsimp only
  split
  · exact h
  · split
    · split
      · exact h.finish ..
      · exact h
    · exact ((h.endStart o).modLn _).applyStop ..

/-- A retry wait of a PIN-mode lane ends (R474). -/
theorem LaneStep.endPinWait (h : LaneStep n s r) (t : Ticks) : LaneStep n s (r.endPinWait n t) := by
  unfold State.endPinWait
  split
  · exact (h.modLn _).drivePins t
  · exact h

/-! ### Battens, periods, commutation -/

theorem LaneStep.takeCarrier (h : LaneStep n s r) : LaneStep n s (r.takeCarrier n) := by
  unfold State.takeCarrier
  split
  · exact (h.modLn _).traceLane ..
  · exact h

theorem LaneStep.takeMask (h : LaneStep n s r) : LaneStep n s (r.takeMask n) := by
  unfold State.takeMask
  split
  · exact (h.modLn _).traceLane ..
  · exact h

theorem LaneStep.takeSense (h : LaneStep n s r) : LaneStep n s (r.takeSense n) := by
  unfold State.takeSense
  split
  · exact (h.modLn _).traceLane ..
  · exact h

theorem LaneStep.takeCommut (h : LaneStep n s r) : LaneStep n s (r.takeCommut n) := by
  unfold State.takeCommut
  split
  · exact (h.modLn _).traceLane ..
  · exact h

theorem LaneStep.takeGate (h : LaneStep n s r) (t : Ticks) : LaneStep n s (r.takeGate n t) := by
  unfold State.takeGate
  split
  · dsimp only
    split
    · exact .drivePins (.gatesOff (.traceLane (h.modLn _) ..) t) t
    · exact .traceLane (h.modLn _) ..
  · exact h

/-- A PIN-mode trip holds the high sides off (R462). -/
theorem LaneStep.pinTripHold (h : LaneStep n s r) (t : Ticks) : LaneStep n s (r.pinTripHold n t) := by
  refine LaneStep.drive (h.setLn _ fun k i => ?_) t
  simp only [Fin.getElem_fin, vmap_get]
  exact (k i).same rfl rfl rfl rfl rfl rfl

theorem LaneStep.pinNewTrip (h : LaneStep n s r) (t : Ticks) : LaneStep n s (r.pinNewTrip n t) := by
  unfold State.pinNewTrip
  split
  · split
    · exact (h.countTrip _).pinTripHold t
    · exact h
  · exact h

theorem LaneStep.takeAll (h : LaneStep n s r) (t : Ticks) : LaneStep n s (r.takeAll n t) :=
  ((h.takeCarrier.takeMask.takeSense.pinNewTrip t).takeCommut).takeGate t

theorem LaneStep.endOn (h : LaneStep n s r) (t : Ticks) (trip : Bool) : LaneStep n s (r.endOn n t trip) :=
  .drive (h.modLn _) t

theorem LaneStep.openCounters (h : LaneStep n s r) : LaneStep n s (r.openCounters n) := by
  unfold State.openCounters
  dsimp only
  have a := h.modLn Lane.openSet
  split
  · split
    · exact (a.count ..).laneEvent ..
    · exact a.laneEvent ..
  · split
    · exact a.count ..
    · exact a

theorem LaneStep.startPeriod (h : LaneStep n s r) (start act : Ticks) : LaneStep n s (r.startPeriod n start act) := by
  unfold State.startPeriod
  dsimp only
  have a := ((((h.takeCarrier.takeSense.takeGate act).modLn Lane.takeLimit).openCounters).modLn (Lane.periodSet start act
    ((((r.takeCarrier n).takeSense n).takeGate n act).modLn n Lane.takeLimit |>.openCounters n).clk.runThrough)).count
    0x07 n.val none
  split
  · split
    · exact (a.countTrip _).endOn ..
    · exact a.drive ..
  · exact a.drive ..

theorem LaneStep.judgeRow (h : LaneStep n s r) (row : Word) (m c : Bool) : LaneStep n s (r.judgeRow n row m c) := by
  unfold State.judgeRow
  dsimp only
  split
  · exact h.modLn _
  · exact (h.modLn _).laneEvent ..

theorem LaneStep.openRow (h : LaneStep n s r) : LaneStep n s (r.openRow n) := by
  unfold State.openRow
  dsimp only
  split
  · exact h.modLn _
  · exact (h.judgeRow ..).modLn _

theorem LaneStep.enterRow (h : LaneStep n s r) (row : Fin 6) (t act : Ticks) : LaneStep n s (r.enterRow n row t act) :=
  (h.openRow.takeMask.takeCommut.modLn (Lane.rowSet row t)).drive act

theorem LaneStep.commutate (h : LaneStep n s r) (t act : Ticks) : LaneStep n s (r.commutate n t act) :=
  ((h.enterRow _ t act).count ..).traceLane ..

theorem LaneStep.runEvent (h : LaneStep n s r) (t act : Ticks) : LaneStep n s (r.runEvent n t act) := by
  unfold State.runEvent
  exact (h.commutate t act).modLn _

theorem LaneStep.stall (h : LaneStep n s r) (t : Ticks) : LaneStep n s (r.stall n t) := by
  unfold State.stall
  dsimp only
  have a := ((h.gatesOff t).modLn (fun l => { l with com.stallCount := satInc l.com.stallCount })).count 0x04 n.val none
  split
  · exact a.setLatch ..
  · exact ((a.modLn (Lane.restartSet t)).laneEvent ..).laneState _

theorem LaneStep.toHandover (h : LaneStep n s r) : LaneStep n s (r.toHandover n) := by
  unfold State.toHandover
  dsimp only
  split
  · exact (h.modLn Lane.handoverSet).laneState _
  · exact h

theorem LaneStep.rampEvent (h : LaneStep n s r) (t act : Ticks) : LaneStep n s (r.rampEvent n t act) := by
  unfold State.rampEvent
  dsimp only
  split
  · exact h.toHandover.stall t
  · exact (h.toHandover.modLn Lane.rampSet).commutate t act

theorem LaneStep.begins (h : LaneStep n s r) (t : Ticks) (f : Bool) : LaneStep n s (r.begins n t f) := by
  unfold State.begins
  split
  · exact h.startPeriod t t
  · exact h.drive t

theorem LaneStep.enterAlign (h : LaneStep n s r) (t : Ticks) : LaneStep n s (r.enterAlign n t) := by
  unfold State.enterAlign
  dsimp only
  have a := ((h.modLn (Lane.alignSet t)).laneState .align).begins t (!(r.ln n).running)
  split
  · exact (a.laneState .ramp).rampEvent t t
  · exact a

theorem LaneStep.enterRunTurning (h : LaneStep n s r) (t : Ticks) (row : Fin 6) (last t60 : Ticks) :
    LaneStep n s (r.enterRunTurning n t row last t60) :=
  (((h.modLn (Lane.turningSet t row last t60)).laneState .run).begins t _).endStart 0

/-! ### The task input (R371 to R374) -/

theorem LaneStep.enterRun (h : LaneStep n s r) (t act : Ticks) : LaneStep n s (r.enterRun n t act) := by
  have a := (h.commutate t act).laneState .run
  unfold State.enterRun
  generalize (r.commutate n t act).laneState n .run = x at a ⊢
  exact (a.modLn _).endStart 0

/-- What an event does in its tick. -/
theorem LaneStep.taskAct (h : LaneStep n s r) (e : TaskEvent) (t act : Ticks) : LaneStep n s (r.taskAct n e t act) := by
  cases e with
  | trip i => exact h.countTrip _
  | commutation =>
    unfold State.taskAct
    dsimp only
    split
    · exact h.runEvent ..
    · exact h.enterRun ..
  | missed => exact h.runEvent ..
  | alignEnd => exact (h.laneState _).rampEvent ..
  | profileStep => exact h.rampEvent ..
  | boundary => exact (h.modLn _).startPeriod ..

/-- An event reaches the task input. -/
theorem LaneStep.onTask (h : LaneStep n s r) (t : Ticks) (e : TaskEvent) : LaneStep n s (r.onTask n t e) := by
  unfold State.onTask
  dsimp only
  split
  · exact h.modLn _
  · split
    · exact (h.modLn _).taskAct ..
    · exact h.modLn _

theorem LaneStep.tripBy (h : LaneStep n s r) (i : Fin 5) (t : Ticks) : LaneStep n s (r.tripBy n i t) := by
  unfold State.tripBy
  split
  · exact (h.endOn t true).onTask ..
  · exact h.onTask ..

/-- A step of one lane is one at any later instant. -/
theorem LaneStep.tick (h : LaneStep n s r) (t : Ticks) : LaneStep n (s.tick t) (r.tick t) where
  rest := by rw [State.tick, State.tick, h.now, h.rest]
  queue := h.queue
  watch := h.watch
  outcomes := h.outcomes
  events := h.events
  others := h.others
  sound := h.sound

theorem State.tick_tick (s : State) {a t : Ticks} (h : a ≤ t) : (s.tick a).tick t = s.tick t := by
  simp only [State.tick, Nat.max_assoc, Nat.max_eq_right h]

/-- The instant of both states set back: a step of one lane looks at it alone. -/
theorem LaneStep.setNow (h : LaneStep n s r) (a : Ticks) : LaneStep n { s with now := a } { r with now := a } where
  rest := by rw [h.rest]
  queue := h.queue
  watch := h.watch
  outcomes := h.outcomes
  events := h.events
  others := h.others
  sound := h.sound

/-- What happened in an earlier tick than `t` is a step of the lane once the instant is `t`. -/
theorem LaneStep.happened (n : LaneIx) {a t : Ticks} (ha : a ≤ t) (f : State → State) (hf : ∀ r, LaneStep n r (f r)) (s : State) :
    LaneStep n (s.tick t) ((s.happened a f).tick t) := by
  have k := (hf { s with now := a }).setNow (max s.now t)
  simpa only [State.happened, State.tick, Nat.max_assoc, Nat.max_eq_right ha] using k

/-- What an event that waited does. -/
theorem LaneStep.releaseOne (n : LaneIx) (w : TaskWait) {a t : Ticks} (ha : a ≤ t) (s : State) :
    LaneStep n (s.tick t) ((s.releaseOne n w a).tick t) :=
  .happened n ha _ (fun _ => ((LaneStep.refl ..).modLn _).taskAct ..) s

/-- The events that waited act, each in a tick up to `last`: once the instant is `u`, only the lane has changed. -/
theorem LaneStep.release (n : LaneIx) (t : Ticks) {last u : Ticks} (hl : last ≤ u) (k : Nat) (s : State) :
    LaneStep n (s.tick u) ((State.release n t last k s).tick u) := by
  induction k generalizing s with
  | zero => exact .refl ..
  | succ k ih =>
    unfold State.release
    split
    · exact .refl ..
    · dsimp only
      split
      · rename_i w _ hw
        exact (LaneStep.releaseOne n w (Nat.le_trans hw.2 hl) s).trans (ih _)
      · exact .refl ..

/-- Time comes to `t` for a lane: the instant is `t` or later, and only that lane has changed (R374). -/
theorem LaneStep.laneTick (n : LaneIx) (t : Ticks) (s : State) : LaneStep n (s.tick t) (s.laneTick n t) :=
  .release n t (Nat.le_refl t) ..

end

end Sys2Proof.Machine
end

