-- ==== Sys2Proof/Laws/Wheel.lean ====
section
/-! SUPPORT. What the shared operations on one wheel tracker can do, said once: each changes that tracker, bursts, its reports and the
observation counters alone. -/

namespace Sys2Proof.Machine

-- One proof at a time: proofs elaborated side by side would wait for each other, each with its own stack.
set_option Elab.async false

/-- From `s` to `t` only tracker `n`, bursts, tallies and trace queues may have changed, and events may have joined those on their
way. -/
structure TrkStep (n : TrkIx) (s t : State) : Prop where
  rest : t = { s with ana := t.ana, trk := t.trk, q := t.q, obs := t.obs }
  bursts : t.ana = { s.ana with burst := t.ana.burst, burstMissed := t.ana.burstMissed }
  queue : t.q = { s.q with events := t.q.events }
  watch : t.obs = { s.obs with
    tally := t.obs.tally, queue := t.obs.queue, lostSince := t.obs.lostSince, lost := t.obs.lost }
  events : s.q.events <+: t.q.events
  others : ∀ m, n ≠ m → t.tk m = s.tk m

namespace TrkStep

variable {n : TrkIx} {s t u : State}

protected theorem refl (n : TrkIx) (s : State) : TrkStep n s s := ⟨rfl, rfl, rfl, rfl, List.prefix_rfl, fun _ _ => rfl⟩

theorem trans (h : TrkStep n s t) (k : TrkStep n t u) : TrkStep n s u where
  rest := k.rest.trans (by rw [h.rest])
  bursts := k.bursts.trans (by rw [h.bursts])
  queue := k.queue.trans (by rw [h.queue])
  watch := k.watch.trans (by rw [h.watch])
  events := h.events.trans k.events
  others m hm := (k.others m hm).trans (h.others m hm)

end TrkStep

section

variable {n : TrkIx} {s r : State}

theorem TrkStep.modTk (h : TrkStep n s r) (f : Tracker → Tracker) : TrkStep n s (r.modTk n f) :=
  h.trans ⟨rfl, rfl, rfl, rfl, List.prefix_rfl, fun m hm => r.tk_modTk_ne n m f hm⟩

theorem TrkStep.count (h : TrkStep n s r) (c i : Nat) (w : Option Pitch) : TrkStep n s (r.count c i w) := by
  unfold State.count
  generalize Vector.ofFn _ = x
  exact h.trans ⟨rfl, rfl, rfl, rfl, List.prefix_rfl, fun _ _ => rfl⟩

theorem TrkStep.traceWheel (h : TrkStep n s r) (m : TrkIx) (k d : Nat) (v : Word) : TrkStep n s (r.traceWheel m k d v) := by
  unfold State.traceWheel State.traceTo State.trace
  repeat' split
  all_goals first
    | exact h
    | (dsimp only; split <;> exact h.trans ⟨rfl, rfl, rfl, rfl, List.prefix_rfl, fun _ _ => rfl⟩)

theorem TrkStep.trkEvent (h : TrkStep n s r) (m : TrkIx) (k : Nat) (w4 w5 w6 w7 : Word) :
    TrkStep n s (r.trkEvent m k w4 w5 w6 w7) := by
  unfold State.trkEvent State.eventTo
  split
  · exact h.trans ⟨rfl, rfl, rfl, rfl, List.prefix_append .., fun _ _ => rfl⟩
  · exact h

theorem TrkStep.foldl {α : Type} (f : State → α → State) (l : List α) (hf : ∀ r x, TrkStep n s r → TrkStep n s (f r x))
    (h : TrkStep n s r) : TrkStep n s (l.foldl f r) := by
  induction l generalizing r with
  | nil => exact h
  | cons x l ih => exact ih (hf r x h)

theorem TrkStep.windowEdge (h : TrkStep n s r) (w : WinIx) (opening : Bool) (t : Ticks) : TrkStep n s (State.windowEdge r n w opening t) := by
  unfold State.windowEdge
  repeat' first
    | with_reducible assumption
    | with_reducible apply TrkStep.trkEvent

theorem TrkStep.closeWindow (h : TrkStep n s r) (t : Ticks) (w : WinIx) (stay : Bool) :
    TrkStep n s (State.closeWindow r n t w stay) := by
  unfold State.closeWindow
  repeat' first
    | with_reducible assumption
    | with_reducible apply TrkStep.modTk
    | with_reducible apply TrkStep.traceWheel
    | with_reducible apply TrkStep.windowEdge
    | split
    | dsimp only

theorem TrkStep.closeWindows (h : TrkStep n s r) (t : Ticks) : TrkStep n s (State.closeWindows r n t) := by
  unfold State.closeWindows
  repeat' first
    | with_reducible assumption
    | with_reducible apply TrkStep.closeWindow
    | with_reducible refine TrkStep.foldl _ _ (fun _ _ _ => ?_) ?_

theorem TrkStep.startBurst (h : TrkStep n s r) (w : WinIx) (m : AinIx) (k : Nat) : TrkStep n s (r.startBurst n w m k) := by
  unfold State.startBurst
  split <;> exact h.trans ⟨rfl, rfl, rfl, rfl, List.prefix_rfl, fun _ _ => rfl⟩

theorem TrkStep.openWindow (h : TrkStep n s r) (t : Ticks) (w : WinIx) : TrkStep n s (State.openWindow r n t w) := by
  unfold State.openWindow
  repeat' first
    | with_reducible assumption
    | with_reducible apply TrkStep.modTk
    | with_reducible apply TrkStep.count
    | with_reducible apply TrkStep.traceWheel
    | with_reducible apply TrkStep.windowEdge
    | with_reducible apply TrkStep.startBurst
    | split
    | dsimp only

theorem TrkStep.evalWindow (h : TrkStep n s r) (t : Ticks) (a : Word) (prev : Bool) (w : WinIx) : TrkStep n s (State.evalWindow n t a prev r w) := by
  unfold State.evalWindow
  repeat' first
    | with_reducible assumption
    | with_reducible apply TrkStep.closeWindow
    | with_reducible apply TrkStep.openWindow
    | split
    | dsimp only

theorem TrkStep.angleUpdate (h : TrkStep n s r) (t : Ticks) (b : Word) : TrkStep n s (State.angleUpdate r n t b) := by
  unfold State.angleUpdate
  repeat' first
    | with_reducible assumption
    | with_reducible apply TrkStep.modTk
    | with_reducible apply TrkStep.evalWindow
    | with_reducible refine TrkStep.foldl _ _ (fun _ _ _ => ?_) ?_

theorem TrkStep.setSync (h : TrkStep n s r) (y : Sync) (t : Ticks) : TrkStep n s (State.setSync r n y t) := by
  unfold State.setSync
  repeat' first
    | with_reducible assumption
    | with_reducible apply TrkStep.modTk
    | with_reducible apply TrkStep.traceWheel
    | with_reducible apply TrkStep.closeWindows
    | split

theorem TrkStep.loseSync (h : TrkStep n s r) (reason : Word) (t : Ticks) : TrkStep n s (State.loseSync r n reason t) := by
  unfold State.loseSync
  repeat' first
    | with_reducible assumption
    | with_reducible apply TrkStep.modTk
    | with_reducible apply TrkStep.count
    | with_reducible apply TrkStep.trkEvent
    | with_reducible apply TrkStep.setSync
    | split
    | dsimp only

theorem TrkStep.countRev (h : TrkStep n s r) (x : Tracker) : TrkStep n s (r.countRev n x) := by
  unfold State.countRev
  split
  · exact h.count ..
  · exact h

theorem TrkStep.commitAngle (h : TrkStep n s r) (t : Ticks) : TrkStep n s (State.commitAngle r n t) := by
  unfold State.commitAngle
  repeat' first
    | with_reducible assumption
    | with_reducible apply TrkStep.modTk
    | with_reducible apply TrkStep.angleUpdate
    | split
    | dsimp only

theorem TrkStep.goodTooth (h : TrkStep n s r) (p : Nat) (t : Ticks) : TrkStep n s (State.goodTooth r n p t) := by
  unfold State.goodTooth
  repeat' first
    | with_reducible assumption
    | with_reducible apply TrkStep.modTk
    | with_reducible apply TrkStep.count
    | with_reducible apply TrkStep.traceWheel
    | with_reducible apply TrkStep.trkEvent
    | with_reducible apply TrkStep.setSync
    | with_reducible apply TrkStep.countRev
    | with_reducible apply TrkStep.commitAngle
    | split

theorem TrkStep.syntheticTooth (h : TrkStep n s r) (t : Ticks) : TrkStep n s (State.syntheticTooth r n t) := by
  unfold State.syntheticTooth
  repeat' first
    | with_reducible assumption
    | with_reducible apply TrkStep.modTk
    | with_reducible apply TrkStep.count
    | with_reducible apply TrkStep.traceWheel
    | with_reducible apply TrkStep.countRev
    | with_reducible apply TrkStep.commitAngle

theorem TrkStep.badTooth (h : TrkStep n s r) (t : Ticks) (closed : Bool) : TrkStep n s (State.badTooth r n t closed) := by
  unfold State.badTooth
  repeat' first
    | with_reducible assumption
    | with_reducible apply TrkStep.modTk
    | with_reducible apply TrkStep.loseSync
    | with_reducible apply TrkStep.syntheticTooth
    | split
    | dsimp only

theorem TrkStep.windowEnd (h : TrkStep n s r) (t : Ticks) : TrkStep n s (State.windowEnd r n t) := by
  unfold State.windowEnd
  repeat' first
    | with_reducible assumption
    | with_reducible apply TrkStep.syntheticTooth
    | with_reducible apply TrkStep.badTooth
    | split
    | dsimp only

theorem TrkStep.settleWindow (h : TrkStep n s r) (p : Nat) : TrkStep n s (State.settleWindow r n p) := by
  unfold State.settleWindow
  repeat' first
    | with_reducible assumption
    | with_reducible apply TrkStep.windowEnd
    | split
    | dsimp only

theorem TrkStep.freeTooth (h : TrkStep n s r) (p : Nat) (t : Ticks) (rev : Bool) : TrkStep n s (State.freeTooth r n p t rev) := by
  unfold State.freeTooth
  repeat' first
    | with_reducible assumption
    | with_reducible apply TrkStep.modTk
    | with_reducible apply TrkStep.count
    | with_reducible apply TrkStep.traceWheel
    | with_reducible apply TrkStep.setSync
    | split

theorem TrkStep.reversal (h : TrkStep n s r) (p : Nat) (t : Ticks) (rev : Bool) : TrkStep n s (State.reversal r n p t rev) := by
  unfold State.reversal
  repeat' first
    | with_reducible assumption
    | with_reducible apply TrkStep.modTk
    | with_reducible apply TrkStep.count
    | with_reducible apply TrkStep.traceWheel
    | with_reducible apply TrkStep.commitAngle

theorem TrkStep.toothPulse (h : TrkStep n s r) (p : Nat) (t : Ticks) (rev : Bool) : TrkStep n s (State.toothPulse r n p t rev) := by
  unfold State.toothPulse
  repeat' first
    | with_reducible assumption
    | with_reducible apply TrkStep.loseSync
    | with_reducible apply TrkStep.goodTooth
    | with_reducible apply TrkStep.badTooth
    | with_reducible apply TrkStep.freeTooth
    | with_reducible apply TrkStep.reversal
    | split
    | dsimp only

theorem TrkStep.pulse (h : TrkStep n s r) (p : Nat) (w : Nat) (t : Ticks) : TrkStep n s (State.pulse r n p w t) := by
  unfold State.pulse
  repeat' first
    | with_reducible assumption
    | with_reducible apply TrkStep.modTk
    | with_reducible apply TrkStep.badTooth
    | with_reducible apply TrkStep.settleWindow
    | with_reducible apply TrkStep.toothPulse
    | split
    | dsimp only

theorem TrkStep.wsOff (h : TrkStep n s r) : TrkStep n s (State.wsOff r n) := by
  unfold State.wsOff
  repeat' first
    | with_reducible assumption
    | with_reducible apply TrkStep.modTk

theorem TrkStep.disarm (h : TrkStep n s r) (mask : Word) : TrkStep n s (State.disarm r n mask) := by
  unfold State.disarm
  repeat' first
    | with_reducible assumption
    | with_reducible apply TrkStep.modTk
    | with_reducible apply TrkStep.closeWindow
    | with_reducible refine TrkStep.foldl _ _ (fun _ _ _ => ?_) ?_
    | split

end

end Sys2Proof.Machine
end

