-- ==== Sys2Proof/Laws/Frames.lean ====
section
/-! SUPPORT. The frames that statements name, from the relations of the lane and wheel operations. -/

namespace Sys2Proof.Machine

-- One proof at a time: proofs elaborated side by side would wait for each other, each with its own stack.
set_option Elab.async false

/-- Lane operations touch their lane alone, besides reports, tallies and trace. -/
theorem LaneStep.laneOnly {n : LaneIx} {s t : State} (h : LaneStep n s t) : State.laneOnly n s t :=
  ⟨h.rest, h.queue, h.watch, h.outcomes, h.events, h.others⟩

/-- Wheel operations touch their tracker and bursts alone, besides events, tallies and trace. -/
theorem TrkStep.trackerOnly {n : TrkIx} {s t : State} (h : TrkStep n s t) : State.trackerOnly n s t :=
  ⟨h.rest, h.bursts, h.queue, h.watch, h.events, h.others⟩

/-- An operation on every lane that is a lane step of that lane: what relates a lane before and after it, and what relates the states
before and after each of its steps. -/
theorem State.eachLane_spec (P : Lane → LaneIx → Lane → Prop) (F : State → State → Prop) (hF0 : ∀ s, F s s)
    (hFt : ∀ s t u, F s t → F t u → F s u) (f : State → LaneIx → State) (s : State)
    (h : ∀ r n, F s r → LaneStep n r (f r n) ∧ F r (f r n) ∧ P (r.ln n) n ((f r n).ln n)) :
    F s (s.eachLane f) ∧ ∀ n, P (s.ln n) n ((s.eachLane f).ln n) := by
  unfold State.eachLane laneIxs
  simp only [List.foldl]
  have h0 := h s 0 (hF0 s)
  generalize f s 0 = s0 at *
  have h1 := h s0 1 (h0.2.1)
  generalize f s0 1 = s1 at *
  have e1 := hFt _ _ _ h0.2.1 h1.2.1
  have h2 := h s1 2 e1
  generalize f s1 2 = s2 at *
  have e2 := hFt _ _ _ e1 h2.2.1
  have h3 := h s2 3 e2
  generalize f s2 3 = s3 at *
  have e3 := hFt _ _ _ e2 h3.2.1
  have h4 := h s3 4 e3
  generalize f s3 4 = s4 at *
  have e4 := hFt _ _ _ e3 h4.2.1
  have h5 := h s4 5 e4
  generalize f s4 5 = s5 at *
  refine ⟨hFt _ _ _ e4 h5.2.1, ?_⟩
  intro n
  have o0 := h0.1.others; have o1 := h1.1.others; have o2 := h2.1.others; have o3 := h3.1.others; have o4 := h4.1.others; have o5 := h5.1.others
  fin_cases n
  · show P (s.ln 0) 0 (s5.ln 0); rw [o5 0 (by decide), o4 0 (by decide), o3 0 (by decide), o2 0 (by decide), o1 0 (by decide)]; exact h0.2.2
  · show P (s.ln 1) 1 (s5.ln 1); rw [o5 1 (by decide), o4 1 (by decide), o3 1 (by decide), o2 1 (by decide), ← o0 1 (by decide)]; exact h1.2.2
  · show P (s.ln 2) 2 (s5.ln 2); rw [o5 2 (by decide), o4 2 (by decide), o3 2 (by decide), ← o0 2 (by decide), ← o1 2 (by decide)]; exact h2.2.2
  · show P (s.ln 3) 3 (s5.ln 3); rw [o5 3 (by decide), o4 3 (by decide), ← o0 3 (by decide), ← o1 3 (by decide), ← o2 3 (by decide)]; exact h3.2.2
  · show P (s.ln 4) 4 (s5.ln 4); rw [o5 4 (by decide), ← o0 4 (by decide), ← o1 4 (by decide), ← o2 4 (by decide), ← o3 4 (by decide)]; exact h4.2.2
  · show P (s.ln 5) 5 (s5.ln 5); rw [← o0 5 (by decide), ← o1 5 (by decide), ← o2 5 (by decide), ← o3 5 (by decide), ← o4 5 (by decide)]; exact h5.2.2

end Sys2Proof.Machine
end

