-- ==== Sys2Proof/Laws/Fuse.lean ====
section
/-! SUPPORT. The fuse store: a cell put into it keeps its canonical form, and reads back. -/

namespace Sys2Proof.Machine

-- One proof at a time: proofs elaborated side by side would wait for each other, each with its own stack.
set_option Elab.async false

theorem fuseCons_wf (k : Nat) (c : FuseCell) (m : FuseMem) (h : m.wf = true) (hk : ∀ x ∈ m.head?, k < x.1) :
    (fuseCons k c m).wf = true := by
  unfold fuseCons
  split
  · exact h
  · rename_i hc
    match m with
    | [] => simp [FuseMem.wf, hc]
    | (b, d) :: r => simpa [FuseMem.wf, hc] using ⟨hk (b, d) rfl, h⟩

theorem FuseMem.wf_tail {x : Nat × FuseCell} {m : FuseMem} (h : FuseMem.wf (x :: m) = true) : FuseMem.wf m = true := by
  match m with
  | [] => rfl
  | (b, d) :: r => simp [FuseMem.wf] at h; exact h.2

theorem FuseMem.wf_head {x : Nat × FuseCell} {m : FuseMem} (h : FuseMem.wf (x :: m) = true) : ∀ y ∈ m.head?, x.1 < y.1 := by
  match m with
  | [] => simp
  | (b, d) :: r => simp [FuseMem.wf] at h; simpa using h.1.1

theorem FuseMem.wf_cell {x : Nat × FuseCell} {m : FuseMem} (h : FuseMem.wf (x :: m) = true) : x.2 ≠ blankCell := by
  match m with
  | [] => simpa [FuseMem.wf] using h
  | (b, d) :: r => simp [FuseMem.wf] at h; exact h.1.2

/-- The head of a store after a cell is replaced lies at an address of the store or at that cell. -/
theorem fusePut_head (m : FuseMem) (k : Nat) (c : FuseCell) (a : Nat) (h : m.wf = true) (hm : ∀ y ∈ m.head?, a < y.1) (hk : a < k) :
    ∀ y ∈ (fusePut m k c).head?, a < y.1 := by
  match m with
  | [] =>
    unfold fusePut fuseCons
    split
    · simp
    · simpa using hk
  | (b, d) :: r =>
    have hb : a < b := hm (b, d) rfl
    unfold fusePut fuseCons
    split
    · rename_i e; subst e
      split
      · intro y hy
        exact lt_trans hb (FuseMem.wf_head h y hy)
      · simpa using hb
    · split
      · split
        · simpa using hb
        · simpa using hk
      · simpa using hb

/-- A cell replaced keeps the canonical form. -/
theorem fusePut_wf (m : FuseMem) (k : Nat) (c : FuseCell) (h : m.wf = true) : (fusePut m k c).wf = true := by
  match m with
  | [] => exact fuseCons_wf k c [] rfl (by simp)
  | (b, d) :: r =>
    unfold fusePut
    split
    · rename_i e; subst e
      exact fuseCons_wf _ _ _ (FuseMem.wf_tail h) (FuseMem.wf_head h)
    · split
      · rename_i e
        exact fuseCons_wf _ _ _ h (by simpa using e)
      · rename_i h1 h2
        have ih := fusePut_wf r k c (FuseMem.wf_tail h)
        have hd := fusePut_head r k c b (FuseMem.wf_tail h) (FuseMem.wf_head h) (by omega)
        generalize fusePut r k c = q at ih hd
        match q with
        | [] => simpa [FuseMem.wf] using FuseMem.wf_cell h
        | (e, f) :: t =>
          simp only [FuseMem.wf, Bool.and_eq_true, decide_eq_true_eq]
          exact ⟨⟨hd (e, f) rfl, FuseMem.wf_cell h⟩, ih⟩

/-- A cell reads what was put into it, and every other cell what it read before. -/
theorem fuseAt_fusePut (m : FuseMem) (k : Nat) (c : FuseCell) (j : Nat) (h : m.wf = true) :
    fuseAt (fusePut m k c) j = if j = k then c else fuseAt m j := by
  match m with
  | [] =>
    unfold fusePut fuseCons
    by_cases e : j = k
    · subst e; split <;> simp_all [fuseAt]
    · split <;> simp [fuseAt, Ne.symm e]
  | (b, d) :: r =>
    have ih := fuseAt_fusePut r k c j (FuseMem.wf_tail h)
    have hd := FuseMem.wf_head h
    unfold fusePut fuseCons
    by_cases e : b = k
    · subst e
      simp only [if_true]
      by_cases ej : j = b
      · subst ej
        split
        · rename_i hc; subst hc
          match r with
          | [] => simp [fuseAt]
          | (b', d') :: r' =>
            have := hd (b', d') rfl
            simp only at this
            simp [fuseAt, this, show b' ≠ j by omega]
        · simp [fuseAt]
      · split
        · match r with
          | [] => simp [fuseAt, Ne.symm ej]
          | (b', d') :: r' =>
            have := hd (b', d') rfl
            simp only at this
            by_cases h1 : j < b
            · simp [fuseAt, Ne.symm ej, h1, show b' ≠ j by omega, show j < b' by omega]
            · simp [fuseAt, Ne.symm ej, h1]
        · simp [fuseAt, Ne.symm ej]
    · simp only [if_neg e]
      split
      · rename_i hk
        by_cases ej : j = k
        · subst ej
          split
          · rename_i hc; subst hc; simp [fuseAt, e, hk]
          · simp [fuseAt]
        · split
          · simp
          · simp only [fuseAt, if_neg (Ne.symm ej)]
            split
            · rename_i h1; simp [show b ≠ j by omega, show j < b by omega]
            · rfl
      · rename_i hk
        simp only [fuseAt]
        by_cases h1 : b = j
        · simp [h1, show j ≠ k by omega]
        · by_cases h2 : j < b
          · simp [h1, h2, show j ≠ k by omega]
          · simp [h1, h2, ih]

end Sys2Proof.Machine
end

