-- ==== Sys2Proof/Laws/Keeps.lean ====
section
/-! SUPPORT. What no operation of the block breaks, said once for each: the commands that wait stay waiting, the epoch and the bell
stay as they are but for BELL_EVENT, half-bridges stay sound, fuse stores canonical, and queue group 0 stays with P0. -/

namespace Sys2Proof.Machine

-- One proof at a time: proofs elaborated side by side would wait for each other, each with its own stack.
set_option Elab.async false

/-- From `s` to `t` the queue of commands is the same, the bell too but for BELL_EVENT, and what `State.Safe` says is kept. -/
structure Keeps (s t : State) : Prop where
  pending : t.pending = s.pending
  bell : t.bell = { s.bell with bellEvent := t.bell.bellEvent, fresh := t.bell.fresh }
  bridges : s.bridgesSound → t.bridgesSound
  fuses : s.fusesCanonical → t.fusesCanonical
  group : s.groupZero → t.groupZero

protected theorem Keeps.refl (s : State) : Keeps s s := ⟨rfl, rfl, id, id, id⟩

theorem Keeps.trans {s t u : State} (h : Keeps s t) (k : Keeps t u) : Keeps s u :=
  ⟨k.pending.trans h.pending, k.bell.trans (by rw [h.bell]), k.bridges ∘ h.bridges, k.fuses ∘ h.fuses, k.group ∘ h.group⟩

/-- Nothing that matters is touched. -/
theorem Keeps.same {s r t : State} (h : Keeps s r) (p : r.pending = t.pending)
    (b : { r.bell with bellEvent := t.bell.bellEvent, fresh := t.bell.fresh } = t.bell) (l : r.lane = t.lane)
    (f : r.fuse.array = t.fuse.array ∧ r.fuse.image = t.fuse.image) (g : r.pit.own.group = t.pit.own.group)
    (m : r.pit.moves = t.pit.moves) : Keeps s t := by
  refine h.trans ⟨p.symm, b.symm, ?_, ?_, ?_⟩
  · intro x n; have := x n; rwa [State.ln, l] at this
  · rintro ⟨x, y⟩; exact ⟨f.1 ▸ x, f.2 ▸ y⟩
  · intro x; rwa [State.groupZero, g, m] at x

/-- A step of one lane. -/
theorem LaneStep.keeps {n : LaneIx} {s t : State} (h : LaneStep n s t) : Keeps s t :=
  ⟨h.pending, by rw [h.bell], h.bridges, by rw [State.fusesCanonical, State.fusesCanonical, h.fuse]; exact id,
    by rw [State.groupZero, State.groupZero, h.pit]; exact id⟩

/-- Operations in a row. -/
theorem Keeps.foldl {α : Type} {s r : State} (f : State → α → State) (l : List α) (hf : ∀ r x, Keeps s r → Keeps s (f r x))
    (h : Keeps s r) : Keeps s (l.foldl f r) := by
  induction l generalizing r with
  | nil => exact h
  | cons x l ih => exact ih (hf r x h)

/-- The first part of a pair. -/
theorem Keeps.pair {α : Type} {s a : State} {p : State × α} {b : α} (e : p = (a, b)) (h : Keeps s p.1) : Keeps s a := by
  rw [e] at h; exact h

section

variable {s r : State}

theorem Keeps.modLn (h : Keeps s r) (n : LaneIx) (f : Lane → Lane)
    (hf : ∀ l, (f l).car.bridges = l.car.bridges := by intro; rfl) : Keeps s (r.modLn n f) :=
  h.trans ((LaneStep.refl n r).modLn f hf).keeps

theorem Keeps.setTk (h : Keeps s r) (n : TrkIx) (x : Tracker) : Keeps s (State.setTk r n x) := by
  unfold State.setTk
  repeat' first
    | with_reducible assumption
    | split
    | (refine Keeps.same (by assumption) ?_ ?_ ?_ ?_ ?_ ?_ <;> first | rfl | exact ⟨rfl, rfl⟩)

theorem Keeps.modTk (h : Keeps s r) (n : TrkIx) (f : Tracker → Tracker) : Keeps s (State.modTk r n f) := by
  unfold State.modTk
  repeat' first
    | with_reducible assumption
    | with_reducible apply Keeps.setTk

theorem Keeps.modSn (h : Keeps s r) (i : SensorIx) (f : Sensor → Sensor) : Keeps s (State.modSn r i f) := by
  unfold State.modSn
  repeat' first
    | with_reducible assumption
    | split
    | (refine Keeps.same (by assumption) ?_ ?_ ?_ ?_ ?_ ?_ <;> first | rfl | exact ⟨rfl, rfl⟩)

theorem Keeps.tick (h : Keeps s r) (t : Ticks) : Keeps s (State.tick r t) := by
  unfold State.tick
  repeat' first
    | with_reducible assumption
    | split
    | (refine Keeps.same (by assumption) ?_ ?_ ?_ ?_ ?_ ?_ <;> first | rfl | exact ⟨rfl, rfl⟩)

theorem Keeps.trace (h : Keeps s r) (cls : Nat) (p : Pitch) (payload : List Word) : Keeps s (State.trace r cls p payload) := by
  unfold State.trace
  repeat' first
    | with_reducible assumption
    | split
    | (refine Keeps.same (by assumption) ?_ ?_ ?_ ?_ ?_ ?_ <;> first | rfl | exact ⟨rfl, rfl⟩)
    | dsimp only

theorem Keeps.traceTo (h : Keeps s r) (cls : Nat) (o : Option Pitch) (payload : List Word) : Keeps s (State.traceTo r cls o payload) := by
  unfold State.traceTo
  repeat' first
    | with_reducible assumption
    | with_reducible apply Keeps.trace
    | with_reducible refine Keeps.pair (by assumption) ?_
    | split

theorem Keeps.traceDev (h : Keeps s r) (cls : Nat) (p : Option Pitch) (payload : List Word) : Keeps s (State.traceDev r cls p payload) := by
  unfold State.traceDev
  repeat' first
    | with_reducible assumption
    | with_reducible refine Keeps.pair (by assumption) ?_
    | split
    | (refine Keeps.same (by assumption) ?_ ?_ ?_ ?_ ?_ ?_ <;> first | rfl | exact ⟨rfl, rfl⟩)
    | dsimp only

theorem Keeps.traceLane (h : Keeps s r) (n : LaneIx) (kind : Nat) (detail : Nat) (value : Word) : Keeps s (State.traceLane r n kind detail value) := by
  unfold State.traceLane
  repeat' first
    | with_reducible assumption
    | with_reducible apply Keeps.traceTo

theorem Keeps.traceWheel (h : Keeps s r) (n : TrkIx) (kind : Nat) (detail : Nat) (value : Word) : Keeps s (State.traceWheel r n kind detail value) := by
  unfold State.traceWheel
  repeat' first
    | with_reducible assumption
    | with_reducible apply Keeps.traceTo

theorem Keeps.count (h : Keeps s r) (c i : Nat) (w : Option Pitch) : Keeps s (r.count c i w) :=
  h.trans ((LaneStep.refl 0 r).count ..).keeps

theorem Keeps.eventFor (h : Keeps s r) (p : Pitch) (cls : Nat) (idx : Nat) (cause : Nat) (w4 : Word) (w5 : Word) (w6 : Word) (w7 : Word) : Keeps s (State.eventFor r p cls idx cause w4 w5 w6 w7) := by
  unfold State.eventFor
  repeat' first
    | with_reducible assumption
    | split
    | (refine Keeps.same (by assumption) ?_ ?_ ?_ ?_ ?_ ?_ <;> first | rfl | exact ⟨rfl, rfl⟩)

theorem Keeps.eventTo (h : Keeps s r) (o : Option Pitch) (cls : Nat) (idx : Nat) (cause : Nat) (w4 : Word) (w5 : Word) (w6 : Word) (w7 : Word) : Keeps s (State.eventTo r o cls idx cause w4 w5 w6 w7) := by
  unfold State.eventTo
  repeat' first
    | with_reducible assumption
    | with_reducible apply Keeps.eventFor
    | with_reducible refine Keeps.pair (by assumption) ?_
    | split

theorem Keeps.laneEvent (h : Keeps s r) (n : LaneIx) (cause : Nat) (w4 : Word) (w5 : Word) (w6 : Word) (w7 : Word) : Keeps s (State.laneEvent r n cause w4 w5 w6 w7) := by
  unfold State.laneEvent
  repeat' first
    | with_reducible assumption
    | with_reducible apply Keeps.eventTo

theorem Keeps.trkEvent (h : Keeps s r) (n : TrkIx) (cause : Nat) (w4 : Word) (w5 : Word) (w6 : Word) (w7 : Word) : Keeps s (State.trkEvent r n cause w4 w5 w6 w7) := by
  unfold State.trkEvent
  repeat' first
    | with_reducible assumption
    | with_reducible apply Keeps.eventTo

theorem Keeps.finishIn (h : Keeps s r) (k : Nat) (a : Applied) (status : Byte) (r0 : Word) (r1 : Word) (r2 : Word) (r3 : Word) : Keeps s (State.finishIn r k a status r0 r1 r2 r3) := by
  unfold State.finishIn
  repeat' first
    | with_reducible assumption
    | split
    | (refine Keeps.same (by assumption) ?_ ?_ ?_ ?_ ?_ ?_ <;> first | rfl | exact ⟨rfl, rfl⟩)

theorem Keeps.finish (h : Keeps s r) (a : Applied) (status : Byte) (r0 : Word) (r1 : Word) (r2 : Word) (r3 : Word) : Keeps s (State.finish r a status r0 r1 r2 r3) := by
  unfold State.finish
  repeat' first
    | with_reducible assumption
    | with_reducible apply Keeps.finishIn

theorem Keeps.ledgerWrite (h : Keeps s r) (a : Applied) (status : Byte) : Keeps s (State.ledgerWrite r a status) := by
  unfold State.ledgerWrite
  repeat' first
    | with_reducible assumption
    | with_reducible apply Keeps.trace
    | with_reducible apply Keeps.count
    | split
    | (refine Keeps.same (by assumption) ?_ ?_ ?_ ?_ ?_ ?_ <;> first | rfl | exact ⟨rfl, rfl⟩)

theorem Keeps.devEventSet (h : Keeps s r) (m : Word) : Keeps s (State.devEventSet r m) := by
  unfold State.devEventSet
  repeat' first
    | with_reducible assumption
    | split
    | (refine Keeps.same (by assumption) ?_ ?_ ?_ ?_ ?_ ?_ <;> first | rfl | exact ⟨rfl, rfl⟩)

theorem Keeps.pwrEventSet (h : Keeps s r) (m : Word) : Keeps s (State.pwrEventSet r m) := by
  unfold State.pwrEventSet
  repeat' first
    | with_reducible assumption
    | split
    | (refine Keeps.same (by assumption) ?_ ?_ ?_ ?_ ?_ ?_ <;> first | rfl | exact ⟨rfl, rfl⟩)

theorem Keeps.clkEventSet (h : Keeps s r) (m : Word) : Keeps s (State.clkEventSet r m) := by
  unfold State.clkEventSet
  repeat' first
    | with_reducible assumption
    | split
    | (refine Keeps.same (by assumption) ?_ ?_ ?_ ?_ ?_ ?_ <;> first | rfl | exact ⟨rfl, rfl⟩)

theorem Keeps.bellEventSet (h : Keeps s r) (m : Word) : Keeps s (State.bellEventSet r m) := by
  unfold State.bellEventSet
  repeat' first
    | with_reducible assumption
    | split
    | (refine Keeps.same (by assumption) ?_ ?_ ?_ ?_ ?_ ?_ <;> first | rfl | exact ⟨rfl, rfl⟩)

theorem Keeps.ringEventSet (h : Keeps s r) (m : Word) : Keeps s (State.ringEventSet r m) := by
  unfold State.ringEventSet
  repeat' first
    | with_reducible assumption
    | split
    | (refine Keeps.same (by assumption) ?_ ?_ ?_ ?_ ?_ ?_ <;> first | rfl | exact ⟨rfl, rfl⟩)

theorem Keeps.noObject (h : Keeps s r) : Keeps s (State.noObject r) := by
  unfold State.noObject
  repeat' first
    | with_reducible assumption
    | split
    | (refine Keeps.same (by assumption) ?_ ?_ ?_ ?_ ?_ ?_ <;> first | rfl | exact ⟨rfl, rfl⟩)

theorem Keeps.drive (h : Keeps s r) (n : LaneIx) (t : Ticks) : Keeps s (State.drive r n t) :=
  h.trans ((LaneStep.refl n r).drive _).keeps

theorem Keeps.gatesOff (h : Keeps s r) (n : LaneIx) (t : Ticks) : Keeps s (State.gatesOff r n t) :=
  h.trans ((LaneStep.refl n r).gatesOff _).keeps

theorem Keeps.laneState (h : Keeps s r) (n : LaneIx) (st : LaneState) : Keeps s (State.laneState r n st) :=
  h.trans ((LaneStep.refl n r).laneState _).keeps

theorem Keeps.endStart (h : Keeps s r) (n : LaneIx) (outcome : Word) : Keeps s (State.endStart r n outcome) :=
  h.trans ((LaneStep.refl n r).endStart _).keeps

theorem Keeps.toStopped (h : Keeps s r) (n : LaneIx) (t : Ticks) : Keeps s (State.toStopped r n t) :=
  h.trans ((LaneStep.refl n r).toStopped _).keeps

theorem Keeps.forceSafe (h : Keeps s r) (n : LaneIx) (t : Ticks) (outcome : Word) (change : State → State) (hc : ∀ q, LaneStep n r q → LaneStep n r (change q)) : Keeps s (State.forceSafe r n t outcome change) :=
  h.trans ((LaneStep.refl n r).forceSafe _ _ _ hc).keeps

theorem Keeps.releaseSafe (h : Keeps s r) (n : LaneIx) (t : Ticks) (change : State → State) (hc : ∀ q, LaneStep n r q → LaneStep n r (change q)) : Keeps s (State.releaseSafe r n t change) :=
  h.trans ((LaneStep.refl n r).releaseSafe _ _ hc).keeps

theorem Keeps.setLatch (h : Keeps s r) (n : LaneIx) (src : Byte) (t : Ticks) : Keeps s (State.setLatch r n src t) :=
  h.trans ((LaneStep.refl n r).setLatch _ _).keeps

theorem Keeps.applyStop (h : Keeps s r) (n : LaneIx) (t : Ticks) (m : StopMode) (ms : Nat) (heat : Bool) :
    Keeps s (State.applyStop r n t m ms heat) :=
  h.trans ((LaneStep.refl n r).applyStop _ _ _ _).keeps

theorem Keeps.beginStop (h : Keeps s r) (n : LaneIx) (t : Ticks) (m : StopMode) (heat : Bool) (cmd : Option Applied) (outcome : Word) (line : Bool) : Keeps s (State.beginStop r n t m heat cmd outcome line) :=
  h.trans ((LaneStep.refl n r).beginStop _ _ _ _ _ _).keeps

theorem Keeps.takeCarrier (h : Keeps s r) (n : LaneIx) : Keeps s (State.takeCarrier r n) :=
  h.trans ((LaneStep.refl n r).takeCarrier).keeps

theorem Keeps.takeMask (h : Keeps s r) (n : LaneIx) : Keeps s (State.takeMask r n) :=
  h.trans ((LaneStep.refl n r).takeMask).keeps

theorem Keeps.takeSense (h : Keeps s r) (n : LaneIx) : Keeps s (State.takeSense r n) :=
  h.trans ((LaneStep.refl n r).takeSense).keeps

theorem Keeps.takeCommut (h : Keeps s r) (n : LaneIx) : Keeps s (State.takeCommut r n) :=
  h.trans ((LaneStep.refl n r).takeCommut).keeps

theorem Keeps.takeGate (h : Keeps s r) (n : LaneIx) (t : Ticks) : Keeps s (State.takeGate r n t) :=
  h.trans ((LaneStep.refl n r).takeGate _).keeps

theorem Keeps.takeAll (h : Keeps s r) (n : LaneIx) (t : Ticks) : Keeps s (State.takeAll r n t) :=
  h.trans ((LaneStep.refl n r).takeAll _).keeps

theorem Keeps.countTrip (h : Keeps s r) (n : LaneIx) (i : Nat) : Keeps s (State.countTrip r n i) :=
  h.trans ((LaneStep.refl n r).countTrip _).keeps

theorem Keeps.endOn (h : Keeps s r) (n : LaneIx) (t : Ticks) (trip : Bool) : Keeps s (State.endOn r n t trip) :=
  h.trans ((LaneStep.refl n r).endOn _ _).keeps

theorem Keeps.openCounters (h : Keeps s r) (n : LaneIx) : Keeps s (State.openCounters r n) :=
  h.trans ((LaneStep.refl n r).openCounters).keeps

theorem Keeps.startPeriod (h : Keeps s r) (n : LaneIx) (t : Ticks) (act : Ticks) : Keeps s (State.startPeriod r n t act) :=
  h.trans ((LaneStep.refl n r).startPeriod _ _).keeps

theorem Keeps.openRow (h : Keeps s r) (n : LaneIx) : Keeps s (State.openRow r n) :=
  h.trans ((LaneStep.refl n r).openRow).keeps

theorem Keeps.enterRow (h : Keeps s r) (n : LaneIx) (row : Fin 6) (t : Ticks) (act : Ticks) : Keeps s (State.enterRow r n row t act) :=
  h.trans ((LaneStep.refl n r).enterRow _ _ _).keeps

theorem Keeps.commutate (h : Keeps s r) (n : LaneIx) (t : Ticks) (act : Ticks) : Keeps s (State.commutate r n t act) :=
  h.trans ((LaneStep.refl n r).commutate _ _).keeps

theorem Keeps.runEvent (h : Keeps s r) (n : LaneIx) (t : Ticks) (act : Ticks) : Keeps s (State.runEvent r n t act) :=
  h.trans ((LaneStep.refl n r).runEvent _ _).keeps

theorem Keeps.stall (h : Keeps s r) (n : LaneIx) (t : Ticks) : Keeps s (State.stall r n t) :=
  h.trans ((LaneStep.refl n r).stall _).keeps

theorem Keeps.toHandover (h : Keeps s r) (n : LaneIx) : Keeps s (State.toHandover r n) :=
  h.trans ((LaneStep.refl n r).toHandover).keeps

theorem Keeps.rampEvent (h : Keeps s r) (n : LaneIx) (t : Ticks) (act : Ticks) : Keeps s (State.rampEvent r n t act) :=
  h.trans ((LaneStep.refl n r).rampEvent _ _).keeps

theorem Keeps.begins (h : Keeps s r) (n : LaneIx) (t : Ticks) (fresh : Bool) : Keeps s (State.begins r n t fresh) :=
  h.trans ((LaneStep.refl n r).begins _ _).keeps

theorem Keeps.enterAlign (h : Keeps s r) (n : LaneIx) (t : Ticks) : Keeps s (State.enterAlign r n t) :=
  h.trans ((LaneStep.refl n r).enterAlign _).keeps

theorem Keeps.enterRunTurning (h : Keeps s r) (n : LaneIx) (t : Ticks) (row : Fin 6) (last : Ticks) (t60 : Ticks) : Keeps s (State.enterRunTurning r n t row last t60) :=
  h.trans ((LaneStep.refl n r).enterRunTurning _ _ _ _).keeps

theorem Keeps.drivePins (h : Keeps s r) (n : LaneIx) (t : Ticks) : Keeps s (r.drivePins n t) :=
  h.trans ((LaneStep.refl n r).drivePins _).keeps

theorem Keeps.pinTripHold (h : Keeps s r) (n : LaneIx) (t : Ticks) : Keeps s (r.pinTripHold n t) :=
  h.trans ((LaneStep.refl n r).pinTripHold _).keeps

theorem Keeps.pinNewTrip (h : Keeps s r) (n : LaneIx) (t : Ticks) : Keeps s (r.pinNewTrip n t) :=
  h.trans ((LaneStep.refl n r).pinNewTrip _).keeps

theorem Keeps.endPinWait (h : Keeps s r) (n : LaneIx) (t : Ticks) : Keeps s (r.endPinWait n t) :=
  h.trans ((LaneStep.refl n r).endPinWait _).keeps

theorem Keeps.judgeRow (h : Keeps s r) (n : LaneIx) (row : Word) (m c : Bool) : Keeps s (r.judgeRow n row m c) :=
  h.trans ((LaneStep.refl n r).judgeRow _ _ _).keeps

theorem Keeps.onTask (h : Keeps s r) (n : LaneIx) (t : Ticks) (e : TaskEvent) : Keeps s (r.onTask n t e) :=
  h.trans ((LaneStep.refl n r).onTask _ _).keeps

theorem Keeps.tripBy (h : Keeps s r) (n : LaneIx) (i : Fin 5) (t : Ticks) : Keeps s (r.tripBy n i t) :=
  h.trans ((LaneStep.refl n r).tripBy _ _).keeps

theorem Keeps.laneTick (h : Keeps s r) (n : LaneIx) (t : Ticks) : Keeps s (r.laneTick n t) :=
  (h.tick t).trans (LaneStep.laneTick n t r).keeps

theorem Keeps.lanesTick (h : Keeps s r) (t : Ticks) : Keeps s (r.lanesTick t) := by
  unfold State.lanesTick State.eachLane
  exact .foldl _ _ (fun _ _ k => k.laneTick _ _) h

/-- The events of a lane that were due by `last` act. -/
theorem Keeps.release (h : Keeps s r) (n : LaneIx) (t last : Ticks) (k : Nat) : Keeps s (State.release n t last k r) := by
  have a := (LaneStep.release n t (Nat.le_refl last) k r).keeps
  exact h.trans ⟨a.pending, a.bell, a.bridges, a.fuses, a.group⟩

/-- The events that were due before `t` act. -/
theorem Keeps.lanesBefore (h : Keeps s r) (t : Ticks) : Keeps s (r.lanesBefore t) := by
  unfold State.lanesBefore State.eachLane
  refine .tick (.foldl _ _ (fun _ _ k => ?_) h) _
  split
  · exact k
  · exact k.release ..

theorem Keeps.windowEdge (h : Keeps s r) (n : TrkIx) (w : WinIx) (opening : Bool) (t : Ticks) : Keeps s (State.windowEdge r n w opening t) := by
  unfold State.windowEdge
  repeat' first
    | with_reducible assumption
    | with_reducible apply Keeps.trkEvent

theorem Keeps.closeWindow (h : Keeps s r) (n : TrkIx) (t : Ticks) (w : WinIx) (stay : Bool) :
    Keeps s (State.closeWindow r n t w stay) := by
  unfold State.closeWindow
  repeat' first
    | with_reducible assumption
    | with_reducible apply Keeps.modTk
    | with_reducible apply Keeps.traceWheel
    | with_reducible apply Keeps.windowEdge
    | split
    | dsimp only

theorem Keeps.closeWindows (h : Keeps s r) (n : TrkIx) (t : Ticks) : Keeps s (State.closeWindows r n t) := by
  unfold State.closeWindows
  repeat' first
    | with_reducible assumption
    | with_reducible apply Keeps.closeWindow
    | with_reducible refine Keeps.foldl _ _ (fun _ _ _ => ?_) ?_

theorem Keeps.startBurst (h : Keeps s r) (n : TrkIx) (w : WinIx) (m : AinIx) (burstN : Nat) : Keeps s (State.startBurst r n w m burstN) := by
  unfold State.startBurst
  repeat' first
    | with_reducible assumption
    | with_reducible refine Keeps.pair (by assumption) ?_
    | split
    | (refine Keeps.same (by assumption) ?_ ?_ ?_ ?_ ?_ ?_ <;> first | rfl | exact ⟨rfl, rfl⟩)

theorem Keeps.openWindow (h : Keeps s r) (n : TrkIx) (t : Ticks) (w : WinIx) : Keeps s (State.openWindow r n t w) := by
  unfold State.openWindow
  repeat' first
    | with_reducible assumption
    | with_reducible apply Keeps.modTk
    | with_reducible apply Keeps.traceWheel
    | with_reducible apply Keeps.count
    | with_reducible apply Keeps.windowEdge
    | with_reducible apply Keeps.startBurst
    | with_reducible refine Keeps.pair (by assumption) ?_
    | split
    | dsimp only

theorem Keeps.evalWindow (h : Keeps s r) (n : TrkIx) (t : Ticks) (a : Word) (prev : Bool) (w : WinIx) : Keeps s (State.evalWindow n t a prev r w) := by
  unfold State.evalWindow
  repeat' first
    | with_reducible assumption
    | with_reducible apply Keeps.closeWindow
    | with_reducible apply Keeps.openWindow
    | split
    | dsimp only

theorem Keeps.angleUpdate (h : Keeps s r) (n : TrkIx) (t : Ticks) (b : Word) : Keeps s (State.angleUpdate r n t b) := by
  unfold State.angleUpdate
  repeat' first
    | with_reducible assumption
    | with_reducible apply Keeps.modTk
    | with_reducible apply Keeps.evalWindow
    | with_reducible refine Keeps.foldl _ _ (fun _ _ _ => ?_) ?_

theorem Keeps.setSync (h : Keeps s r) (n : TrkIx) (y : Sync) (t : Ticks) : Keeps s (State.setSync r n y t) := by
  unfold State.setSync
  repeat' first
    | with_reducible assumption
    | with_reducible apply Keeps.modTk
    | with_reducible apply Keeps.traceWheel
    | with_reducible apply Keeps.closeWindows
    | split

theorem Keeps.loseSync (h : Keeps s r) (n : TrkIx) (reason : Word) (t : Ticks) : Keeps s (State.loseSync r n reason t) := by
  unfold State.loseSync
  repeat' first
    | with_reducible assumption
    | with_reducible apply Keeps.modTk
    | with_reducible apply Keeps.count
    | with_reducible apply Keeps.trkEvent
    | with_reducible apply Keeps.setSync
    | split
    | dsimp only

theorem Keeps.countRev (h : Keeps s r) (n : TrkIx) (before : Tracker) : Keeps s (r.countRev n before) := by
  unfold State.countRev
  split
  · exact h.count ..
  · exact h

theorem Keeps.commitAngle (h : Keeps s r) (n : TrkIx) (t : Ticks) : Keeps s (State.commitAngle r n t) := by
  unfold State.commitAngle
  repeat' first
    | with_reducible assumption
    | with_reducible apply Keeps.modTk
    | with_reducible apply Keeps.angleUpdate
    | split
    | dsimp only

theorem Keeps.goodTooth (h : Keeps s r) (n : TrkIx) (p : Nat) (t : Ticks) : Keeps s (State.goodTooth r n p t) := by
  unfold State.goodTooth
  repeat' first
    | with_reducible assumption
    | with_reducible apply Keeps.modTk
    | with_reducible apply Keeps.traceWheel
    | with_reducible apply Keeps.count
    | with_reducible apply Keeps.trkEvent
    | with_reducible apply Keeps.setSync
    | with_reducible apply Keeps.countRev
    | with_reducible apply Keeps.commitAngle
    | split

theorem Keeps.syntheticTooth (h : Keeps s r) (n : TrkIx) (t : Ticks) : Keeps s (State.syntheticTooth r n t) := by
  unfold State.syntheticTooth
  repeat' first
    | with_reducible assumption
    | with_reducible apply Keeps.modTk
    | with_reducible apply Keeps.traceWheel
    | with_reducible apply Keeps.count
    | with_reducible apply Keeps.countRev
    | with_reducible apply Keeps.commitAngle

theorem Keeps.badTooth (h : Keeps s r) (n : TrkIx) (t : Ticks) (closed : Bool) : Keeps s (State.badTooth r n t closed) := by
  unfold State.badTooth
  repeat' first
    | with_reducible assumption
    | with_reducible apply Keeps.modTk
    | with_reducible apply Keeps.loseSync
    | with_reducible apply Keeps.syntheticTooth
    | with_reducible refine Keeps.pair (by assumption) ?_
    | split
    | dsimp only

theorem Keeps.windowEnd (h : Keeps s r) (n : TrkIx) (t : Ticks) : Keeps s (State.windowEnd r n t) := by
  unfold State.windowEnd
  repeat' first
    | with_reducible assumption
    | with_reducible apply Keeps.syntheticTooth
    | with_reducible apply Keeps.badTooth
    | split
    | dsimp only

theorem Keeps.settleWindow (h : Keeps s r) (n : TrkIx) (p : Nat) : Keeps s (State.settleWindow r n p) := by
  unfold State.settleWindow
  repeat' first
    | with_reducible assumption
    | with_reducible apply Keeps.windowEnd
    | split
    | dsimp only

theorem Keeps.freeTooth (h : Keeps s r) (n : TrkIx) (p : Nat) (t : Ticks) (rev : Bool) : Keeps s (State.freeTooth r n p t rev) := by
  unfold State.freeTooth
  repeat' first
    | with_reducible assumption
    | with_reducible apply Keeps.modTk
    | with_reducible apply Keeps.traceWheel
    | with_reducible apply Keeps.count
    | with_reducible apply Keeps.setSync
    | split

theorem Keeps.reversal (h : Keeps s r) (n : TrkIx) (p : Nat) (t : Ticks) (rev : Bool) : Keeps s (State.reversal r n p t rev) := by
  unfold State.reversal
  repeat' first
    | with_reducible assumption
    | with_reducible apply Keeps.modTk
    | with_reducible apply Keeps.traceWheel
    | with_reducible apply Keeps.count
    | with_reducible apply Keeps.commitAngle

theorem Keeps.toothPulse (h : Keeps s r) (n : TrkIx) (p : Nat) (t : Ticks) (rev : Bool) : Keeps s (State.toothPulse r n p t rev) := by
  unfold State.toothPulse
  repeat' first
    | with_reducible assumption
    | with_reducible apply Keeps.loseSync
    | with_reducible apply Keeps.goodTooth
    | with_reducible apply Keeps.badTooth
    | with_reducible apply Keeps.freeTooth
    | with_reducible apply Keeps.reversal
    | with_reducible refine Keeps.pair (by assumption) ?_
    | split
    | dsimp only

theorem Keeps.pulse (h : Keeps s r) (n : TrkIx) (p : Nat) (w : Nat) (t : Ticks) : Keeps s (State.pulse r n p w t) := by
  unfold State.pulse
  repeat' first
    | with_reducible assumption
    | with_reducible apply Keeps.modTk
    | with_reducible apply Keeps.badTooth
    | with_reducible apply Keeps.settleWindow
    | with_reducible apply Keeps.toothPulse
    | with_reducible refine Keeps.pair (by assumption) ?_
    | split
    | dsimp only

/-- An event of a tracker acts (R534). -/
theorem Keeps.wheelAct (h : Keeps s r) (n : TrkIx) (e : WheelEvent) (t : Ticks) : Keeps s (State.wheelAct r n e t) := by
  have a := h.tick t
  unfold State.wheelAct
  generalize r.tick t = x at a ⊢
  cases e with
  | tooth =>
    dsimp only
    split
    · exact (a.modTk ..).pulse ..
    · exact a
  | close =>
    dsimp only
    split
    · exact a.windowEnd ..
    · exact a
  | micro =>
    dsimp only
    split
    · exact (a.modTk ..).angleUpdate ..
    · exact a

theorem Keeps.wheelMicro (h : Keeps s r) (n : TrkIx) (t : Ticks) : Keeps s (State.wheelMicro r n t) := by
  unfold State.wheelMicro
  split
  · exact h.modTk ..
  · exact h.wheelAct ..

/-- The events of a tracker that waited act. -/
theorem Keeps.wheelServe (h : Keeps s r) (n : TrkIx) : Keeps s (State.wheelServe r n) :=
  .foldl _ _ (fun _ _ k => k.wheelMicro ..) (.foldl _ _ (fun _ _ k => k.wheelAct ..) (h.modTk ..))

theorem Keeps.wsOff (h : Keeps s r) (n : TrkIx) : Keeps s (State.wsOff r n) := by
  unfold State.wsOff
  repeat' first
    | with_reducible assumption
    | with_reducible apply Keeps.modTk

theorem Keeps.setDenied (h : Keeps s r) (n : TrkIx) (b : Bool) : Keeps s (State.setDenied r n b) := by
  unfold State.setDenied
  repeat' first
    | with_reducible assumption
    | split
    | (refine Keeps.same (by assumption) ?_ ?_ ?_ ?_ ?_ ?_ <;> first | rfl | exact ⟨rfl, rfl⟩)

theorem Keeps.wsTry (h : Keeps s r) (n : TrkIx) (retry : Bool) : Keeps s (State.wsTry r n retry) := by
  unfold State.wsTry
  repeat' first
    | with_reducible assumption
    | with_reducible apply Keeps.modTk
    | with_reducible apply Keeps.wsOff
    | with_reducible apply Keeps.setDenied
    | with_reducible refine Keeps.pair (by assumption) ?_
    | split
    | dsimp only

theorem Keeps.wsTryAll (h : Keeps s r) : Keeps s (State.wsTryAll r) := by
  unfold State.wsTryAll State.eachTrk
  repeat' first
    | with_reducible assumption
    | with_reducible apply Keeps.wsTry
    | with_reducible refine Keeps.foldl _ _ (fun _ _ _ => ?_) ?_

theorem Keeps.stageTable (h : Keeps s r) (d : Desc) : Keeps s (State.stageTable r d).1 := by
  unfold State.stageTable
  repeat' first
    | with_reducible assumption
    | with_reducible apply Keeps.modTk
    | split
    | dsimp only

theorem Keeps.seatTable (h : Keeps s r) (d : Desc) : Keeps s (State.seatTable r d).1 := by
  unfold State.seatTable
  repeat' first
    | with_reducible assumption
    | with_reducible apply Keeps.modTk
    | with_reducible apply Keeps.loseSync
    | split
    | dsimp only

theorem Keeps.loadTable (h : Keeps s r) (p : Pitch) (d : Desc) : Keeps s (State.loadTable r p d).1 := by
  unfold State.loadTable
  repeat' first
    | with_reducible assumption
    | with_reducible apply Keeps.stageTable
    | with_reducible apply Keeps.seatTable
    | with_reducible refine Keeps.pair (by assumption) ?_
    | split

theorem Keeps.armWindow (h : Keeps s r) (p : Pitch) (d : Desc) : Keeps s (State.armWindow r p d).1 := by
  unfold State.armWindow
  repeat' first
    | with_reducible assumption
    | with_reducible apply Keeps.modTk
    | with_reducible apply Keeps.closeWindow
    | split
    | dsimp only

theorem Keeps.disarm (h : Keeps s r) (n : TrkIx) (mask : Word) : Keeps s (State.disarm r n mask) := by
  unfold State.disarm
  repeat' first
    | with_reducible assumption
    | with_reducible apply Keeps.modTk
    | with_reducible apply Keeps.closeWindow
    | with_reducible refine Keeps.foldl _ _ (fun _ _ _ => ?_) ?_
    | split

theorem Keeps.disarmWindows (h : Keeps s r) (p : Pitch) (d : Desc) : Keeps s (State.disarmWindows r p d).1 := by
  unfold State.disarmWindows
  repeat' first
    | with_reducible assumption
    | with_reducible apply Keeps.disarm
    | split
    | dsimp only

theorem Keeps.gateReport (h : Keeps s r) (n : LaneIx) (kind : BitVec 4) (hb : PhaseIx) (escalated : Bool) : Keeps s (State.gateReport r n kind hb escalated) := by
  unfold State.gateReport
  repeat' first
    | with_reducible assumption
    | with_reducible refine Keeps.modLn ?_ _ _ (fun _ => rfl)
    | with_reducible apply Keeps.count
    | with_reducible apply Keeps.laneEvent

theorem Keeps.startWait (h : Keeps s r) (n : LaneIx) (t : Ticks) : Keeps s (State.startWait r n t) := by
  unfold State.startWait
  repeat' first
    | with_reducible assumption
    | with_reducible refine Keeps.modLn ?_ _ _ (fun _ => rfl)
    | with_reducible apply Keeps.gatesOff
    | with_reducible apply Keeps.laneState
    | split

theorem Keeps.abortDiag (h : Keeps s r) (n : LaneIx) : Keeps s (State.abortDiag r n) := by
  unfold State.abortDiag
  repeat' first
    | with_reducible assumption
    | with_reducible refine Keeps.modLn ?_ _ _ (fun _ => rfl)
    | with_reducible apply Keeps.finish
    | with_reducible refine Keeps.pair (by assumption) ?_
    | split

theorem Keeps.abortDiags (h : Keeps s r) : Keeps s (State.abortDiags r) := by
  unfold State.abortDiags State.eachLane
  repeat' first
    | with_reducible assumption
    | with_reducible apply Keeps.abortDiag
    | with_reducible refine Keeps.foldl _ _ (fun _ _ _ => ?_) ?_

/-- The trip hold is no part of what makes a half-bridge sound. -/
theorem HalfBridge.Sound.hold {b : HalfBridge} (h : b.Sound) (x : Bool) : HalfBridge.Sound { b with tripHold := x } :=
  ⟨h.one, h.wanted, h.waits, h.held⟩

theorem Keeps.fuseQueue (h : Keeps s r) (a : Applied) (k : FuseKind) : Keeps s (State.fuseQueue r a k) := by
  unfold State.fuseQueue
  repeat' first
    | with_reducible assumption
    | split
    | (refine Keeps.same (by assumption) ?_ ?_ ?_ ?_ ?_ ?_ <;> first | rfl | exact ⟨rfl, rfl⟩)

theorem Keeps.setRun (h : Keeps s r) (r' : FuseRun) : Keeps s (State.setRun r r') := by
  unfold State.setRun
  repeat' first
    | with_reducible assumption
    | split
    | (refine Keeps.same (by assumption) ?_ ?_ ?_ ?_ ?_ ?_ <;> first | rfl | exact ⟨rfl, rfl⟩)

theorem Keeps.draw (h : Keeps s r) : Keeps s (State.draw r).1 := by
  unfold State.draw
  repeat' first
    | with_reducible assumption
    | with_reducible refine Keeps.pair (by assumption) ?_
    | split
    | (refine Keeps.same (by assumption) ?_ ?_ ?_ ?_ ?_ ?_ <;> first | rfl | exact ⟨rfl, rfl⟩)

theorem Keeps.rollStart (h : Keeps s r) (r' : FuseRun) (sp : BitVec 64) : Keeps s (State.rollStart r r' sp) := by
  unfold State.rollStart
  repeat' first
    | with_reducible assumption
    | with_reducible apply Keeps.setRun
    | with_reducible apply Keeps.draw
    | with_reducible refine Keeps.pair (by assumption) ?_
    | split
    | dsimp only

theorem Keeps.leavePartial (h : Keeps s r) : Keeps s r.leavePartial := by
  refine h.trans ?_
  unfold State.leavePartial
  repeat' split
  all_goals first
    | exact .refl r
    | exact ⟨rfl, rfl, id, fun x => ⟨fusePut_wf _ _ _ x.1, x.2⟩, id⟩

theorem Keeps.fuseStop (h : Keeps s r) : Keeps s (State.fuseStop r) := by
  unfold State.fuseStop
  repeat' first
    | with_reducible assumption
    | with_reducible apply Keeps.setRun
    | with_reducible apply Keeps.leavePartial
    | with_reducible refine Keeps.pair (by assumption) ?_
    | split

theorem Keeps.fuseRefresh (h : Keeps s r) (x : FuseRun) : Keeps s (r.fuseRefresh x) := by
  unfold State.fuseRefresh State.eachPitch
  dsimp only
  refine .foldl _ _ (fun _ _ k => ?_) ?_
  · split
    · exact k.same rfl rfl rfl ⟨rfl, rfl⟩ rfl rfl
    · exact k
  · have a : Keeps s { r with fuse.image := r.fuse.array, fuse.lifecycle := lifeCycleOf r.fuse.array } :=
      h.trans ⟨rfl, rfl, id, fun y => ⟨y.1, y.1⟩, id⟩
    repeat' split
    all_goals first
      | exact a
      | exact a.same rfl rfl rfl ⟨rfl, rfl⟩ rfl rfl

theorem Keeps.closureEvents (h : Keeps s r) (c : Nat) (sensor : Option SensorIx) : Keeps s (State.closureEvents r c sensor) := by
  unfold State.closureEvents State.eachPitch
  repeat' first
    | with_reducible assumption
    | with_reducible refine Keeps.foldl _ _ (fun _ _ _ => ?_) ?_
    | refine Keeps.foldl _ _ (fun _ _ _ => ?_) ?_
    | with_reducible refine Keeps.pair (by assumption) ?_
    | split
    | (refine Keeps.same (by assumption) ?_ ?_ ?_ ?_ ?_ ?_ <;> first | rfl | exact ⟨rfl, rfl⟩)

theorem Keeps.closeRunning (h : Keeps s r) (n : LaneIx) (line : Bool) (t : Ticks) : Keeps s (State.closeRunning r n line t) := by
  unfold State.closeRunning
  refine Keeps.toStopped ?_ n t
  exact Keeps.modLn (h.endStart n 3) n _ (fun _ => rfl)

theorem Keeps.closeLane (h : Keeps s r) (closes was line : Bool) (t : Ticks) (n : LaneIx) :
    Keeps s (State.closeLane closes was line t r n) := by
  unfold State.closeLane
  repeat' first
    | with_reducible assumption
    | with_reducible refine Keeps.modLn ?_ _ _ (fun _ => rfl)
    | with_reducible apply Keeps.drive
    | with_reducible apply Keeps.gatesOff
    | with_reducible apply Keeps.closeRunning
    | split
    | dsimp only

theorem Keeps.declareCause (h : Keeps s r) (c : Nat) (t : Ticks) (sensor : Option SensorIx) : Keeps s (State.declareCause r c t sensor) := by
  unfold State.declareCause State.eachLane State.eachTrk
  repeat' first
    | with_reducible assumption
    | with_reducible apply Keeps.closeWindows
    | with_reducible apply Keeps.abortDiags
    | with_reducible apply Keeps.fuseStop
    | with_reducible apply Keeps.closureEvents
    | with_reducible apply Keeps.closeLane
    | with_reducible refine Keeps.foldl _ _ (fun _ _ _ => ?_) ?_
    | refine Keeps.foldl _ _ (fun _ _ _ => ?_) ?_
    | split
    | (refine Keeps.same (by assumption) ?_ ?_ ?_ ?_ ?_ ?_ <;> first | rfl | exact ⟨rfl, rfl⟩)

theorem Keeps.reopenMarket (h : Keeps s r) : Keeps s r.reopenMarket := by
  unfold State.reopenMarket State.eachLane
  split
  · dsimp only
    refine .foldl _ _ (fun x n k => ?_) (.closureEvents ?_ ..)
    · split
      · exact k
      · exact k.releaseSafe n _ id fun _ k => k
    · exact h.same rfl rfl rfl ⟨rfl, rfl⟩ rfl rfl
  · exact h

theorem Keeps.reopenCommand (h : Keeps s r) (p : Pitch) (d : Desc) : Keeps s (State.reopenCommand r p d).1 := by
  unfold State.reopenCommand
  repeat' first
    | with_reducible assumption
    | split
    | (refine Keeps.same (by assumption) ?_ ?_ ?_ ?_ ?_ ?_ <;> first | rfl | exact ⟨rfl, rfl⟩)
    | dsimp only

theorem Keeps.buckStart (h : Keeps s r) : Keeps s (State.buckStart r) := by
  unfold State.buckStart
  repeat' first
    | with_reducible assumption
    | split
    | (refine Keeps.same (by assumption) ?_ ?_ ?_ ?_ ?_ ?_ <;> first | rfl | exact ⟨rfl, rfl⟩)

theorem Keeps.abandonInsert (h : Keeps s r) : Keeps s (State.abandonInsert r) := by
  unfold State.abandonInsert
  repeat' first
    | with_reducible assumption
    | split
    | (refine Keeps.same (by assumption) ?_ ?_ ?_ ?_ ?_ ?_ <;> first | rfl | exact ⟨rfl, rfl⟩)

theorem Keeps.powerBoundary (h : Keeps s r) (mw : Nat) : Keeps s (State.powerBoundary r mw) := by
  unfold State.powerBoundary
  repeat' first
    | with_reducible assumption
    | split
    | (refine Keeps.same (by assumption) ?_ ?_ ?_ ?_ ?_ ?_ <;> first | rfl | exact ⟨rfl, rfl⟩)

theorem Keeps.enterSeeded (h : Keeps s r) : Keeps s (State.enterSeeded r) := by
  unfold State.enterSeeded
  repeat' first
    | with_reducible assumption
    | split
    | (refine Keeps.same (by assumption) ?_ ?_ ?_ ?_ ?_ ?_ <;> first | rfl | exact ⟨rfl, rfl⟩)

theorem Keeps.heatEvent (h : Keeps s r) (p : Pitch) (i : SensorIx) (cause : Nat) (w5 : Word) (w6 : Word) (w7 : Word) : Keeps s (State.heatEvent r p i cause w5 w6 w7) := by
  unfold State.heatEvent
  repeat' first
    | with_reducible assumption
    | with_reducible apply Keeps.eventFor
    | with_reducible refine Keeps.pair (by assumption) ?_
    | split

theorem Lane.limitsChanged_bridges (l : Lane) : l.limitsChanged.car.bridges = l.car.bridges := by
  unfold Lane.limitsChanged; split <;> rfl

theorem Lane.settle_bridges (l : Lane) : l.settle.car.bridges = l.car.bridges := by
  unfold Lane.settle
  repeat' split
  all_goals first
    | rfl
    | (unfold Lane.takeMeasured; repeat' split)
  all_goals rfl

theorem Keeps.rederate (h : Keeps s r) (n : LaneIx) : Keeps s (r.rederate n) := by
  unfold State.rederate
  exact h.modLn _ _ fun _ => Lane.limitsChanged_bridges _

theorem Keeps.heatOrderly (h : Keeps s r) (n : LaneIx) (t : Ticks) : Keeps s (State.heatOrderly r n t) := by
  unfold State.heatOrderly
  repeat' first
    | with_reducible assumption
    | with_reducible refine Keeps.modLn ?_ _ _ (fun _ => rfl)
    | with_reducible apply Keeps.beginStop

theorem Keeps.heatStopLane (h : Keeps s r) (n : LaneIx) (t : Ticks) : Keeps s (State.heatStopLane r n t).1 := by
  unfold State.heatStopLane
  repeat' first
    | with_reducible assumption
    | with_reducible apply Keeps.beginStop
    | with_reducible apply Keeps.heatOrderly
    | with_reducible refine Keeps.pair (by assumption) ?_
    | split
    | dsimp only

theorem Keeps.heatStopEvent (h : Keeps s r) (i : SensorIx) (p : Pitch) (l : List HeatStopped) :
    Keeps s (r.heatStopEvent i p l) := h.heatEvent ..

theorem Keeps.heatStopSteps (t : Ticks) (l : List LaneIx) (x : State × List HeatStopped) (h : Keeps s x.1) :
    Keeps s (l.foldl (heatStopStep t) x).1 := by
  induction l generalizing x with
  | nil => exact h
  | cons n l ih =>
    refine ih _ ?_
    unfold heatStopStep
    split
    · exact h.heatStopLane n t
    · exact h

theorem Keeps.heatStop (h : Keeps s r) (i : SensorIx) (t : Ticks) : Keeps s (r.heatStop i t) := by
  unfold State.heatStop State.eachPitch
  dsimp only
  have k := Keeps.heatStopSteps t (lanesOf i) (r, []) h
  generalize (lanesOf i).foldl (heatStopStep t) (r, []) = x at k ⊢
  refine .foldl _ _ (fun _ _ k => ?_) (k.heatStopEvent ..)
  split
  · exact k
  · exact k.heatStopEvent ..

theorem Keeps.heatRecheck (h : Keeps s r) (i : SensorIx) (n : LaneIx) (t : Ticks) : Keeps s (State.heatRecheck r i n t) := by
  unfold State.heatRecheck State.eachPitch
  repeat' first
    | with_reducible assumption
    | with_reducible refine Keeps.foldl _ _ (fun _ _ _ => ?_) ?_
    | with_reducible refine Keeps.modLn ?_ _ _ (fun _ => rfl)
    | with_reducible apply Keeps.applyStop
    | with_reducible apply Keeps.heatEvent
    | with_reducible refine Keeps.pair (by assumption) ?_
    | split
    | dsimp only

theorem Keeps.judge (h : Keeps s r) (i : SensorIx) (t : Ticks) (own : Int) : Keeps s (State.judge r i t own).1 := by
  unfold State.judge
  repeat' first
    | with_reducible assumption
    | with_reducible apply Keeps.modSn

theorem Keeps.becomeUnavailable (h : Keeps s r) (i : SensorIx) (t : Ticks) : Keeps s (State.becomeUnavailable r i t) := by
  unfold State.becomeUnavailable
  repeat' first
    | with_reducible assumption
    | with_reducible apply Keeps.modSn
    | with_reducible apply Keeps.heatEvent
    | with_reducible apply Keeps.heatOrderly
    | with_reducible refine Keeps.pair (by assumption) ?_
    | split
    | dsimp only

theorem Keeps.limitsOf (h : Keeps s r) (i : SensorIx) (t : Ticks) : Keeps s (State.limitsOf r i t) := by
  unfold State.limitsOf
  repeat' first
    | with_reducible assumption
    | with_reducible apply Keeps.modSn
    | with_reducible apply Keeps.declareCause
    | with_reducible apply Keeps.heatEvent
    | with_reducible apply Keeps.heatStop
    | with_reducible refine Keeps.pair (by assumption) ?_
    | split
    | dsimp only

theorem Keeps.sampleActs (h : Keeps s r) (i : SensorIx) (t : Ticks) : Keeps s (State.sampleActs r i t) := by
  unfold State.sampleActs
  repeat' first
    | with_reducible assumption
    | with_reducible apply Keeps.drivePins
    | with_reducible apply Keeps.rederate
    | with_reducible apply Keeps.heatRecheck
    | with_reducible refine Keeps.foldl _ _ (fun _ _ _ => ?_) ?_
    | split
    | dsimp only

theorem Keeps.takeSample (h : Keeps s r) (i : SensorIx) (t : Ticks) : Keeps s (State.takeSample r i t) := by
  unfold State.takeSample
  repeat' first
    | with_reducible assumption
    | with_reducible apply Keeps.modSn
    | with_reducible apply Keeps.becomeUnavailable
    | with_reducible apply Keeps.limitsOf
    | with_reducible apply Keeps.sampleActs
    | with_reducible refine Keeps.pair (by assumption) ?_
    | split
    | dsimp only

theorem Keeps.rateStep (h : Keeps s r) (i : SensorIx) : Keeps s (State.rateStep r i) := by
  unfold State.rateStep
  repeat' first
    | with_reducible assumption
    | with_reducible apply Keeps.modSn
    | with_reducible apply Keeps.heatEvent
    | with_reducible refine Keeps.pair (by assumption) ?_
    | split
    | dsimp only

theorem Keeps.heatBoundary (h : Keeps s r) : Keeps s r.heatBoundary := by
  unfold State.heatBoundary State.eachLane
  dsimp only
  refine .foldl _ _ (fun _ _ k => k.modLn _ _ fun l => Lane.limitsChanged_bridges _) ?_
  have a : Keeps s (laneIxs.foldl (fun s n => s.modLn n Lane.heatBoundary) { r with heat := r.heat.takeLimits }) :=
    .foldl _ _ (fun _ _ k => k.modLn _ _) (h.same rfl rfl rfl ⟨rfl, rfl⟩ rfl rfl)
  exact a.same rfl rfl rfl ⟨rfl, rfl⟩ rfl rfl

theorem Keeps.countCrc (h : Keeps s r) (p : Pair) (f : Frame) : Keeps s (State.countCrc r p f) := by
  unfold State.countCrc
  repeat' first
    | with_reducible assumption
    | with_reducible refine Keeps.pair (by assumption) ?_
    | split
    | (refine Keeps.same (by assumption) ?_ ?_ ?_ ?_ ?_ ?_ <;> first | rfl | exact ⟨rfl, rfl⟩)

theorem Keeps.flashCtrl (h : Keeps s r) (data : Word) : Keeps s (State.flashCtrl r data) := by
  unfold State.flashCtrl
  repeat' first
    | with_reducible assumption
    | split
    | (refine Keeps.same (by assumption) ?_ ?_ ?_ ?_ ?_ ?_ <;> first | rfl | exact ⟨rfl, rfl⟩)

theorem Keeps.setSel (h : Keeps s r) (p : Pitch) (f : Selectors → Selectors) : Keeps s (State.setSel r p f) := by
  unfold State.setSel
  repeat' first
    | with_reducible assumption
    | split
    | (refine Keeps.same (by assumption) ?_ ?_ ?_ ?_ ?_ ?_ <;> first | rfl | exact ⟨rfl, rfl⟩)

theorem Keeps.rootFailure (h : Keeps s r) (t : Ticks) : Keeps s (r.rootFailure t) := by
  unfold State.rootFailure State.eachLane
  repeat' first
    | with_reducible assumption
    | with_reducible refine Keeps.modLn ?_ _ _ (fun _ => rfl)
    | with_reducible refine Keeps.forceSafe ?_ _ _ _ _ (fun _ k => k.modLn _)
    | with_reducible apply Keeps.declareCause
    | with_reducible apply Keeps.clkEventSet
    | refine Keeps.foldl _ _ (fun _ _ _ => ?_) ?_
    | split
    | (refine Keeps.same (by assumption) ?_ ?_ ?_ ?_ ?_ ?_ <;> first | rfl | exact ⟨rfl, rfl⟩)

theorem Keeps.revert (h : Keeps s r) (t : Ticks) : Keeps s (r.revert t) := by
  unfold State.revert
  have a : Keeps s { r with clk.refRing := false } := h.same rfl rfl rfl ⟨rfl, rfl⟩ rfl rfl
  dsimp only
  split
  · exact a
  · exact a.rootFailure t

theorem Keeps.clkCtrl (h : Keeps s r) (d : Word) : Keeps s (r.clkCtrl d) := by
  unfold State.clkCtrl
  have a : Keeps s { r with clk.syntonyEn := bit d 0 } := h.same rfl rfl rfl ⟨rfl, rfl⟩ rfl rfl
  dsimp only
  split
  · exact a.revert _
  · exact a

theorem Keeps.writeDevice (h : Keeps s r) (host : Bool) (p : Pitch) (page : Nat) (a : Nat) (d : Word) : Keeps s (State.writeDevice r host p page a d) := by
  unfold State.writeDevice
  repeat' first
    | with_reducible assumption
    | with_reducible refine Keeps.modLn ?_ _ _ (fun _ => rfl)
    | with_reducible apply Keeps.noObject
    | with_reducible apply Keeps.flashCtrl
    | with_reducible apply Keeps.clkCtrl
    | with_reducible apply Keeps.setSel
    | with_reducible refine Keeps.pair (by assumption) ?_
    | split
    | (refine Keeps.same (by assumption) ?_ ?_ ?_ ?_ ?_ ?_ <;> first | rfl | exact ⟨rfl, rfl⟩)
    | dsimp only

theorem Keeps.writeBlockPage (h : Keeps s r) (p : Pitch) (x : Selectors) (page : Nat) (a : Nat) (d : Word) : Keeps s (State.writeBlockPage r p x page a d) := by
  unfold State.writeBlockPage
  repeat' first
    | with_reducible assumption
    | with_reducible refine Keeps.modLn ?_ _ _ (fun _ => rfl)
    | with_reducible apply Keeps.modTk
    | with_reducible apply Keeps.setSel
    | with_reducible refine Keeps.pair (by assumption) ?_
    | split
    | (refine Keeps.same (by assumption) ?_ ?_ ?_ ?_ ?_ ?_ <;> first | rfl | exact ⟨rfl, rfl⟩)

theorem Lane.write_bridges (l : Lane) (t : Ticks) (a : Nat) (d : Word) : (l.write t a d).car.bridges = l.car.bridges := by
  unfold Lane.write
  dsimp only
  repeat' split
  all_goals rfl

theorem Keeps.writeReg (h : Keeps s r) (host : Bool) (p : Pitch) (x : Selectors) (page a : Nat) (d : Word) :
    Keeps s (r.writeReg host p x page a d) := by
  unfold State.writeReg
  repeat' split
  all_goals first
    | exact h
    | exact h.writeDevice ..
    | exact h.writeBlockPage ..
    | exact h.modLn _ _ fun _ => Lane.write_bridges ..

theorem Keeps.traceSubmit (h : Keeps s r) (p : Pitch) (door : Door) (q : QueueIx) (d : Desc) (v : Verdict) : Keeps s (State.traceSubmit r p door q d v) := by
  unfold State.traceSubmit
  repeat' first
    | with_reducible assumption
    | with_reducible apply Keeps.trace

theorem Keeps.accept (h : Keeps s r) (c : Cmd) : Keeps s (State.accept r c) := by
  unfold State.accept
  repeat' first
    | with_reducible assumption
    | split
    | (refine Keeps.same (by assumption) ?_ ?_ ?_ ?_ ?_ ?_ <;> first | rfl | exact ⟨rfl, rfl⟩)

theorem Keeps.done (h : Keeps s r) (st : Byte) (r0 r1 r2 r3 : Word) : Keeps s (r.done st r0 r1 r2 r3).1 := h

theorem Keeps.submit (h : Keeps s r) (p : Pitch) (door : Door) (q : QueueIx) (d : Desc) : Keeps s (State.submit r p door q d).1 := by
  unfold State.submit
  repeat' first
    | with_reducible assumption
    | with_reducible apply Keeps.count
    | with_reducible apply Keeps.traceSubmit
    | with_reducible apply Keeps.accept
    | with_reducible refine Keeps.pair (by assumption) ?_
    | split

theorem Keeps.submitRegister (h : Keeps s r) (d : Desc) : Keeps s (State.submitRegister r d).1 := by
  unfold State.submitRegister
  repeat' first
    | with_reducible assumption
    | split
    | (refine Keeps.same (by assumption) ?_ ?_ ?_ ?_ ?_ ?_ <;> first | rfl | exact ⟨rfl, rfl⟩)
    | dsimp only

theorem Keeps.applyWith (h : Keeps s r) (c : Cmd) (f : Applied → State → Effect)
    (hf : ∀ a r, Keeps s r → Keeps s (f a r).1) : Keeps s (r.applyWith c f).1 := by
  unfold State.applyWith
  dsimp only
  have a : Keeps s { r with q := { r.q with
      orderNext := vmod r.q.orderNext c.pitch fun k => k + 1, accepted := r.q.accepted.erase c } } :=
    h.same rfl rfl rfl ⟨rfl, rfl⟩ rfl rfl
  split
  · exact a.finish ..
  · split
    · rename_i e; exact (Keeps.pair e (hf _ _ a)).finish ..
    · rename_i e; exact Keeps.pair e (hf _ _ a)

theorem Keeps.applyRow (h : Keeps s r) (o : Opcode) (c : Cmd) (f : Applied → State → Effect)
    (hf : ∀ a r, Keeps s r → Keeps s (f a r).1) : Keeps s (r.applyRow o c f) := by
  unfold State.applyRow
  exact Keeps.ledgerWrite (h.applyWith _ f hf) ..

theorem Keeps.lapse (h : Keeps s r) (c : Cmd) (order : Nat) : Keeps s (State.lapse r c order) := by
  unfold State.lapse
  repeat' first
    | with_reducible assumption
    | with_reducible apply Keeps.finishIn
    | split
    | (refine Keeps.same (by assumption) ?_ ?_ ?_ ?_ ?_ ?_ <;> first | rfl | exact ⟨rfl, rfl⟩)

theorem Keeps.postRegister (h : Keeps s r) (d : Done) : Keeps s (State.postRegister r d) := by
  unfold State.postRegister
  repeat' first
    | with_reducible assumption
    | with_reducible refine Keeps.modLn ?_ _ _ (fun _ => rfl)
    | with_reducible refine Keeps.modLn ?_ _ _ (fun _ => ?_)
    | rfl
    | with_reducible refine Keeps.pair (by assumption) ?_
    | split
    | (refine Keeps.same (by assumption) ?_ ?_ ?_ ?_ ?_ ?_ <;> first | rfl | exact ⟨rfl, rfl⟩)
    | dsimp only

theorem Keeps.postDone (h : Keeps s r) (d : Done) : Keeps s (State.postDone r d) := by
  unfold State.postDone
  repeat' first
    | with_reducible assumption
    | with_reducible apply Keeps.trace
    | with_reducible apply Keeps.postRegister
    | split
    | (refine Keeps.same (by assumption) ?_ ?_ ?_ ?_ ?_ ?_ <;> first | rfl | exact ⟨rfl, rfl⟩)
    | dsimp only

theorem Keeps.postCompletions (h : Keeps s r) : Keeps s (State.postCompletions r) := by
  unfold State.postCompletions
  repeat' first
    | with_reducible assumption
    | with_reducible apply Keeps.postDone
    | with_reducible refine Keeps.foldl _ _ (fun _ _ _ => ?_) ?_
    | split
    | (refine Keeps.same (by assumption) ?_ ?_ ?_ ?_ ?_ ?_ <;> first | rfl | exact ⟨rfl, rfl⟩)

theorem Keeps.postEvent (h : Keeps s r) (x : EventOut) : Keeps s (State.postEvent r x) := by
  unfold State.postEvent
  repeat' first
    | with_reducible assumption
    | with_reducible apply Keeps.trace
    | split
    | (refine Keeps.same (by assumption) ?_ ?_ ?_ ?_ ?_ ?_ <;> first | rfl | exact ⟨rfl, rfl⟩)
    | dsimp only

theorem Keeps.postEvents (h : Keeps s r) : Keeps s (State.postEvents r) := by
  unfold State.postEvents
  repeat' first
    | with_reducible assumption
    | with_reducible apply Keeps.postEvent
    | with_reducible refine Keeps.foldl _ _ (fun _ _ _ => ?_) ?_
    | split
    | (refine Keeps.same (by assumption) ?_ ?_ ?_ ?_ ?_ ?_ <;> first | rfl | exact ⟨rfl, rfl⟩)

theorem Keeps.consume (h : Keeps s r) : Keeps s (State.consume r) := by
  unfold State.consume
  repeat' first
    | with_reducible assumption
    | with_reducible refine Keeps.foldl _ _ (fun _ _ _ => ?_) ?_
    | split
    | (refine Keeps.same (by assumption) ?_ ?_ ?_ ?_ ?_ ?_ <;> first | rfl | exact ⟨rfl, rfl⟩)

theorem Keeps.passA (h : Keeps s r) (slot : Fin 36) (f : Frame) : Keeps s (State.passA r slot f) := by
  unfold State.passA
  repeat' first
    | with_reducible assumption
    | split
    | (refine Keeps.same (by assumption) ?_ ?_ ?_ ?_ ?_ ?_ <;> first | rfl | exact ⟨rfl, rfl⟩)

theorem Keeps.reply (h : Keeps s r) (slot : Fin 36) (f : Frame) : Keeps s (State.reply r slot f) := by
  unfold State.reply
  repeat' first
    | with_reducible assumption
    | split
    | (refine Keeps.same (by assumption) ?_ ?_ ?_ ?_ ?_ ?_ <;> first | rfl | exact ⟨rfl, rfl⟩)

theorem Keeps.answerPlain (h : Keeps s r) (slot : Fin 36) (f : Frame) (data : List Byte) : Keeps s (State.answerPlain r slot f data) := by
  unfold State.answerPlain
  repeat' first
    | with_reducible assumption
    | with_reducible apply Keeps.reply

theorem Keeps.answerSealed (h : Keeps s r) (slot : Fin 36) (f : Frame) (key : BitVec 256) (data : List Byte) : Keeps s (State.answerSealed r slot f key data) := by
  unfold State.answerSealed
  repeat' first
    | with_reducible assumption
    | with_reducible apply Keeps.reply

theorem Keeps.answerOpen (h : Keeps s r) (slot : Fin 36) (f : Frame) (key : BitVec 256) (data : List Byte) : Keeps s (State.answerOpen r slot f key data) := by
  unfold State.answerOpen
  repeat' first
    | with_reducible assumption
    | with_reducible apply Keeps.reply

theorem Keeps.answerNobody (h : Keeps s r) (slot : Fin 36) (f : Frame) : Keeps s (State.answerNobody r slot f) := by
  unfold State.answerNobody
  repeat' first
    | with_reducible assumption
    | with_reducible apply Keeps.answerPlain
    | split
    | (refine Keeps.same (by assumption) ?_ ?_ ?_ ?_ ?_ ?_ <;> first | rfl | exact ⟨rfl, rfl⟩)

theorem Keeps.countRequest (h : Keeps s r) (p : Pitch) : Keeps s (r.countRequest p).1 := by
  unfold State.countRequest
  have a := h.count 0x33 0 (some p)
  generalize r.count 0x33 0 (some p) = x at a ⊢
  exact a.same rfl rfl rfl ⟨rfl, rfl⟩ rfl rfl

theorem Keeps.dataSubmit (h : Keeps s r) (p : Pitch) (queue : Byte) (d : Desc) : Keeps s (State.dataSubmit r p queue d).1 := by
  unfold State.dataSubmit
  repeat' first
    | with_reducible assumption
    | with_reducible apply Keeps.submit
    | with_reducible refine Keeps.pair (by assumption) ?_
    | split

theorem Keeps.dataCollect (h : Keeps s r) (p : Pitch) (queue : Byte) (newHead : Byte) : Keeps s (State.dataCollect r p queue newHead).1 := by
  unfold State.dataCollect
  repeat' first
    | with_reducible assumption
    | split
    | (refine Keeps.same (by assumption) ?_ ?_ ?_ ?_ ?_ ?_ <;> first | rfl | exact ⟨rfl, rfl⟩)
    | dsimp only

theorem Keeps.dataRequest (h : Keeps s r) (p : Pitch) (len : Nat) (bs : List Byte) : Keeps s (State.dataRequest r p len bs).1 := by
  unfold State.dataRequest
  repeat' first
    | with_reducible assumption
    | with_reducible apply Keeps.dataSubmit
    | with_reducible apply Keeps.dataCollect
    | split
    | dsimp only

theorem Keeps.sealedRequest (h : Keeps s r) (slot : Fin 36) (f : Frame) : Keeps s (State.sealedRequest r slot f) := by
  unfold State.sealedRequest
  repeat' first
    | with_reducible assumption
    | with_reducible apply Keeps.answerSealed
    | with_reducible apply Keeps.answerNobody
    | with_reducible apply Keeps.countRequest
    | with_reducible apply Keeps.dataRequest
    | with_reducible refine Keeps.pair (by assumption) ?_
    | split
    | dsimp only

theorem Keeps.sessionRequest (h : Keeps s r) (slot : Fin 36) (f : Frame) : Keeps s (r.sessionRequest slot f) := by
  unfold State.sessionRequest
  dsimp only
  repeat' split
  all_goals first
    | exact h.answerPlain ..
    | exact h.answerNobody ..
    | skip
  · rename_i e; exact (Keeps.pair e (h.countRequest _)).answerOpen ..
  · rename_i e _; exact (Keeps.pair e (h.countRequest _)).answerOpen ..
  · rename_i e _
    refine Keeps.answerOpen ?_ ..
    have a := (Keeps.pair e (h.countRequest _)).draw
    generalize State.draw _ = x at a ⊢
    exact a.same rfl rfl rfl ⟨rfl, rfl⟩ rfl rfl

theorem Keeps.foldTaken (h : Keeps s r) (f : Frame) : Keeps s (r.foldTaken f) := by
  unfold State.foldTaken
  split
  · exact h.same rfl rfl rfl ⟨rfl, rfl⟩ rfl rfl
  · exact h

/-- A request other than SET_DELAY, which writes the bell's delay (`State.delayTaken`). -/
theorem Keeps.request (h : Keeps s r) (slot : Fin 36) (f : Frame) (hf : (Frame.type f).toNat ≠ 2) :
    Keeps s (State.request r slot f) := by
  unfold State.request
  repeat' first
    | with_reducible assumption
    | (exfalso; exact hf (by assumption))
    | with_reducible apply Keeps.foldTaken
    | with_reducible apply Keeps.answerPlain
    | with_reducible apply Keeps.sealedRequest
    | with_reducible apply Keeps.sessionRequest
    | with_reducible refine Keeps.pair (by assumption) ?_
    | split

theorem Keeps.reason (h : Keeps s r) (st : Byte) (k : Nat) : Keeps s (r.reason st k).1 := h

theorem Keeps.onLane (h : Keeps s r) (k : Nat) (f : LaneIx → Applied → State → Effect)
    (hf : ∀ n a r, Keeps s r → Keeps s (f n a r).1) (a : Applied) : Keeps s (Machine.onLane k f a r).1 := by
  unfold Machine.onLane
  split
  · split
    · exact hf _ _ _ h
    · exact h
  · exact h

theorem Keeps.markApplied (h : Keeps s r) (n : LaneIx) (test : Bool) : Keeps s (State.markApplied r n test) := by
  unfold State.markApplied
  repeat' first
    | with_reducible assumption
    | with_reducible refine Keeps.modLn ?_ _ _ (fun _ => rfl)

theorem Keeps.startTurning (h : Keeps s r) (n : LaneIx) (t : Ticks) : Keeps s (State.startTurning r n t) := by
  unfold State.startTurning
  repeat' first
    | with_reducible assumption
    | with_reducible apply Keeps.enterAlign
    | with_reducible apply Keeps.enterRunTurning
    | with_reducible refine Keeps.pair (by assumption) ?_
    | split
    | dsimp only

theorem Keeps.laneStart (h : Keeps s r) (n : LaneIx) (a : Applied) : Keeps s (State.laneStart r n a).1 := by
  unfold State.laneStart
  repeat' first
    | with_reducible assumption
    | with_reducible refine Keeps.modLn ?_ _ _ (fun _ => rfl)
    | with_reducible apply Keeps.takeAll
    | with_reducible apply Keeps.reason
    | with_reducible apply Keeps.markApplied
    | with_reducible apply Keeps.startTurning
    | with_reducible refine Keeps.pair (by assumption) ?_
    | split
    | dsimp only

theorem Keeps.laneStop (h : Keeps s r) (n : LaneIx) (a : Applied) : Keeps s (State.laneStop r n a).1 := by
  unfold State.laneStop
  repeat' first
    | with_reducible assumption
    | with_reducible apply Keeps.beginStop
    | with_reducible apply Keeps.endPinWait
    | with_reducible apply Keeps.done
    | with_reducible apply Keeps.reason
    | with_reducible refine Keeps.pair (by assumption) ?_
    | split

theorem Keeps.laneSetSpeed (h : Keeps s r) (n : LaneIx) (a : Applied) : Keeps s (State.laneSetSpeed r n a).1 := by
  unfold State.laneSetSpeed
  repeat' first
    | with_reducible assumption
    | with_reducible refine Keeps.modLn ?_ _ _ (fun _ => rfl)
    | with_reducible apply Keeps.done
    | with_reducible apply Keeps.reason
    | split
    | dsimp only

theorem Keeps.laneReverse (h : Keeps s r) (n : LaneIx) (a : Applied) : Keeps s (State.laneReverse r n a).1 := by
  unfold State.laneReverse
  repeat' first
    | with_reducible assumption
    | with_reducible refine Keeps.modLn ?_ _ _ (fun _ => rfl)
    | with_reducible apply Keeps.gatesOff
    | with_reducible apply Keeps.endStart
    | with_reducible apply Keeps.enterAlign
    | with_reducible apply Keeps.reason
    | split
    | dsimp only

theorem Keeps.startMeasure (h : Keeps s r) (n : LaneIx) (m : Measuring) : Keeps s (State.startMeasure r n m) := by
  unfold State.startMeasure
  repeat' first
    | with_reducible assumption
    | with_reducible refine Keeps.modLn ?_ _ _ (fun _ => rfl)

theorem Keeps.measureRefused (h : Keeps s r) (n : LaneIx) (st : Byte) (k : Nat) : Keeps s (r.measureRefused n st k).1 := by
  unfold State.measureRefused
  dsimp only
  refine Keeps.reason ?_ ..
  split
  · exact h.modLn _ _
  · exact h

theorem Keeps.laneCalibrate (h : Keeps s r) (n : LaneIx) (a : Applied) : Keeps s (r.laneCalibrate n a).1 := by
  unfold State.laneCalibrate
  dsimp only
  split
  · exact (h.markApplied _ _).measureRefused ..
  · exact (h.markApplied _ _).startMeasure ..

theorem Keeps.laneReseat (h : Keeps s r) (n : LaneIx) (a : Applied) : Keeps s (r.laneReseat n a).1 := by
  unfold State.laneReseat
  dsimp only
  split
  · exact (h.markApplied _ _).measureRefused ..
  · exact (h.markApplied _ _).startMeasure ..

theorem Keeps.laneDiag (h : Keeps s r) (n : LaneIx) (a : Applied) : Keeps s (State.laneDiag r n a).1 := by
  unfold State.laneDiag
  repeat' first
    | with_reducible assumption
    | with_reducible refine Keeps.modLn ?_ _ _ (fun _ => rfl)
    | with_reducible apply Keeps.reason
    | with_reducible apply Keeps.markApplied
    | with_reducible apply Keeps.startMeasure
    | with_reducible refine Keeps.pair (by assumption) ?_
    | split
    | dsimp only

theorem Keeps.laneSelftest (h : Keeps s r) (n : LaneIx) (a : Applied) : Keeps s (State.laneSelftest r n a).1 := by
  unfold State.laneSelftest
  repeat' first
    | with_reducible assumption
    | with_reducible apply Keeps.reason
    | with_reducible apply Keeps.markApplied
    | with_reducible apply Keeps.startMeasure
    | with_reducible refine Keeps.pair (by assumption) ?_
    | split
    | dsimp only

theorem Keeps.clearLatch (h : Keeps s r) (n : LaneIx) (t : Ticks) : Keeps s (r.clearLatch n t) := by
  unfold State.clearLatch
  have a : Keeps s (r.releaseSafe n t fun s => s.modLn n Lane.unlatch) :=
    h.releaseSafe _ _ _ fun _ k => k.modLn _
  dsimp only
  split
  · exact a.toStopped ..
  · exact a

theorem Keeps.laneClearLatch (h : Keeps s r) (n : LaneIx) (_a : Applied) : Keeps s (State.laneClearLatch r n _a).1 := by
  unfold State.laneClearLatch
  repeat' first
    | with_reducible assumption
    | exact h.modLn _ Lane.unlatch
    | with_reducible apply Keeps.clearLatch
    | with_reducible apply Keeps.setLatch
    | with_reducible apply Keeps.done
    | with_reducible refine Keeps.pair (by assumption) ?_
    | split

theorem Keeps.effLaneStart (h : Keeps s r) (a : Applied) : Keeps s (Machine.effLaneStart a r).1 :=
  h.onLane _ _ (fun _ _ _ k => k.laneStart _ _) a

theorem Keeps.effLaneStop (h : Keeps s r) (a : Applied) : Keeps s (Machine.effLaneStop a r).1 :=
  h.onLane _ _ (fun _ _ _ k => k.laneStop _ _) a

theorem Keeps.effLaneSetSpeed (h : Keeps s r) (a : Applied) : Keeps s (Machine.effLaneSetSpeed a r).1 :=
  h.onLane _ _ (fun _ _ _ k => k.laneSetSpeed _ _) a

theorem Keeps.effLaneReverse (h : Keeps s r) (a : Applied) : Keeps s (Machine.effLaneReverse a r).1 :=
  h.onLane _ _ (fun _ _ _ k => k.laneReverse _ _) a

theorem Keeps.effLaneReseat (h : Keeps s r) (a : Applied) : Keeps s (Machine.effLaneReseat a r).1 :=
  h.onLane _ _ (fun _ _ _ k => k.laneReseat _ _) a

theorem Keeps.effLaneCalibrate (h : Keeps s r) (a : Applied) : Keeps s (Machine.effLaneCalibrate a r).1 :=
  h.onLane _ _ (fun _ _ _ k => k.laneCalibrate _ _) a

theorem Keeps.effLaneOffstateDiag (h : Keeps s r) (a : Applied) : Keeps s (Machine.effLaneOffstateDiag a r).1 :=
  h.onLane _ _ (fun _ _ _ k => k.laneDiag _ _) a

theorem Keeps.effLaneSelftest (h : Keeps s r) (a : Applied) : Keeps s (Machine.effLaneSelftest a r).1 :=
  h.onLane _ _ (fun _ _ _ k => k.laneSelftest _ _) a

theorem Keeps.effLaneClearLatch (h : Keeps s r) (a : Applied) : Keeps s (Machine.effLaneClearLatch a r).1 :=
  h.onLane _ _ (fun _ _ _ k => k.laneClearLatch _ _) a

theorem Keeps.readBlock (h : Keeps s r) (snap : State) (a : Applied) : Keeps s (State.readBlock r snap a).1 := by
  unfold State.readBlock
  repeat' first
    | with_reducible assumption
    | with_reducible apply Keeps.done
    | with_reducible refine Keeps.pair (by assumption) ?_
    | split
    | dsimp only

theorem Keeps.writeBlock (h : Keeps s r) (a : Applied) : Keeps s (State.writeBlock r a).1 := by
  unfold State.writeBlock
  repeat' first
    | with_reducible assumption
    | with_reducible apply Keeps.writeReg
    | with_reducible apply Keeps.done
    | with_reducible refine Keeps.foldl _ _ (fun _ _ _ => ?_) ?_
    | with_reducible refine Keeps.pair (by assumption) ?_
    | split
    | dsimp only

theorem Keeps.armBatten (h : Keeps s r) (b : BattenId) : Keeps s (State.armBatten r b) := by
  unfold State.armBatten
  repeat' first
    | with_reducible assumption
    | with_reducible refine Keeps.modLn ?_ _ _ (fun _ => rfl)
    | with_reducible apply Keeps.modTk
    | with_reducible apply Keeps.traceLane
    | with_reducible apply Keeps.drive
    | with_reducible apply Keeps.takeCarrier
    | with_reducible apply Keeps.takeMask
    | with_reducible apply Keeps.takeSense
    | with_reducible apply Keeps.pinNewTrip
    | with_reducible apply Keeps.takeCommut
    | with_reducible apply Keeps.takeGate
    | with_reducible refine Keeps.pair (by assumption) ?_
    | split
    | dsimp only

theorem Keeps.commitBatten (h : Keeps s r) (a : Applied) : Keeps s (State.commitBatten r a).1 := by
  unfold State.commitBatten
  repeat' first
    | with_reducible assumption
    | with_reducible apply Keeps.done
    | with_reducible apply Keeps.armBatten
    | with_reducible refine Keeps.pair (by assumption) ?_
    | split
    | dsimp only

theorem Keeps.endForeign (h : Keeps s r) (a : Applied) : Keeps s (State.endForeign r a) := by
  unfold State.endForeign
  repeat' first
    | with_reducible assumption
    | with_reducible apply Keeps.finish

theorem Keeps.moveLane (h : Keeps s r) (n : LaneIx) (new : Option Pitch) : Keeps s (r.moveLane n new) := by
  unfold State.moveLane
  dsimp only
  refine .drive (.rederate ?_ n) n _
  have a : Keeps s ((r.ln n).opsOpen.foldl State.endForeign (r.recall (r.ln n))) :=
    .foldl _ _ (fun _ _ k => k.finish ..) (h.same rfl rfl rfl ⟨rfl, rfl⟩ rfl rfl)
  generalize (r.ln n).opsOpen.foldl State.endForeign (r.recall (r.ln n)) = x at a ⊢
  have b : Keeps s (if (r.ln n).ops.lineLoss = true then x.laneEvent n 0x01 1 0 0 0 else x) := by
    split
    · exact a.laneEvent ..
    · exact a
  generalize (if (r.ln n).ops.lineLoss = true then x.laneEvent n 0x01 1 0 0 0 else x) = y at b ⊢
  have c := (b.laneState n .stopped).gatesOff n y.now
  generalize (y.laneState n .stopped).gatesOff n y.now = z at c ⊢
  have d := c.trans ((LaneStep.refl n z).setLn (z.freshLane n (r.ln n) (z.ln n).car.bridges) fun hs i => by
    simp only [State.freshLane, Fin.getElem_fin, vmap_get]; exact (hs i).hold _).keeps
  exact (d.modSn (ntcIx n) _).same rfl rfl rfl ⟨rfl, rfl⟩ rfl rfl

theorem Keeps.moveTracker (h : Keeps s r) (n : TrkIx) (new : Option Pitch) : Keeps s (r.moveTracker n new) := by
  unfold State.moveTracker
  dsimp only
  have a := (h.closeWindows n r.now).setDenied n false
  generalize (r.closeWindows n r.now).setDenied n false = x at a ⊢
  exact a.same rfl rfl rfl ⟨rfl, rfl⟩ rfl rfl

theorem Keeps.dropWindows (h : Keeps s r) (f : Window → Bool) (n : TrkIx) : Keeps s (State.dropWindows f r n) := by
  unfold State.dropWindows
  repeat' first
    | with_reducible assumption
    | with_reducible apply Keeps.trkEvent
    | with_reducible apply Keeps.disarm
    | split
    | dsimp only

theorem Keeps.movePin (h : Keeps s r) (m : TrkIx) (new : Option Pitch) : Keeps s (r.movePin m new) := by
  unfold State.movePin State.eachTrk
  dsimp only
  have a := Keeps.foldl (State.dropWindows fun w => w.action == 1 && w.target == m.val) trkIxs (fun _ _ k => k.dropWindows ..) h
  generalize trkIxs.foldl _ r = x at a ⊢
  exact a.same rfl rfl rfl ⟨rfl, rfl⟩ rfl rfl

theorem Keeps.moveAin (h : Keeps s r) (m : AinIx) (new : Option Pitch) : Keeps s (r.moveAin m new) := by
  unfold State.moveAin State.eachTrk
  dsimp only
  have a := Keeps.foldl (State.dropWindows fun w => w.action == 2 && w.target == m.val) trkIxs (fun _ _ k => k.dropWindows ..) h
  generalize trkIxs.foldl _ r = x at a ⊢
  exact a.same rfl rfl rfl ⟨rfl, rfl⟩ rfl rfl

/-- Queue group 0 never moves (R244). -/
theorem Keeps.moveGroup (h : Keeps s r) (g : Fin 16) (new : Option Pitch) (force : Bool) (hg : g ≠ 0) :
    Keeps s (r.moveGroup g new force) := by
  refine h.trans ⟨rfl, rfl, fun x n i => ?_, id, fun x => ⟨(vset_ne _ _ _ _ hg).trans x.1, x.2⟩⟩
  have := x n i
  simpa only [State.ln, State.moveGroup, Fin.getElem_fin, vmap_get] using this

theorem Keeps.moveTally (h : Keeps s r) (i : TallyIx) (new : Option Pitch) : Keeps s (State.moveTally r i new) := by
  unfold State.moveTally
  repeat' first
    | with_reducible assumption
    | split
    | (refine Keeps.same (by assumption) ?_ ?_ ?_ ?_ ?_ ?_ <;> first | rfl | exact ⟨rfl, rfl⟩)

theorem Keeps.assignDo (h : Keeps s r) (m : Move) (hk : m.what ≠ .group 0) : Keeps s (r.assignDo m) := by
  unfold State.assignDo
  split
  · exact h.moveLane ..
  · exact h.moveTracker ..
  · exact h.movePin ..
  · exact h.moveAin ..
  · rename_i g e
    exact h.moveGroup _ _ _ fun z => hk (e.trans (z ▸ rfl))
  · exact h.moveTally ..
  all_goals
    rename_i e
    refine h.same rfl rfl rfl ⟨rfl, rfl⟩ ?_ ?_ <;> simp only [Pitches.assign, e]

/-- Moves: queue group 0 stays where it is if none of them names it, and nothing else that matters is touched by any. -/
theorem Keeps.assignAll (l : List Move) (h : Keeps s r) (hl : s.groupZero → ∀ m ∈ l, m.what ≠ .group 0) :
    Keeps s (l.foldl State.assignDo r) := by
  induction l generalizing r with
  | nil => exact h
  | cons m l ih =>
    refine ih ?_ fun z => (List.forall_mem_cons.mp (hl z)).2
    by_cases hk : m.what = .group 0
    · refine ⟨?_, ?_, ?_, ?_, fun z => absurd hk (List.forall_mem_cons.mp (hl z)).1⟩
      all_goals unfold State.assignDo; simp only [hk]
      · exact h.pending
      · exact h.bell
      · intro x n i
        have := h.bridges x n i
        simpa only [State.ln, State.moveGroup, Fin.getElem_fin, vmap_get] using this
      · exact h.fuses
    · exact h.assignDo m hk

/-- The ASSIGNs of the last epoch take force (R250): none of them names queue group 0 in a state that meets `State.groupZero`. -/
theorem Keeps.takeMoves (h : Keeps s r) : Keeps s r.takeMoves :=
  .assignAll _ (h.trans ⟨rfl, rfl, id, id, fun x => ⟨x.1, by simp⟩⟩) fun z => (h.group z).2

theorem Keeps.assign (h : Keeps s r) (a : Applied) : Keeps s (r.assign a).1 := by
  unfold State.assign
  dsimp only
  repeat' split
  all_goals first
    | exact h
    | (refine ⟨h.pending, h.bell, h.bridges, h.fuses, fun z => ⟨(h.group z).1, fun m x => ?_⟩⟩
       rcases List.mem_append.mp x with x | x
       · exact (h.group z).2 m x
       · rw [List.mem_singleton.mp x]; simp_all)

theorem Keeps.effLoadTable (h : Keeps s r) (a : Applied) : Keeps s (Machine.effLoadTable a r).1 := h.loadTable _ _

theorem Keeps.effWindowArm (h : Keeps s r) (a : Applied) : Keeps s (Machine.effWindowArm a r).1 := h.armWindow _ _

theorem Keeps.effWindowDisarm (h : Keeps s r) (a : Applied) : Keeps s (Machine.effWindowDisarm a r).1 := h.disarmWindows _ _

theorem Keeps.effThermalQuery (h : Keeps s r) (snap : State) (a : Applied) : Keeps s (Machine.effThermalQuery snap a r).1 := by
  unfold Machine.effThermalQuery
  repeat' first
    | with_reducible assumption
    | with_reducible apply Keeps.done
    | with_reducible refine Keeps.pair (by assumption) ?_
    | split
    | dsimp only

theorem Keeps.effFuseRead (h : Keeps s r) (a : Applied) : Keeps s (Machine.effFuseRead a r).1 := h

theorem Keeps.effFuseProgramWord (h : Keeps s r) (a : Applied) : Keeps s (Machine.effFuseProgramWord a r).1 := by
  unfold Machine.effFuseProgramWord
  repeat' first
    | with_reducible assumption
    | with_reducible apply Keeps.fuseQueue
    | with_reducible apply Keeps.done
    | split
    | dsimp only

theorem Keeps.effLifecycleAdvance (h : Keeps s r) (a : Applied) : Keeps s (Machine.effLifecycleAdvance a r).1 := by
  unfold Machine.effLifecycleAdvance
  repeat' first
    | with_reducible assumption
    | with_reducible apply Keeps.fuseQueue
    | with_reducible apply Keeps.done
    | with_reducible refine Keeps.pair (by assumption) ?_
    | split

theorem Keeps.effKeyRoll (h : Keeps s r) (a : Applied) : Keeps s (Machine.effKeyRoll a r).1 := by
  unfold Machine.effKeyRoll
  repeat' first
    | with_reducible assumption
    | with_reducible apply Keeps.fuseQueue
    | with_reducible apply Keeps.done
    | split
    | dsimp only

theorem Keeps.clearTally (h : Keeps s r) (snap : State) (i : TallyIx) : Keeps s (State.clearTally snap r i) := by
  unfold State.clearTally
  repeat' first
    | with_reducible assumption
    | split
    | (refine Keeps.same (by assumption) ?_ ?_ ?_ ?_ ?_ ?_ <;> first | rfl | exact ⟨rfl, rfl⟩)

theorem Keeps.effTallySnapshot (h : Keeps s r) (snap : State) (a : Applied) : Keeps s (Machine.effTallySnapshot snap a r).1 := by
  unfold Machine.effTallySnapshot
  repeat' first
    | with_reducible assumption
    | with_reducible apply Keeps.trace
    | with_reducible apply Keeps.done
    | with_reducible apply Keeps.clearTally
    | with_reducible refine Keeps.foldl _ _ (fun _ _ _ => ?_) ?_
    | with_reducible refine Keeps.pair (by assumption) ?_
    | split
    | dsimp only

theorem Keeps.effTraceConsent (h : Keeps s r) (a : Applied) : Keeps s (Machine.effTraceConsent a r).1 := by
  unfold Machine.effTraceConsent
  repeat' first
    | with_reducible assumption
    | with_reducible apply Keeps.done
    | split
    | (refine Keeps.same (by assumption) ?_ ?_ ?_ ?_ ?_ ?_ <;> first | rfl | exact ⟨rfl, rfl⟩)
    | dsimp only

theorem Keeps.effLeaseRenew (h : Keeps s r) (a : Applied) : Keeps s (Machine.effLeaseRenew a r).1 := by
  unfold Machine.effLeaseRenew
  repeat' first
    | with_reducible assumption
    | with_reducible apply Keeps.done
    | split
    | (refine Keeps.same (by assumption) ?_ ?_ ?_ ?_ ?_ ?_ <;> first | rfl | exact ⟨rfl, rfl⟩)
    | dsimp only

theorem Keeps.effBench (h : Keeps s r) (on : Bool) (a : Applied) : Keeps s (Machine.effBench on a r).1 := by
  unfold Machine.effBench
  repeat' first
    | with_reducible assumption
    | with_reducible apply Keeps.done
    | split
    | (refine Keeps.same (by assumption) ?_ ?_ ?_ ?_ ?_ ?_ <;> first | rfl | exact ⟨rfl, rfl⟩)

theorem Keeps.effReopen (h : Keeps s r) (a : Applied) : Keeps s (Machine.effReopen a r).1 := h.reopenCommand _ _

/-- What any opcode does. -/
theorem Keeps.effectOf (h : Keeps s r) (snap : State) (o : Opcode) (a : Applied) : Keeps s (Machine.effectOf snap o a r).1 := by
  cases o
  · exact h.readBlock ..
  · exact h.writeBlock ..
  · exact h.commitBatten ..
  · exact h.effLaneStart ..
  · exact h.effLaneStop ..
  · exact h.effLaneSetSpeed ..
  · exact h.effLaneReverse ..
  · exact h.effLaneReseat ..
  · exact h.effLaneCalibrate ..
  · exact h.effLaneOffstateDiag ..
  · exact h.effLaneSelftest ..
  · exact h.effLaneClearLatch ..
  · exact h.effLoadTable ..
  · exact h.effWindowArm ..
  · exact h.effWindowDisarm ..
  · exact h.effThermalQuery ..
  · exact h.effFuseRead ..
  · exact h.effFuseProgramWord ..
  · exact h.effLifecycleAdvance ..
  · exact h
  · exact h.effKeyRoll ..
  · exact h.effTallySnapshot ..
  · exact h.effTraceConsent ..
  · exact h.effLeaseRenew ..
  · exact h.effBench ..
  · exact h.effBench ..
  · exact h.assign ..
  · exact h.effReopen ..

theorem Keeps.answer (h : Keeps s r) (a : Nat) (d : Word) : Keeps s (State.answer r a d) := by
  unfold State.answer
  repeat' first
    | with_reducible assumption
    | split
    | (refine Keeps.same (by assumption) ?_ ?_ ?_ ?_ ?_ ?_ <;> first | rfl | exact ⟨rfl, rfl⟩)

theorem Keeps.readLatch (h : Keeps s r) (page : Nat) (a : Nat) : Keeps s (State.readLatch r page a) := by
  unfold State.readLatch
  repeat' first
    | with_reducible assumption
    | with_reducible apply Keeps.setSel
    | with_reducible refine Keeps.pair (by assumption) ?_
    | split
    | (refine Keeps.same (by assumption) ?_ ?_ ?_ ?_ ?_ ?_ <;> first | rfl | exact ⟨rfl, rfl⟩)

theorem Keeps.hostRead (h : Keeps s r) (a : Nat) : Keeps s (State.hostRead r a).1 := by
  unfold State.hostRead
  repeat' first
    | with_reducible assumption
    | with_reducible apply Keeps.noObject
    | with_reducible apply Keeps.readLatch
    | with_reducible refine Keeps.pair (by assumption) ?_
    | split
    | dsimp only

theorem Keeps.doorbell (h : Keeps s r) (d : Word) : Keeps s (r.doorbell d).1 := by
  unfold State.doorbell
  dsimp only
  generalize hx : r.submit _ _ _ _ = x
  have a : Keeps s x.1 := hx ▸ h.submit ..
  exact a.same rfl rfl rfl ⟨rfl, rfl⟩ rfl rfl

theorem Keeps.cqPop (h : Keeps s r) (d : Word) : Keeps s (State.cqPop r d) := by
  unfold State.cqPop
  repeat' first
    | with_reducible assumption
    | with_reducible apply Keeps.noObject
    | split
    | (refine Keeps.same (by assumption) ?_ ?_ ?_ ?_ ?_ ?_ <;> first | rfl | exact ⟨rfl, rfl⟩)
    | dsimp only

theorem Keeps.evqPop (h : Keeps s r) (d : Word) : Keeps s (State.evqPop r d) := by
  unfold State.evqPop
  repeat' first
    | with_reducible assumption
    | split
    | (refine Keeps.same (by assumption) ?_ ?_ ?_ ?_ ?_ ?_ <;> first | rfl | exact ⟨rfl, rfl⟩)

theorem Keeps.fuseCmd (h : Keeps s r) (d : Word) : Keeps s (r.fuseCmd d) := by
  unfold State.fuseCmd
  split
  · exact h
  · rename_i o _
    have a := h.submitRegister (r.fuseDesc o)
    generalize r.submitRegister (r.fuseDesc o) = x at a ⊢
    dsimp only
    split <;> exact a.same rfl rfl rfl ⟨rfl, rfl⟩ rfl rfl

theorem Keeps.battenCommit (h : Keeps s r) (n : LaneIx) (d : Word) : Keeps s (r.battenCommit n d) := by
  unfold State.battenCommit
  split
  · exact h.noObject
  · split
    · exact h
    · dsimp only
      generalize hx : r.submitRegister _ = x
      have a : Keeps s x.1 := hx ▸ h.submitRegister _
      split <;> exact a.modLn _ _

theorem Keeps.plainWrite (h : Keeps s r) (page : Nat) (a : Nat) (d : Word) : Keeps s (State.plainWrite r page a d) := by
  unfold State.plainWrite
  repeat' first
    | with_reducible assumption
    | with_reducible apply Keeps.noObject
    | with_reducible apply Keeps.writeReg
    | with_reducible refine Keeps.pair (by assumption) ?_
    | split
    | dsimp only

theorem Keeps.hostWrite (h : Keeps s r) (page a : Nat) (d : Word) : Keeps s (State.hostWrite r page a d).1 := by
  unfold State.hostWrite
  repeat' first
    | with_reducible assumption
    | with_reducible apply Keeps.doorbell
    | with_reducible apply Keeps.cqPop
    | with_reducible apply Keeps.evqPop
    | with_reducible apply Keeps.fuseCmd
    | with_reducible apply Keeps.battenCommit
    | with_reducible apply Keeps.plainWrite
    | split
    | (refine Keeps.same (by assumption) ?_ ?_ ?_ ?_ ?_ ?_ <;> first | rfl | exact ⟨rfl, rfl⟩)

/-- One access of the host port. -/
theorem Keeps.serveFrame (h : Keeps s r) (x : HostAccess) : Keeps s (r.serveFrame x) := by
  unfold State.serveFrame
  have a : Keeps s { r with host.sdo := some r.host.response } := h.same rfl rfl rfl ⟨rfl, rfl⟩ rfl rfl
  generalize ({ r with host.sdo := some r.host.response } : State) = q at a ⊢
  cases x with
  | frame bits =>
    dsimp only
    split
    · exact a.same rfl rfl rfl ⟨rfl, rfl⟩ rfl rfl
    · refine Keeps.answer ?_ ..
      split
      · exact a.hostWrite ..
      · exact a.hostRead ..
  | write x d => exact (a.hostWrite ..).answer ..
  | read x => exact (a.hostRead ..).answer ..
  | register p x d => exact (a.hostWrite ..).answer ..
  | ofP0 p x d => exact a
  | abort => exact a

/-- One access, whichever door it comes through. -/
theorem Keeps.serve (h : Keeps s r) (x : HostAccess) : Keeps s (r.serve x) := by
  cases x with
  | frame bits => exact h.serveFrame (.frame bits)
  | write a d => exact h.serveFrame (.write a d)
  | read a =>
    unfold State.serve
    dsimp only
    split
    · exact h.serveFrame (.read a)
    · exact h
  | register p a d => exact h.serveFrame (.register p a d)
  | ofP0 p a d => exact h.writeReg false 0 r.q.sel[(0 : Pitch)] p.toNat a.toNat d
  | abort => exact h.same rfl rfl rfl ⟨rfl, rfl⟩ rfl rfl

/-- The host accesses of a boundary's CD17 cycle. -/
theorem Keeps.serveWaiting (h : Keeps s r) : Keeps s r.serveWaiting :=
  .foldl _ _ (fun _ _ k => k.serve _) (h.same rfl rfl rfl ⟨rfl, rfl⟩ rfl rfl)

/-- What waited for the commands of a boundary. -/
theorem Keeps.serveDue (h : Keeps s r) : Keeps s r.serveDue := by
  unfold State.serveDue State.eachTrk
  split
  · exact h
  · exact .serveWaiting (.foldl _ _ (fun _ _ k => k.wheelServe _) h)

theorem Keeps.takeConsents (h : Keeps s r) : Keeps s (State.takeConsents r) := by
  unfold State.takeConsents State.eachPitch
  repeat' first
    | with_reducible assumption
    | with_reducible apply Keeps.traceDev
    | with_reducible refine Keeps.foldl _ _ (fun _ _ _ => ?_) ?_
    | refine Keeps.foldl _ _ (fun _ _ _ => ?_) ?_
    | split
    | (refine Keeps.same (by assumption) ?_ ?_ ?_ ?_ ?_ ?_ <;> first | rfl | exact ⟨rfl, rfl⟩)

theorem Keeps.traceBell (h : Keeps s r) (code : Nat) : Keeps s (State.traceBell r code) := by
  unfold State.traceBell
  repeat' first
    | with_reducible assumption
    | with_reducible apply Keeps.traceDev
    | split

theorem Keeps.traceLost (h : Keeps s r) : Keeps s r.traceLost := by
  unfold State.traceLost State.eachPitch
  refine .foldl _ _ (fun r p k => ?_) h
  split
  · exact Keeps.same (k.traceDev 9 (some p) [r.obs.lostSince[p]]) rfl rfl rfl ⟨rfl, rfl⟩ rfl rfl
  · exact k

theorem Keeps.sourceActs (h : Keeps s r) (n : LaneIx) (i : Fin 5) (t : Ticks) : Keeps s (State.sourceActs r n i t) := by
  unfold State.sourceActs
  repeat' first
    | with_reducible assumption
    | with_reducible apply Keeps.onTask
    | with_reducible apply Keeps.tripBy
    | with_reducible apply Keeps.setLatch
    | with_reducible apply Keeps.countTrip
    | with_reducible apply Keeps.endOn
    | with_reducible apply Keeps.pinTripHold
    | with_reducible refine Keeps.pair (by assumption) ?_
    | split
    | dsimp only

theorem Keeps.convertLane (h : Keeps s r) (n : LaneIx) (raw : BitVec 12) : Keeps s (State.convertLane r n raw) := by
  unfold State.convertLane
  dsimp only
  repeat' first
    | with_reducible assumption
    | with_reducible apply Keeps.judgeRow
    | split
    | with_reducible refine Keeps.modLn ?_ _ _ (fun _ => rfl)

theorem Keeps.convertAin (h : Keeps s r) (m : AinIx) (code : BitVec 12) : Keeps s (State.convertAin r m code) := by
  unfold State.convertAin
  repeat' first
    | with_reducible assumption
    | with_reducible apply Keeps.count
    | with_reducible apply Keeps.eventFor
    | with_reducible refine Keeps.pair (by assumption) ?_
    | split
    | (refine Keeps.same (by assumption) ?_ ?_ ?_ ?_ ?_ ?_ <;> first | rfl | exact ⟨rfl, rfl⟩)
    | dsimp only

theorem Keeps.convertNtc (h : Keeps s r) (n : LaneIx) (adc : Fin 2) (code : BitVec 12) : Keeps s (State.convertNtc r n adc code) := by
  unfold State.convertNtc
  repeat' first
    | with_reducible assumption
    | with_reducible apply Keeps.modSn
    | with_reducible apply Keeps.count
    | split

theorem Keeps.ntcStale (h : Keeps s r) (adc : Fin 2) (b : Bool) : Keeps s (State.ntcStale r adc b) := by
  unfold State.ntcStale State.eachLane
  repeat' first
    | with_reducible assumption
    | refine Keeps.foldl _ _ (fun _ _ _ => ?_) ?_
    | with_reducible apply Keeps.drivePins
    | with_reducible apply Keeps.modSn
    | with_reducible refine Keeps.foldl _ _ (fun _ _ _ => ?_) ?_
    | split

theorem Keeps.judgePair (h : Keeps s r) (adc : Fin 2) (fail : Bool) : Keeps s (State.judgePair r adc fail) := by
  unfold State.judgePair
  repeat' first
    | with_reducible assumption
    | with_reducible apply Keeps.ntcStale
    | split
    | (refine Keeps.same (by assumption) ?_ ?_ ?_ ?_ ?_ ?_ <;> first | rfl | exact ⟨rfl, rfl⟩)
    | dsimp only

theorem Keeps.convertRotating (h : Keeps s r) (adc : Fin 2) (k : Nat) (code : BitVec 12) : Keeps s (State.convertRotating r adc k code) := by
  unfold State.convertRotating
  repeat' first
    | with_reducible assumption
    | with_reducible apply Keeps.convertNtc
    | with_reducible apply Keeps.judgePair
    | with_reducible refine Keeps.pair (by assumption) ?_
    | split
    | (refine Keeps.same (by assumption) ?_ ?_ ?_ ?_ ?_ ?_ <;> first | rfl | exact ⟨rfl, rfl⟩)
    | dsimp only

theorem Keeps.bulkEvents (h : Keeps s r) : Keeps s r.bulkEvents := by
  unfold State.bulkEvents State.eachLane
  dsimp only
  generalize hx : laneIxs.foldl _ r = x
  have a : Keeps s x := by
    rw [← hx]
    refine .foldl _ _ (fun r n k => ?_) h
    cases railOf n <;> (dsimp only; split <;> first | exact k.laneEvent .. | exact k)
  exact a.same rfl rfl rfl ⟨rfl, rfl⟩ rfl rfl

theorem Keeps.crossing (h : Keeps s r) (n : LaneIx) (t : Ticks) : Keeps s (r.crossing n t) :=
  .traceLane (.count (.modLn h _ _) ..) ..

theorem Keeps.enterRun (h : Keeps s r) (n : LaneIx) (t : Ticks) (act : Ticks) : Keeps s (State.enterRun r n t act) := by
  unfold State.enterRun
  repeat' first
    | with_reducible assumption
    | with_reducible refine Keeps.modLn ?_ _ _ (fun _ => rfl)
    | with_reducible apply Keeps.laneState
    | with_reducible apply Keeps.endStart
    | with_reducible apply Keeps.commutate

theorem Keeps.lapseAll (h : Keeps s r) (f : Cmd → Bool) : Keeps s (State.lapseAll r f) := by
  unfold State.lapseAll
  repeat' first
    | with_reducible assumption
    | with_reducible apply Keeps.lapse
    | with_reducible refine Keeps.foldl _ _ (fun _ _ _ => ?_) ?_

theorem Keeps.effectFor (h : Keeps s r) (snap : State) (c : Cmd) (a : Applied) : Keeps s (Machine.effectFor snap c a r).1 := by
  unfold Machine.effectFor
  cases opcodeOf (Desc.opcode c.desc) with
  | none => exact h
  | some o => exact h.effectOf ..

theorem Keeps.applyOne (snap : State) (x : State × List (Applied × Byte)) (y : Cmd × Nat) (h : Keeps s x.1) :
    Keeps s (Machine.applyOne snap x y).1 := by
  unfold Machine.applyOne
  refine Keeps.applyWith ?_ _ _ fun _ _ k => k.effectFor ..
  exact h.same rfl rfl rfl ⟨rfl, rfl⟩ rfl rfl

theorem Keeps.applyAll (snap : State) (l : List (Cmd × Nat)) (x : State × List (Applied × Byte)) (h : Keeps s x.1) :
    Keeps s (l.foldl (Machine.applyOne snap) x).1 := by
  induction l generalizing x with
  | nil => exact h
  | cons y l ih => exact ih _ (h.applyOne snap x y)

theorem Keeps.applyEpoch (h : Keeps s r) : Keeps s r.applyEpoch := by
  unfold State.applyEpoch
  dsimp only
  exact .foldl _ _ (fun _ _ k => k.ledgerWrite ..) (.applyAll _ _ _ (.applyAll _ _ _ h))

theorem Keeps.hostStop (h : Keeps s r) (p : Pitch) (all : Bool) (word4 : Word) : Keeps s (State.hostStop r p all word4) := by
  unfold State.hostStop State.eachLane
  repeat' first
    | with_reducible assumption
    | with_reducible apply Keeps.laneEvent
    | with_reducible apply Keeps.beginStop
    | with_reducible refine Keeps.foldl _ _ (fun _ _ _ => ?_) ?_
    | refine Keeps.foldl _ _ (fun _ _ _ => ?_) ?_
    | split
    | dsimp only

theorem Keeps.leaseTick (h : Keeps s r) (first : Bool) : Keeps s (State.leaseTick r first) := by
  unfold State.leaseTick
  repeat' first
    | with_reducible assumption
    | split
    | (refine Keeps.same (by assumption) ?_ ?_ ?_ ?_ ?_ ?_ <;> first | rfl | exact ⟨rfl, rfl⟩)

theorem Keeps.hostLost (h : Keeps s r) (p : Pitch) (word4 : Word) : Keeps s (State.hostLost r p word4) := by
  unfold State.hostLost
  repeat' first
    | with_reducible assumption
    | with_reducible apply Keeps.devEventSet
    | with_reducible apply Keeps.lapseAll
    | with_reducible apply Keeps.hostStop

theorem Keeps.takeHostPitch (h : Keeps s r) : Keeps s (State.takeHostPitch r) := by
  unfold State.takeHostPitch
  repeat' first
    | with_reducible assumption
    | with_reducible apply Keeps.hostLost
    | with_reducible refine Keeps.pair (by assumption) ?_
    | split
    | (refine Keeps.same (by assumption) ?_ ?_ ?_ ?_ ?_ ?_ <;> first | rfl | exact ⟨rfl, rfl⟩)
    | dsimp only

theorem Keeps.leaseEnds (h : Keeps s r) : Keeps s r.leaseEnds := by
  unfold State.leaseEnds
  dsimp only
  generalize hx : (r.host.oldLeases.filter _).foldl _ _ = x
  have a : Keeps s x := by
    rw [← hx]
    exact .foldl _ _ (fun _ _ k => (k.hostStop ..).devEventSet _) (h.same rfl rfl rfl ⟨rfl, rfl⟩ rfl rfl)
  split
  · have b := a.hostStop x.pit.hostPitch true 2
    generalize x.hostStop x.pit.hostPitch true 2 = y at b ⊢
    refine Keeps.devEventSet ?_ _
    exact b.same rfl rfl rfl ⟨rfl, rfl⟩ rfl rfl
  · exact a

theorem Keeps.takeHold (h : Keeps s r) : Keeps s (State.takeHold r) := by
  unfold State.takeHold State.eachLane
  repeat' first
    | with_reducible assumption
    | with_reducible refine Keeps.modLn ?_ _ _ (fun _ => rfl)
    | with_reducible apply Keeps.laneEvent
    | with_reducible refine Keeps.forceSafe ?_ _ _ _ _ (fun _ k => k.modLn _)
    | with_reducible refine Keeps.releaseSafe ?_ _ _ _ (fun _ k => by first | exact k | exact k.modLn _)
    | with_reducible refine Keeps.foldl _ _ (fun _ _ _ => ?_) ?_
    | refine Keeps.foldl _ _ (fun _ _ _ => ?_) ?_
    | with_reducible refine Keeps.pair (by assumption) ?_
    | split
    | (refine Keeps.same (by assumption) ?_ ?_ ?_ ?_ ?_ ?_ <;> first | rfl | exact ⟨rfl, rfl⟩)
    | dsimp only

theorem Keeps.fuseBoundary (h : Keeps s r) : Keeps s r.fuseBoundary := by
  unfold State.fuseBoundary
  split
  · exact h
  · split
    · exact h
    · rename_i run _ _
      dsimp only
      have a := h.fuseStop.fuseRefresh (r.fuseStop.fuse.run.getD run)
      generalize r.fuseStop.fuseRefresh (r.fuseStop.fuse.run.getD run) = x at a ⊢
      have b : Keeps s { x with fuse.run := none } := a.same rfl rfl rfl ⟨rfl, rfl⟩ rfl rfl
      split
      · exact .foldl _ _ (fun _ _ k => k.moveLane ..) (b.finishIn ..)
      · exact b.finishIn ..

theorem Keeps.sessionBoundary (h : Keeps s r) (jump : Bool) : Keeps s (State.sessionBoundary r jump) := by
  unfold State.sessionBoundary
  repeat' first
    | with_reducible assumption
    | with_reducible refine Keeps.pair (by assumption) ?_
    | split
    | (refine Keeps.same (by assumption) ?_ ?_ ?_ ?_ ?_ ?_ <;> first | rfl | exact ⟨rfl, rfl⟩)

theorem Keeps.openMarket (h : Keeps s r) : Keeps s (State.openMarket r) := by
  unfold State.openMarket
  repeat' first
    | with_reducible assumption
    | split
    | (refine Keeps.same (by assumption) ?_ ?_ ?_ ?_ ?_ ?_ <;> first | rfl | exact ⟨rfl, rfl⟩)

theorem Keeps.takeOwners (h : Keeps s r) : Keeps s r.takeOwners := h.consume.takeConsents.takeMoves

theorem Keeps.beforeCommands (h : Keeps s r) (jump first : Bool) : Keeps s (r.beforeCommands jump first) := by
  unfold State.beforeCommands
  dsimp only
  have a : Keeps s (r.eachLane fun s n => s.modLn n Lane.settle) :=
    .foldl _ _ (fun _ _ k => k.modLn _ _ Lane.settle_bridges) h
  have b := (a.heatBoundary.fuseBoundary).sessionBoundary jump
  generalize State.sessionBoundary _ jump = x at b ⊢
  have c : Keeps s (if jump = true then x.lapseAll fun _ => true else x) := by
    split
    · exact b.lapseAll _
    · exact b
  have d := (((c.reopenMarket).openMarket).leaseTick first).takeHostPitch
  generalize State.takeHostPitch _ = y at d ⊢
  refine .takeHold (.leaseEnds ?_)
  split
  · refine Keeps.hostLost ?_ ..
    exact d.same rfl rfl rfl ⟨rfl, rfl⟩ rfl rfl
  · exact d

theorem Keeps.atEpoch (h : Keeps s r) (tally : Vector Tally 64) : Keeps s (r.atEpoch tally) :=
  Keeps.applyEpoch (h.same rfl rfl rfl ⟨rfl, rfl⟩ rfl rfl)

theorem Keeps.epochBegins (h : Keeps s r) (t : Ticks) (jump first : Bool) : Keeps s (r.epochBegins t jump first) :=
  ((h.beforeCommands jump first).atEpoch _).lanesTick t

theorem Keeps.reseedDue (h : Keeps s r) : Keeps s r.reseedDue := by
  unfold State.reseedDue
  split
  · exact h.same rfl rfl rfl ⟨rfl, rfl⟩ rfl rfl
  · exact h

theorem Keeps.afterCommands (h : Keeps s r) (mw : Nat) : Keeps s (r.afterCommands mw) := by
  unfold State.afterCommands
  dsimp only
  have a := ((h.wsTryAll.powerBoundary mw).postCompletions).postEvents
  generalize ((r.wsTryAll.powerBoundary mw).postCompletions).postEvents = x at a ⊢
  have b := ((a.traceBell x.stateCode).traceLost).count 0x40 0 none
  generalize ((x.traceBell x.stateCode).traceLost).count 0x40 0 none = y at b ⊢
  exact .reseedDue (b.same rfl rfl rfl ⟨rfl, rfl⟩ rfl rfl)

/-- A boundary: its epoch and number in the bell, and nothing of what is kept is broken. -/
theorem State.boundary_spec (s : State) (e : DWord) (obs : BellObs) :
    (s.boundary e obs).pending = s.pending ∧
    (s.boundary e obs).bell = { s.bell with
      epoch := e, next := none, jump := false, bellNo := s.bell.bellNo + 1, seen := true,
      boundaryAt := (s.boundary e obs).bell.boundaryAt
      bellEvent := (s.boundary e obs).bell.bellEvent, fresh := (s.boundary e obs).bell.fresh } ∧
    (s.bridgesSound → (s.boundary e obs).bridgesSound) ∧ (s.fusesCanonical → (s.boundary e obs).fusesCanonical) ∧
    (s.groupZero → (s.boundary e obs).groupZero) := by
  unfold State.boundary
  dsimp only
  have a := ((Keeps.refl s).lanesBefore obs.at_).bulkEvents
  generalize (s.lanesBefore obs.at_).bulkEvents = x at a ⊢
  have k := ((((Keeps.refl { x with
    bell := { x.bell with
      epoch := e, next := none, jump := false, bellNo := x.bell.bellNo + 1, seen := true, boundaryAt := x.now }
    ring.counted := Vector.replicate 8 0
    q := { x.q with orderNext := Vector.replicate 8 0 }
    obs := { x.obs with cleared := [], restarted := [] } }).takeOwners).epochBegins obs.at_ x.bell.jump (!x.bell.seen)).afterCommands
      obs.drawMw)
  generalize State.afterCommands _ obs.drawMw = y at k ⊢
  refine ⟨k.pending.trans a.pending, ?_, fun h => k.bridges (a.bridges h), fun h => k.fuses (a.fuses h), fun h => k.group (a.group h)⟩
  rw [k.bell, a.bell]

end

end Sys2Proof.Machine
end

