-- ==== Sys2Proof/Tests/Slice0.lean ====
section
/-! SUPPORT. Tests of single steps and checks, each with its source in the spec, and for every statement with hypotheses a state and
operands that meet them. -/

namespace Sys2Proof.Tests

-- One proof at a time: proofs elaborated side by side would wait for each other, each with its own stack.
set_option Elab.async false

open Sys2Proof Sys2Proof.Machine

/-! ### Small states and operands -/

/-- A 48-bit slot header (chapter 07, *Slot header*). -/
def header (dest pitch type len low : Nat) : BitVec 48 :=
  BitVec.ofNat 48 (dest * 2 ^ 42 + pitch * 2 ^ 39 + type * 2 ^ 35 + len * 2 ^ 29 + low)

/-- A frame whose CRC holds, for the node at ring address 6. -/
def frame (type : Nat) (payload : List Byte) : Frame := sealFrame (header 5 0 type payload.length 0) (payloadOf payload) 0

/-- The same frame with one bit of its CRC off. -/
def badFrame (type : Nat) (payload : List Byte) : Frame := { frame type payload with crc := (frame type payload).crc ^^^ 1 }

/-- A BELL frame whose CRC holds. -/
def bell (payload : BitVec 64) : BellFrame :=
  { header := 0x000900000000, payload := payload
    crc := crc32 (bytesOf 6 0x000900000000 ++ bytesOf 8 payload.toNat) }

/-- A descriptor of an opcode with FLAGS and words 3 and 4. -/
def desc (op flags : Byte) (w3 w4 : Word) : Desc := { w0 := op ++ flags, w1 := 0, w2 := 0xFFFF, w3 := w3, w4 := w4, w5 := 0, w6 := 0, w7 := 0 }

/-- A command of P0 through the host door's queue 0. -/
def cmd (op : Opcode) (flags : Byte) (w3 w4 : Word) : Cmd :=
  { pitch := 0, door := .host, queue := 0, epoch := 0, desc := desc op.code flags w3 w4 }

/-- P0 owns every lane, tracker, WIN pin, input and tally. -/
def allOwned : Owners :=
  { lane := Vector.replicate 6 (some 0), wheel := Vector.replicate 4 (some 0), win := Vector.replicate 4 (some 0)
    ain := Vector.replicate 8 (some 0), tally := Vector.replicate 64 (some 0) }

/-- A joined, addressed node with its clocks, supplies and lanes good, owned by P0. -/
def joined : State :=
  { now := 1000000
    dev := { power := .joined }
    pwr := { lineOk := true, vgdOk := true, thComputed := true, holdTime := 400 }
    clk := { pllLock := true, xtalOk := true, rootOk := true }
    ring := { inserted := true, aOpen := true, bOpen := true, addrValid := true, ringAddr := 6, carrierA := true, carrierB := true }
    pit := { own := allOwned }
    host := { leaseLen := 10, leaseLeft := 10, leaseOn := true }
    fuse := { cfg100 := 0x3F, lifecycle := .field, keysDone := true } }

/-- The joined node with every lane alike. -/
def lanes (l : Lane) : State := { joined with lane := Vector.replicate 6 l }

/-- The joined node with every tracker alike. -/
def trackers (x : Tracker) : State := { joined with trk := Vector.replicate 4 x }

/-- A settled node that may insert. -/
def candidate : State :=
  { dev := { power := .settled }, pwr := { lineOk := true, insertEn := true }
    clk := { pllLock := true, xtalOk := true, rootOk := true }
    ring := { carrierA := true, carrierB := true } }

/-- A lane in a state of its commutation unit. -/
def laneIn (st : LaneState) : Lane := { com := { state := st } }

/-! ### The checks of a command's operands -/

theorem test_wf_accepts : (Instr.laneStart (cmd .laneStart 0 0x0640 0)).wf = true ∧ (Instr.keySlotSelect [63]).wf = true ∧
    (Instr.enumRoll 1 5 (frame 2 [1, 4])).wf = true := by decide +kernel
theorem test_wf_slot_number : (Instr.keySlotSelect [64]).flaw = some .slotNumber := by decide +kernel
theorem test_wf_power_class : (Instr.insertGrant 1 (frame 3 [3, 0, 0, 0, 0, 0, 0, 0, 0, 4])).flaw = some .powerClass := by decide +kernel
theorem test_wf_frame_type : (Instr.foldFrame 1 (frame 3 [1])).flaw = some .frameType := by decide +kernel
theorem test_wf_frame_kind : (Instr.insertRefuse 1 5 (frame 3 [3])).flaw = some .frameKind := by decide +kernel
theorem test_wf_island_flag : (Instr.islandBellFrame 5 (bell 0x0000000500000000) 0).flaw = some .islandFlag := by decide +kernel
theorem test_wf_opcode : (Instr.laneStart (cmd .laneStop 0 0 0)).flaw = some .opcode := by decide +kernel
theorem test_wf_operation : (Instr.traceConsentRevoke (cmd .traceConsent 0 0x8000 0)).flaw = some .operation := by decide +kernel
theorem test_wf_fuse_guard : (Instr.fuseCmdRead 0 0xA502).flaw = some .fuseGuard := by decide +kernel
theorem test_wf_limit_address : (Instr.thermalLimitWrite 4 0x34 0).flaw = some .limitAddress := by decide +kernel
theorem test_wf_sample_sum : (Instr.offsetMeasured 0 262081).flaw = some .sampleSum := by decide +kernel
theorem test_wf_both_limits : (Instr.bulkWindowChange .a true true).flaw = some .bothLimits := by decide +kernel

/-! ### For each statement with hypotheses, a state and operands that meet them -/

theorem test_witness_StepRunsFrontCommand : State.reset.pending = [] := by decide +kernel

/-- 279 and 237 cycles are the first counts outside 256 by more than 8 percent (R94). -/
theorem test_witness_DeviceResetsKeepOnlyCauseAndHoldCap :
    let w : ClockWindows := ⟨237, 279, 20000, 20000⟩
    joined.alive = true ∧ joined.clk.rootOk = true ∧ (25600 < 92 * w.root1 ∨ 108 * w.root1 < 25600) ∧
    (25600 < 92 * w.root2 ∨ 108 * w.root2 < 25600) ∧ ¬ ((w.root1 < 218 ∨ 294 < w.root1) ∧ (w.root2 < 218 ∨ 294 < w.root2)) ∧
    joined.atSettled = true ∧ ({ power := .settled, challenge := true } : Device).challenge = true := by decide +kernel

theorem test_witness_LadderClimbsAndSenseFixesConfiguration :
    (State.reset.dev.power = Power.dark ∧ State.reset.dev.resetWait = false ∧ State.reset.dev.resetAt + 3200 ≤ 3200 ∧
      3199 < State.reset.dev.resetAt + 3200) ∧
    (let d : Device := { resetWait := true, resetAt := 7 }; d.resetWait = true ∧ d.resetAt + 3200 ≤ 3207 ∧ 3206 < d.resetAt + 3200) ∧
    ({ dev := { power := .lit } } : State).dev.power = Power.lit ∧ ({ dev := { power := .sensed } } : State).dev.power = Power.sensed ∧
    candidate.atSettled = true ∧ candidate.fuse.keysDone = false := by decide +kernel

/-- A run of 40 identical bits, a window of 794 ones and a pool of 1023 bits stand just before what R264 and R265 state. -/
theorem test_witness_SeedingAndHealthTestsDriveSeeded :
    let run : Entropy := { rctBit := true, rctRun := 40 }
    let window : Entropy := { rctBit := false, rctRun := 1, aptBit := true, aptSeen := 1023, aptSame := 794 }
    let pool : Entropy := { startup := 4096, rctBit := false, rctRun := 1, aptBit := true, aptSeen := 5, aptSame := 3
                            pool := List.replicate 1023 true }
    let s (e : Entropy) : State := { candidate with pit := { entropy := e } }
    (candidate.atSettled = true ∧ candidate.pit.seededOnce = false ∧ candidate.dev.settledAt + 9600000 ≤ 9600000 ∧
      9599999 < candidate.dev.settledAt + 9600000 ∧
      ({ seededOnce := true } : Pitches).seededOnce = true) ∧ (run.rctBit = true ∧ run.rctRun = 40) ∧
    (1 ≤ window.aptSeen ∧ window.aptSeen < 1024 ∧ window.aptBit = true ∧ window.aptSame = 794) ∧
    (∃ e, (s pool).pit.entropy.test true = (e, false, false) ∧ 4096 ≤ e.startup ∧ e.pool.length = 1023) ∧
    (s pool).pit.drbgHealthy = false ∧ ({ candidate with pit := { drbgHealthy := true } } : State).pit.drbgHealthy = true :=
  by
  refine ⟨?_, ?_, ?_, ⟨_, rfl, ?_⟩, ?_, ?_⟩ <;> decide +kernel

theorem test_witness_LinePowerWatchersReport :
    joined.alive = true ∧ 8 ≤ ({ overRun := 8 } : PowerLine).overRun ∧ 8 ≤ ({ underRun := 8 } : PowerLine).underRun ∧
    (joined.ln 5).latch.safeLine = false := by decide +kernel

/-- t_h of exactly 40 ms holds up; 39.9 ms does not (R67). -/
theorem test_witness_LineLossStopsOrClosesEveryLane :
    let quick : State := { joined with pwr := { joined.pwr with holdTime := 399 } }
    (joined.pwr.lineOk = true ∧ joined.holdsUp = true) ∧ ((lanes (laneIn .run)).ln 0).running = true ∧
    (({ gate := { waiting := true } } : Lane).running = false ∧ ({ gate := { waiting := true } } : Lane).gate.waiting = true) ∧
    ((joined.ln 0).running = false ∧ (joined.ln 0).gate.waiting = false) ∧
    (quick.pwr.lineOk = true ∧ quick.holdsUp = false ∧ quick.atJoined = true ∧ bit quick.dev.arisen 1 = false ∧ quick.dev.arisen = 0) ∧
    (candidate.pwr.lineOk = true ∧ candidate.holdsUp = false ∧ candidate.atJoined = false) := by decide +kernel

theorem test_witness_HoldupAbortAndOverVoltageStopLanes :
    ({ orderly := true } : PowerLine).orderly = true ∧ joined.alive = true ∧ ((lanes (laneIn .stopping)).ln 0).com.state = .stopping ∧
    (lanes (laneIn .stopping)).laneOwner 0 = some 0 ∧ ((lanes (laneIn .run)).ln 0).running = true ∧
    ((lanes (laneIn .run)).ln 0).latch.latched = false := by decide +kernel

/-- A GRANT names its serial in bytes 1 to 8, the class in 9 and the epoch in 10 to 13: 2 and 16 bells ahead (R219). -/
theorem test_witness_InsertHandshakeTakesItsSteps :
    let good (f : Frame) (kind : Byte) : Prop :=
      frameOk f = true ∧ frameNobody f = false ∧ (Frame.type f).toNat = 3 ∧ f.byte 0 = kind
    let grant (e : Byte) : Frame := frame 3 ([3] ++ bytesOf 8 candidate.serial.toNat ++ [2, 0, 0, 0, e])
    let beyond : State := { candidate with ring := { candidate.ring with beyondFold := true } }
    let fold : State := { joined with ring := { joined.ring with folded := true, foldOffer := some 34 } }
    (good (frame 3 [1]) 1 ∧ candidate.ring.inserted = false ∧ candidate.candidate = true ∧ candidate.ring.answered = none ∧
      candidate.ring.grant = none ∧ candidate.ring.islandCycle = false ∧ candidate.ring.carrierB = true ∧
      Frame.resp (frame 3 [1]) = false) ∧
    ({ candidate with ring := { candidate.ring with islandCycle := true } } : State).ring.islandCycle = true ∧
    (beyond.candidate = true ∧ beyond.ring.beyondFold = true) ∧
    (let back := sealFrame (header 5 0 3 14 0x08000000) (payloadOf [2]) 0;
      candidate.ring.beyondFold = false ∧ Frame.resp back = true ∧ frameOk back = true) ∧
    (fold.ring.inserted = true ∧ fold.ring.folded = true ∧ fold.ring.foldOffer = some 34 ∧ (28000 : Nat) ≤ 28000) ∧
    (good (grant 2) 3 ∧ (grant 2).field 1 8 = candidate.serial.toNat ∧
      2 ≤ (BitVec.ofNat 32 ((grant 2).field 10 4) - candidate.bell.latest).toNat ∧
      (BitVec.ofNat 32 ((grant 16).field 10 4) - candidate.bell.latest).toNat ≤ 16) ∧
    (let refuse := frame 3 ([4] ++ bytesOf 8 candidate.serial.toNat);
      good refuse 4 ∧ refuse.field 1 8 = candidate.serial.toNat) ∧
    ({ holdoff := some 0 } : RingPort).holdoff = some 0 ∧
    (({ answered := some 8 } : RingPort).answered = some 8 ∧ ({ answered := some 8 } : RingPort).grant = none) ∧
    ({ candidate with ring := {} } : State).ring.carrierB = false := by decide +kernel

theorem test_witness_FlashingOpensAndDeviceJoins :
    let g : Grant := ⟨2, candidate.bell.latest⟩
    let s (a beyond : Bool) : State :=
      { candidate with ring := { candidate.ring with grant := some g, aOpen := a, beyondFold := beyond } }
    ((s false false).ring.grant = some g ∧ (s false false).candidate = true ∧ (s false false).ring.aOpen = false ∧
      (s false false).bell.latest = g.epoch ∧ (s false false).ring.beyondFold = false) ∧
    ((s false true).candidate = true ∧ (s false true).bell.latest = g.epoch ∧ (s false true).ring.beyondFold = true) ∧
    ((s true false).ring.grant = some g ∧ (s true false).candidate = true ∧ (s true false).ring.aOpen = true) ∧
    ({ s true false with pwr := {} } : State).candidate = false := by decide +kernel

theorem test_witness_FoldAndForwardFollowTheLink :
    let cut : State := { joined with ring := { joined.ring with carrierB := false } }
    let fold (b : Bool) : State :=
      { joined with ring := { joined.ring with folded := true, carrierB := b, unfoldAt := some joined.bell.latest } }
    (cut.ring.inserted = true ∧ cut.ring.folded = false ∧ cut.ring.carrierB = false) ∧
    (joined.addressed (frame 4 [1, 0, 0, 0, 9]) = true ∧ (Frame.type (frame 4 [1, 0, 0, 0, 9])).toNat = 4 ∧
      frameOk (frame 4 [1, 0, 0, 0, 9]) = true) ∧
    ((fold true).ring.folded = true ∧ (fold true).ring.unfoldAt = some (fold true).bell.latest ∧ (fold true).ring.carrierB = true) ∧
    (fold false).ring.carrierB = false ∧ (joined.ring.carrierA = true ∧ joined.ring.carrierB = true) ∧ joined.atSettled = true := by
  decide +kernel

/-- Hop counts 63 and 64 lie on either side of R232's bound. -/
theorem test_witness_SetDelayWritesBellDelay :
    let roll (f : Frame) : Prop := frameOk f = true ∧ frameNobody f = false ∧ (Frame.type f).toNat = 2 ∧ f.byte 0 = 1
    (joined.ring.inserted = true ∧ roll (frame 2 [1, 63, 0, 1]) ∧ ((frame 2 [1, 63, 0, 1]).byte 1).toNat < 64) ∧
    (roll (frame 2 [1, 64, 0, 1]) ∧ 64 ≤ ((frame 2 [1, 64, 0, 1]).byte 1).toNat) ∧
    (let f := frame 2 [2, 0, 0x07, 0x58];
      joined.addressed f = true ∧ frameOk f = true ∧ (Frame.type f).toNat = 2 ∧ f.byte 0 = 2) := by decide +kernel

theorem test_witness_BellsReceivedAwaitTheirBoundary :
    let good (f : BellFrame) : Prop := f.crc = crc32 (bytesOf 6 f.header.toNat ++ bytesOf 8 f.payload.toNat)
    let ridge : State := { joined with bell := { ridge := true } }
    (joined.atSettled = true ∧ good (bell 0x0000000700020001) ∧ bit (bell 0x0000000700020001).payload 24 = false) ∧
    (let f : BellFrame := { bell 0x0000000700020001 with crc := 0 }; ¬ good f) ∧
    (good (bell 0x0000000701050001) ∧ bit (bell 0x0000000701050001).payload 24 = true ∧ joined.bell.ridge = false ∧
      ((bell 0x0000000701050001).payload.extractLsb' 16 8).toNat < ridge.ring.ringAddr.toNat) ∧
    (let s : State := { joined with bell := { flyRun := 4 } };
      s.ring.inserted = true ∧ s.bell.ridge = false ∧ s.bell.flyRun = 4 ∧ s.bell.next = none) ∧
    (ridge.bell.ridge = true ∧ ridge.bell.next = none) := by decide +kernel

theorem test_witness_ClockReferencesSwitchAndFail :
    let s (ring xtal : Bool) : State := { joined with clk := { joined.clk with refRing := ring, xtalOk := xtal, syntonyRun := 8 } }
    ((s false true).atSettled = true ∧ (s false true).boundaryOpen (sameCycle 4) = false ∧
      ({ s true true with pending := [.bellBoundary ⟨4, 0⟩] } : State).boundaryOpen (sameCycle 4) = true) ∧
    ((s false true).atSettled = true ∧ (s false true).clk.syntonyEn = true ∧ 8 ≤ (s false true).clk.syntonyRun) ∧
    (s true false).clk.xtalOk = false ∧ ((s false true).clk.refRing = false ∧ (s false true).clk.xtalOk = true) ∧
    ((s true true).clk.refRing = true ∧ (s true true).clk.xtalOk = true) ∧
    ((s true false).clk.refRing = true ∧ (s true false).clk.xtalOk = false ∧ bit (0 : Word) 0 = false) ∧
    bit (1 : Word) 0 = true ∧ joined.alive = true := by decide +kernel

/-- 217 and 295 cycles are the first counts outside 256 by more than 15 percent, 18.4 and 21.6 MHz the crystal's bounds (R91, R93). -/
theorem test_witness_RootFailureActsByLanePolicy :
    let w : ClockWindows := ⟨217, 295, 18400, 21600⟩
    let failed : State := { joined with clk := {} }
    let run : Lane := { laneIn .run with car := { policy := 1 } }
    (joined.clk.rootOk = true ∧ joined.alive = true ∧ (w.root1 < 218 ∨ 294 < w.root1) ∧ (w.root2 < 218 ∨ 294 < w.root2) ∧
      joined.clk.xtalOk = true ∧ (18400 ≤ w.xtal1 ∧ w.xtal1 ≤ 21600) ∧ (18400 ≤ w.xtal2 ∧ w.xtal2 ≤ 21600)) ∧
    (joined.safeLaneAssigned = true ∧ joined.atJoined = true ∧ joined.dev.arisen = 0) ∧ (lanes run).safeLaneAssigned = false ∧
    runThroughPolicy (joined.ln 0).car.policy = false ∧
    (runThroughPolicy run.car.policy = true ∧ run.running = true ∧ run.gate.waiting = false) ∧
    (failed.atSettled = true ∧ failed.clk.rootOk = false ∧ (failed.ln 0).latch.safeClock = false) := by decide +kernel

theorem test_witness_BoundariesApplyAndPostInOrder :
    let s : State := { joined with bell := { seen := true, next := some (9, .head) } }
    let fly : State := { joined with bell := { seen := true, flyRun := 3 } }
    (s.bell.next = some (9, .head) ∧ s.atJoined = true) ∧
    (fly.atJoined = true ∧ fly.bell.seen = true ∧ fly.bell.next = none ∧ fly.bell.flyRun < 4 ∧ fly.bell.ridge = false) ∧
    (candidate.atSettled = true ∧ candidate.atJoined = false ∧ candidate.bell.ridge = false) ∧
    (({ joined with pending := [.hostLoss, .laneStop (cmd .laneStop 0 1 0)] } : State).commandsWait = true ∧
      ({ joined with pending := [.bellBoundary ⟨4, 0⟩, .laneStop (cmd .laneStop 0 1 0)] } : State).commandsWait = false ∧
      ∀ n : TrkIx, (joined.tk n).waiting = []) ∧
    (numbered [cmd .laneStart 0 0 0])[0]? = some (cmd .laneStart 0 0 0, 0) ∧
    (let e : Entry := ⟨5, 0, 0, 0, 0, 0, 0, 0⟩;
      e.w0 ≠ word ((0 : BitVec 7).toNat * 512 + (0 : BitVec 9).toNat)) := by decide +kernel

theorem test_witness_LeaseAndSessionExpireOnce :
    let s : State := { lanes (laneIn .run) with host := { leaseOn := true, leaseLeft := 1, oldLeases := [⟨3, 2⟩] } }
    let x : Session := { key := 1, since := 0 }
    let old : State := { joined with
      bell := { bellNo := 2147483648 }, pit := { joined.pit with session := Vector.replicate 8 (some x) } }
    (s.host.leaseOn = true ∧ s.host.leaseLeft ≤ 1 ∧ s.host.leaseOut = false) ∧
    (s.laneOwner 0 = some s.pit.hostPitch ∧ (s.ln 0).running = true) ∧
    (let u : State := { s with pit := { s.pit with hostPitch := 1 } };
      u.laneOwner 0 ≠ some u.pit.hostPitch ∧ ∀ o ∈ u.host.oldLeases, u.laneOwner 0 = some o.pitch → 1 < o.left) ∧
    (old.pit.session[(0 : Pitch)] = some x ∧ x.since + 2147483648 ≤ old.bell.bellNo) := by decide +kernel

theorem test_witness_RequestSlotsAreTakenAndAnswered :
    let r : Reply := { slot := 4, frame := frame 5 [] }
    let s : State := { joined with ring := { joined.ring with replies := [r] } }
    (joined.ring.inserted = true ∧ joined.addressed (sealFrame (header 9 0 5 0 0) (payloadOf []) 0) = false) ∧
    (joined.addressed (badFrame 5 []) = true ∧ frameOk (badFrame 5 []) = false) ∧
    (joined.addressed (frame 5 []) = true ∧ frameOk (frame 5 []) = true ∧ 5 ≤ (Frame.type (frame 5 [])).toNat) ∧
    (s.ring.replies.find? fun r => r.slot == 4) = some r ∧ (joined.ring.replies.find? fun r => r.slot == 4) = none ∧
    (Frame.type (frame 6 [])).toNat = 6 ∧ (Frame.type (frame 8 [])).toNat = 8 ∧ (Frame.type (frame 4 [])).toNat = 4 ∧
    ((Frame.type (frame 2 [2])).toNat = 2 ∧ (frame 2 [2]).byte 0 = 2) := by decide +kernel

/-- A pitch in session, within and at its ring frontage of 2. -/
def inSession (counted : Nat) : State :=
  { joined with
    pit := { joined.pit with session := Vector.replicate 8 (some { key := 0, since := 0 }) }
    ring := { joined.ring with counted := Vector.replicate 8 counted } }

theorem test_witness_RefusedSubmissionsHoldNothing :
    let s := inSession 1
    let d := desc Opcode.readBlock.code 0 0 0
    (s.takesSlots = true ∧ (s.sessionOf 0).isSome = true ∧ s.ring.counted[(0 : Pitch)] < s.pit.front.ring[(0 : Pitch)]) ∧
    ((s.judge301 0 0 d).1 = stOk ∧ (s.judge301 0 4 d).1 = stNoObject) ∧
    (inSession 2).pit.front.ring[(0 : Pitch)] ≤ (inSession 2).ring.counted[(0 : Pitch)] ∧
    (joined.takesSlots = true ∧ joined.sessionOf 0 = none) ∧
    ({ joined with ring := { joined.ring with islandCycle := true } } : State).takesSlots = false ∧
    (joined.hostUp = true ∧ joined.boundaryOpen (sameCycle 4) = false) := by decide +kernel

theorem test_witness_DoorbellAndCollectionAnswer :
    let s := inSession 1
    (joined.hostUp = true ∧ joined.boundaryOpen (sameCycle 4) = false) ∧
    (s.takesSlots = true ∧ (s.sessionOf 0).isSome = true ∧ s.ring.counted[(0 : Pitch)] < s.pit.front.ring[(0 : Pitch)] ∧
      s.ownsQueue 0 3 = true) := by decide +kernel

/-- A seeded node with a DRBG instance and key slot 0 active in every pitch. -/
def seededNode : State :=
  { joined with
    dev := { joined.dev with power := .seeded }
    pit := { joined.pit with drbg := some { key := 0, v := 0 } }
    fuse := { joined.fuse with keyActive := Vector.replicate 8 (some 0) } }

/-- The open key of P0 at that node. -/
def openKey0 : BitVec 256 := openKey (slotKey seededNode.fuse.image 0 0) seededNode.serial 0 0

/-- A SESSION request under it (LEN 18, OP 0x50). -/
def sessionFrame : Frame :=
  let h := header 5 0 6 18 0
  let p := payloadOf [0x50]
  sealFrame h p (sessionTag openKey0 seededNode.bell.epoch 1 false h p.toList)

/-- A frame of P0 in session under the key 0, in slot 1, whose tag holds. -/
def sealedFrame (type len : Nat) (payload : List Byte) : Frame :=
  let h := header 5 0 type len 0
  let p := payloadOf payload
  sealFrame h p (gcmFrameTag 0 (ringIv 0 1 false 0) h p.toList)

theorem frameOk_sealFrame (h : BitVec 48) (p : Vector Byte 40) (t : BitVec 64) : frameOk (sealFrame h p t) = true := by
  simp [frameOk, sealFrame]

theorem test_witness_SessionAndTraceGrantAnswered_open :
    seededNode.addressed sessionFrame = true ∧ (Frame.type sessionFrame).toNat = 6 ∧ frameOk sessionFrame = true ∧
    seededNode.atSeeded = true ∧
    seededNode.openKeyOf (Frame.pitch sessionFrame) = some (0, slotKey seededNode.fuse.image 0 0, openKey0) ∧
    seededNode.pit.drbg = some { key := 0, v := 0 } ∧
    sessionFrame.tag = sessionTag openKey0 seededNode.bell.epoch 1 false sessionFrame.header sessionFrame.payload.toList ∧
    seededNode.ring.counted[Frame.pitch sessionFrame] < seededNode.pit.front.ring[Frame.pitch sessionFrame] ∧
    Frame.len sessionFrame = 18 ∧ sessionFrame.payload.toList.getD 0 0 = 0x50 ∧ sessionFrame.payload.toList.getD 17 0 = 0 := by
  have hp : Frame.pitch sessionFrame = 0 := by decide +kernel
  refine ⟨?_, ?_, frameOk_sealFrame .., ?_, by rw [hp]; rfl, rfl, rfl, ?_, ?_, ?_, ?_⟩ <;> decide +kernel

/-- A SUBMIT of LEN 18 (0xE7 is 0x01 under the keystream), a COLLECT of LEN 3 (0xE4 is 0x02) and a TRACE-GRANT. -/
theorem test_witness_SessionAndTraceGrantAnswered_sealed :
    let s := inSession 1
    let opens (f : Frame) : Prop := s.addressed f = true ∧ s.sessionOf (Frame.pitch f) = some { key := 0, since := 0 } ∧
      s.ring.counted[Frame.pitch f] < s.pit.front.ring[Frame.pitch f]
    (∀ type len : Nat, ∀ payload : List Byte, frameOk (sealedFrame type len payload) = true ∧
      (sealedFrame type len payload).tag =
        gcmFrameTag 0 (ringIv s.bell.epoch 1 false 0) (sealedFrame type len payload).header (sealedFrame type len payload).payload.toList) ∧
    (opens (sealedFrame 7 18 [0xE7]) ∧ (Frame.type (sealedFrame 7 18 [0xE7])).toNat = 7 ∧ Frame.seq (sealedFrame 7 18 [0xE7]) = 0 ∧
      Frame.len (sealedFrame 7 18 [0xE7]) = 18) ∧
    (opens (sealedFrame 7 3 [0xE4]) ∧ (Frame.type (sealedFrame 7 3 [0xE4])).toNat = 7 ∧ Frame.seq (sealedFrame 7 3 [0xE4]) = 0 ∧
      Frame.len (sealedFrame 7 3 [0xE4]) = 3) ∧
    (opens (sealedFrame 8 4 []) ∧ (Frame.type (sealedFrame 8 4 [])).toNat = 8 ∧ Frame.seq (sealedFrame 8 4 []) = 0) := by
  refine ⟨fun _ _ _ => ⟨frameOk_sealFrame .., rfl⟩, ?_, ?_, ?_⟩ <;> decide +kernel

theorem test_witness_SessionAndTraceGrantAnswered_plain :
    let text (f : Frame) : List Byte := gcmCrypt (keyBytes 0) (ringIv 0 1 false 0) f.payload.toList
    (text (sealedFrame 7 18 [0xE7])).getD 0 0 = 1 ∧ (text (sealedFrame 7 3 [0xE4])).getD 0 0 = 2 := by decide +kernel

theorem test_witness_HostFramesReachRegisters :
    let byte (x : DWord) (k : Nat) : Byte := (x >>> k).setWidth 8
    let crcHolds (x : DWord) : Prop := crc8 [byte x 24, byte x 16, byte x 8] = byte x 0
    let frameOf (b : BitVec 24) : DWord := b ++ crc8 [(b >>> 16).setWidth 8, (b >>> 8).setWidth 8, b.setWidth 8]
    let busy : State := { joined with pending := [.bellBoundary ⟨4, 0⟩] }
    let low : State := { joined with host := { joined.host with rstLow := true } }
    (joined.hostUp = true ∧ joined.boundaryOpen (sameCycle 4) = false ∧ joined.host.waiting = []) ∧
    ¬ crcHolds (frameOf 0x800001 ^^^ 1) ∧ (crcHolds (frameOf 0x800001) ∧ (frameOf 0x800001).msb = true) ∧
    (crcHolds (frameOf 0x000000) ∧ (frameOf 0x000000).msb = false) ∧
    ((0x00 : BitVec 7) ≠ 0x7F ∧ ¬ (joined.host.pageSel = 4 ∧ ((0x00 : BitVec 7) = 0x20 ∨ (0x00 : BitVec 7) = 0x10 ∨ (0x00 : BitVec 7) = 0x38)) ∧
      ¬ (joined.host.pageSel = 14 ∧ (0x00 : BitVec 7) = 0x03) ∧
      ¬ (5 ≤ joined.host.pageSel.toNat ∧ joined.host.pageSel.toNat < 11 ∧ (0x00 : BitVec 7) = 0x09)) ∧
    (busy.hostUp = true ∧ busy.boundaryOpen (sameCycle 4) = true ∧ busy.boundaryOpen (sameCycle 6) = false) ∧
    (low.host.rstLow = true ∧ low.atSettled = true ∧ low.hostUp = false) ∧
    (let kept : State := { joined with host := { joined.host with waiting := [.abort] } };
      kept.hostUp = true ∧ kept.host.waiting ≠ []) := by decide +kernel

theorem test_witness_LatchedReadsGiveOneValue :
    let s (page : BitVec 4) : State := { joined with host := { joined.host with pageSel := page } }
    let ready (s : State) (page : Nat) : Prop := s.hostUp = true ∧ s.boundaryOpen (sameCycle 4) = false ∧ s.host.pageSel.toNat = page
    ready (s 1) 1 ∧ ready (s 0) 0 ∧ ready (s 14) 14 ∧ (ready (s 12) 12 ∧ ∀ n : TrkIx, (s 12).ownsTrk (s 12).pit.hostPitch n = true) ∧
    (ready (s 3) 3 ∧ isLo ((s 3).serveWaiting.lanesTick 4).host.pageSel.toNat 0x24 = false) ∧
    (ready (s 15) 15 ∧ (s 15).pit.own.tally[(s 15).q.sel[(s 15).pit.hostPitch].tally] = some (s 15).pit.hostPitch) := by
  decide +kernel

theorem test_witness_BusyIgnoresRegisterPathCommands :
    let busy : State := { lanes { car := { battenBusy := true } } with
      host := { joined.host with pageSel := 14 }, fuse := { joined.fuse with busy := Vector.replicate 8 true } }
    (joined.hostUp = true ∧ joined.boundaryOpen (sameCycle 4) = false ∧ joined.fuse.busy[joined.pit.hostPitch] = false) ∧
    (bits (0xA502 : Word) 8 8 ≠ 0xA6 ∧ bits (0xA603 : Word) 0 2 ≠ 2 ∧ bits (0xA603 : Word) 0 2 ≠ 1 ∧ bits (4 : Word) 0 2 = 0) ∧
    (bits (0xA602 : Word) 8 8 = 0xA6 ∧ bits (0xA602 : Word) 0 2 = 2 ∧ bits (0xA601 : Word) 0 2 = 1) ∧
    (busy.hostUp = true ∧ busy.fuse.busy[busy.pit.hostPitch] = true ∧ busy.host.pageSel = 14) ∧
    (joined.ownsLane joined.pit.hostPitch 0 = true ∧ (joined.ln 0).car.battenBusy = false ∧ bits (1 : Word) 0 2 ≠ 0) ∧
    (busy.ownsLane busy.pit.hostPitch 5 = true ∧ (busy.ln 5).car.battenBusy = true) ∧
    ({ joined with pit := {} } : State).ownsLane 0 0 = false := by decide +kernel

/-- 140 and 150 degrees keep T_STOP - T_WARN at 10 K; 141 and 139 with 148 do not (R560). -/
theorem test_witness_RegisterRowsTakeForceAsStated :
    let fits (warn stop : Byte) : Prop :=
      100 ≤ warn.toNat ∧ warn.toNat ≤ 140 ∧ 120 ≤ stop.toNat ∧ stop.toNat ≤ 155 ∧ warn.toNat + 10 ≤ stop.toNat
    let warn := joined.heat.dieWarnNext.getD joined.heat.dieWarn
    let stop := joined.heat.dieStopNext.getD joined.heat.dieStop
    (joined.hostUp = true ∧ joined.boundaryOpen (sameCycle 4) = false) ∧ (joined.atSettled = true ∧ (7 : Word).toNat = (7 : Pitch).val) ∧
    ((0x2F : BitVec 7) < 0x30 ∧ (0x33 : BitVec 7) < 0x34) ∧
    8 ≤ (8 : Word).toNat ∧ (fits ((140 : Word).setWidth 8) stop ∧ ¬ fits ((141 : Word).setWidth 8) stop) ∧
    (fits warn ((155 : Word).setWidth 8) ∧ ¬ fits warn ((139 : Word).setWidth 8)) := by decide +kernel

theorem test_witness_OnlyP0WritesDeviceEvents : (1 : Pitch) ≠ 0 := by decide +kernel

theorem test_witness_RefusedCommandsAnswerAndAreLedgered :
    let held : State := { joined with q := { joined.q with hold := true } }
    held.refusal (Cmd.withOpcode (cmd .laneStart 0 0 0) .laneStart) = some stLate ∧
    joined.refusal (Cmd.withOpcode (cmd .laneStart 0x10 0 0) .laneStart) = some stInconsistent ∧
    (Cmd.withOp (cmd .traceConsent 0 0 0) 1).desc.w3 = 0x4000 ∧ (1 : Pitch) ≠ (cmd .laneStart 0 0 0).pitch := by decide +kernel

theorem test_witness_BlocksReadWriteAndCommit :
    let read := cmd .readBlock 0 0x0000 0
    let write := cmd .writeBatten 0 0x0001 0
    let commit := cmd .commitBatten 0 0x5001 0
    joined.admits read .readBlock ∧ joined.admits write .writeBatten ∧ joined.admits commit .commitBatten ∧
    ((joined.atBoundary.readBlockWords read.pitch read.desc).isSome = true ∧ blockReserved read.desc = false ∧
      restZero read.desc 1 = true) ∧
    ((joined.readBlockWords write.pitch write.desc).isSome = true ∧ blockReserved write.desc = false ∧
      ((Desc.tail4 write.desc).drop (blockAddrs write.desc).length).all (· == 0) = true) ∧
    (∃ b, battenOf (blockPage commit.desc) (bits commit.desc.w3 0 4) = some b ∧ joined.commitCheck commit.pitch commit.desc b = none) := by
  unfold State.admits
  refine ⟨by decide +kernel, by decide +kernel, by decide +kernel, by decide +kernel, by decide +kernel, .carrier 0, ?_⟩
  decide +kernel

/-- A profile of one step. -/
def profile1 (alignTime : Word) : Profile :=
  { interval := Vector.replicate 16 0x1000, step := Vector.replicate 16 0x0440, hdr := 1, alignI := 0x40
    alignTime := alignTime, hoLimit := 10 }

/-- A lane that may start; its motor coasts at `speed` in direction `rot`. -/
def startable (alignTime speed : Word) (rot : Bool) : Lane :=
  { com := { profile := profile1 alignTime, seated := true, speedMeas := speed, rotDir := rot } }

/-- REV_LIMIT's reset value is 5 Hz, 0x0050: 0x0051 is above it (R426, R438). -/
theorem test_witness_LaneStartAndReverseTurnTheMotor :
    let c := cmd .laneStart 0 0x0640 0
    let r := cmd .laneReverse 0 0 0
    let power (l : Lane) : State := { lanes l with pit := { joined.pit with front := { line := Vector.replicate 8 500 } }
                                                   pwr := { joined.pwr with granted := 3 } }
    let at_ (l : Lane) : State := (power l).taken .laneStart c
    let v (l : Lane) : State := (at_ l).takeAll 0 (power l).now
    let turns (l : Lane) : Prop := l.com.set.live.revLimit < l.com.speedMeas ∧ l.com.rotDir = bit c.desc.w4 0
    let starts (l : Lane) : Prop := (power l).ownsLane c.pitch 0 = true ∧ ((power l).ln 0).running = false ∧
      firstFail ((v l).startChecks c.pitch 0 c.desc) = none
    let run (st : LaneState) (speed : Word) : Lane := { com := { state := st, speedMeas := speed, profile := profile1 1 } }
    (power {}).admits c .laneStart ∧ (power {}).admits r .laneReverse ∧ Cmd.lane c = some 0 ∧ restZero c.desc 2 = true ∧
    (starts (startable 1 0 false) ∧ ¬ turns ((v (startable 1 0 false)).ln 0)) ∧
    (starts (startable 0 0x50 false) ∧ ¬ turns ((v (startable 0 0x50 false)).ln 0)) ∧
    (let short (ho : Word) : Lane := { startable 0 0 false with com.profile := { profile1 0 with hdr := 0, hoLimit := ho } };
      (short 10).com.profile.steps = 0 ∧ 0 < bits (short 10).com.profile.hoLimit 0 8 ∧ bits (short 0).com.profile.hoLimit 0 8 = 0 ∧
        starts (short 10) ∧ ¬ turns ((v (short 10)).ln 0) ∧ starts (short 0)) ∧
    (starts (startable 1 0x51 false) ∧ turns ((v (startable 1 0x51 false)).ln 0)) ∧
    (Cmd.lane r = some 0 ∧ restZero r.desc 0 = true ∧ (run .run 0x50).steerable = true ∧ (run .restartWait 0).steerable = true ∧
      (run .run 0x50).com.speedMeas ≤ (run .run 0x50).com.set.live.revLimit) ∧
    (run .run 0x51).com.set.live.revLimit < (run .run 0x51).com.speedMeas := by
  unfold State.admits
  decide +kernel

theorem test_witness_ClearLatchStopAndSetSpeedAct :
    let clear := cmd .laneClearLatch 0 0 0
    let stop := cmd .laneStop 0 1 0
    let speed := cmd .laneSetSpeed 0 0xBB80 0
    let latched : State := lanes { latch := { latched := true, src := 0x10 } }
    let asserts : State := { latched with pwr := { joined.pwr with ovStop := true } }
    let mine (s : State) (c : Cmd) : Prop := Cmd.lane c = some 0 ∧ s.ownsLane c.pitch 0 = true
    joined.admits clear .laneClearLatch ∧ joined.admits stop .laneStop ∧ joined.admits speed .laneSetSpeed ∧
    (mine joined clear ∧ restZero clear.desc 0 = true ∧ (joined.ln 0).latch.latched = false) ∧
    ((latched.ln 0).latch.latched = true ∧ latched.latchSource 0 = none) ∧
    ((asserts.ln 0).latch.latched = true ∧ asserts.latchSource 0 = some 0x60) ∧
    (mine joined stop ∧ restZero stop.desc 1 = true ∧ ((joined.ln 0).namedMode stop.desc.w3).isSome = true ∧
      (laneIn .run).running = true ∧ (joined.ln 0).running = false ∧ (joined.ln 0).gate.waiting = false ∧
      ({ gate := { waiting := true } } : Lane).running = false) ∧
    (mine joined speed ∧ restZero speed.desc 1 = true ∧ (laneIn .run).steerable = true ∧ targetOk 0xBB80 = true ∧
      targetOk 0xBB81 = false ∧ targetOk 0 = false) := by
  unfold State.admits
  decide +kernel

theorem test_witness_LaneMeasurementsStartAndEnd :
    let quiet (s : State) (n : LaneIx) : Prop :=
      (s.ln n).running = false ∧ s.laneBusy n = false ∧ s.clk.rootOk = true ∧ (s.ln n).floated s.now = true ∧ (s.ln n).quiet s.now = true
    let staged : State := lanes { com := { staged := profile1 1 } }
    let diag := cmd .laneOffstateDiag 0 2 0
    let what (o : Opcode) : Applied := { cmd := cmd o 0 0 0, order := 0 }
    let cal : Measuring := { what := what .laneCalibrate, kind := .calibrate }
    let test : Measuring := { what := what .laneSelftest, kind := .selftest }
    let step (k : Fin 4) : Measuring := { what := what .laneOffstateDiag, kind := .diag k }
    joined.admits (cmd .laneCalibrate 0 0 0) .laneCalibrate ∧ joined.admits (cmd .laneReseat 0 0 0) .laneReseat ∧
    joined.admits diag .laneOffstateDiag ∧ joined.admits (cmd .laneSelftest 0 0 0) .laneSelftest ∧
    (Cmd.lane diag = some 0 ∧ joined.ownsLane diag.pitch 0 = true ∧ restZero (cmd .laneCalibrate 0 0 0).desc 0 = true ∧ quiet joined 0) ∧
    (quiet staged 0 ∧ (staged.ln 0).com.staged.bad = false) ∧
    (bits diag.desc.w3 0 2 ≠ 3 ∧ bits diag.desc.w3 2 14 = 0 ∧ restZero diag.desc 1 = true ∧ (joined.ln 0).pin = false ∧
      joined.railOut 0 = false ∧ joined.pwr.vgdOk = true) ∧
    (joined.laneBusy 0 = false ∧ (joined.ln 0).allOff = true) ∧
    (({ measure := some cal } : LaneOps).measure = some cal ∧ cal.kind = .calibrate ∧ cal.ended = none) ∧
    (({ measure := some (step 3) } : LaneOps).measure = some (step 3) ∧ (step 3).ended = none ∧ (step 3).disturbed = false) ∧
    (({ measure := some test } : LaneOps).measure = some test ∧ test.kind = .selftest ∧ test.ended = none) := by
  unfold State.admits
  decide +kernel

/-- Four evenly spaced teeth of a free table, and entries up to the last place, 128. -/
theorem test_witness_ToothTablesAndWindowsAreSet :
    let stage := cmd .wheelLoadTable 0 (127 : Word) 7
    let seat := cmd .wheelLoadTable 0 0x4000 0x8004
    let arm : Cmd := { cmd .windowArm 0 3 0 with desc := { (cmd .windowArm 0 3 0).desc with w4 := 5, w5 := 9, w6 := 1 } }
    let disarm := cmd .windowDisarm 0 0 0xFFFF
    let staged : State := trackers { staging := (((Vector.replicate 128 0).set 1 0x4000).set 2 0x8000).set 3 0xC000 }
    let table : ToothTable := { free := bit seat.desc.w4 15, teeth := (staged.tk 0).staging.toList.take (bits seat.desc.w4 0 8) }
    let mine (c : Cmd) : Prop := joined.ownsTrk c.pitch (Desc.tracker c.desc) = true
    joined.admits stage .wheelLoadTable ∧ staged.admits seat .wheelLoadTable ∧ joined.admits arm .windowArm ∧
    joined.admits disarm .windowDisarm ∧ (mine stage ∧ mine seat ∧ mine arm ∧ mine disarm) ∧
    (bits stage.desc.w3 10 2 = 0 ∧ bit stage.desc.w3 7 = false ∧ bits stage.desc.w3 0 7 + (bits stage.desc.w3 8 2 + 1) ≤ 128 ∧
      ((Desc.tail4 stage.desc).drop 1).all (· == 0) = true) ∧
    (bits seat.desc.w3 0 12 = 0 ∧ bits seat.desc.w4 8 7 = 0 ∧ seat.desc.w5 = 0 ∧ bits seat.desc.w4 0 8 ≤ 128 ∧ table.bad = false) ∧
    (joined.targetForeign arm.pitch { start := arm.desc.w4, stop := arm.desc.w5, cfg := arm.desc.w6, armed := true } = false ∧
      armBad arm.desc = false) ∧
    (bits disarm.desc.w3 14 2 = 0 ∧ bits disarm.desc.w3 0 12 = 0 ∧ disarm.desc.w5 = 0 ∧ bit disarm.desc.w4 15 = true) := by
  unfold State.admits
  decide +kernel

theorem test_witness_QueriesAndSnapshotsAnswerValues :
    let q := cmd .thermalQuery 0 13 0
    let f := cmd .fuseRead 0 0x082 0
    let t := cmd .tallySnapshot 0 0x01BE 0
    joined.admits q .thermalQuery ∧ joined.admits f .fuseRead ∧ joined.admits t .tallySnapshot ∧
    (bits q.desc.w3 0 4 = (13 : SensorIx).val ∧ bits q.desc.w3 4 12 = 0 ∧ restZero q.desc 1 = true ∧ joined.sensorReach q.pitch 13 = true) ∧
    (Desc.fuseAddr f.desc ≤ 0x7FF ∧ Desc.fuseAddr f.desc / 128 = 1 ∧ joined.rlocked (Desc.fuseAddr f.desc / 128) = false ∧
      bits f.desc.w3 12 4 = 0 ∧ (Desc.tail4 f.desc).all (· == 0) = true ∧ (readFuse joined.fuse.image (Desc.fuseAddr f.desc)).ok = true) ∧
    (snapshotTallies t.desc = some [62, 63] ∧ (∀ i ∈ ([62, 63] : List TallyIx), joined.pit.own.tally[i] = some t.pitch) ∧
      bit t.desc.w3 6 = false ∧ bits t.desc.w3 9 7 = 0 ∧ restZero t.desc 1 = true ∧ bit t.desc.w3 7 = true) := by
  unfold State.admits
  decide +kernel

theorem test_witness_FuseCommandsWaitForTheirWindow :
    let word_ := cmd .fuseProgramWord 0 0x084 1
    let adv := cmd .lifecycleAdvance 0 4 0
    joined.admits word_ .fuseProgramWord ∧ joined.admits adv .lifecycleAdvance ∧ seededNode.admits (cmd .keyRoll 0 1 2) .keyRoll ∧
    (joined.advanceCheck adv.pitch adv.desc).2 = some LifeCycle.retired ∧
    (let s : State := { joined with fuse := { joined.fuse with lifecycle := .retired } }; (s.advanceCheck 0 adv.desc).2 = none) ∧
    seededNode.rollCheck 0 (cmd .keyRoll 0 1 2).desc = stOk ∧
    Desc.opcode (cmd .fuseProgramWord 0 0 0).desc = Opcode.fuseProgramWord.code := by
  unfold State.admits
  decide +kernel

theorem test_witness_ConsentMasksAreSetForTheNextBoundary :
    let g := cmd .traceConsent 0 0x007F 0
    let r := cmd .traceConsent 0 0x4000 0
    let k := cmd .traceConsent 0 0x877F 0
    joined.admits g .traceConsent ∧ joined.admits r .traceConsent ∧ joined.admits k .traceConsent ∧
    (bits g.desc.w3 7 7 = 0 ∧ restZero g.desc 1 = true) ∧ (bits r.desc.w3 0 14 = 0 ∧ restZero r.desc 1 = true) ∧
    (k.pitch = 0 ∧ bits k.desc.w3 8 3 = (7 : Pitch).val ∧ bits k.desc.w3 11 3 = 0 ∧ bit k.desc.w3 7 = false ∧
      restZero k.desc 1 = true) := by
  unfold State.admits
  decide +kernel

theorem test_witness_RingLeaseRenewalFindsNoObject :
    let l := cmd .leaseRenew 0 0x00FF 0
    let ring : Cmd := { l with door := .ring }
    let other (o : Opcode) : Cmd := { cmd o 0 0 0 with pitch := 1, queue := 4 }
    let shared : State := { joined with pit := { joined.pit with
      own := { allOwned with group := (Vector.replicate 16 (some 1)).set 0 (some 0) } } }
    joined.admits l .leaseRenew ∧ joined.admits ring .leaseRenew ∧ shared.admits (other .benchHold) .benchHold ∧
    shared.admits (other .benchRelease) .benchRelease ∧ joined.admits (cmd .benchHold 0 0 0) .benchHold ∧
    joined.admits (cmd .benchRelease 0 0 0) .benchRelease ∧ ring.door = .ring ∧ (other .benchHold).pitch ≠ 0 ∧
    (l.door = .host ∧ l.pitch = joined.pit.hostPitch ∧ bits l.desc.w3 8 8 = 0 ∧ restZero l.desc 1 = true) ∧
    restZero (cmd .benchHold 0 0 0).desc 0 = true := by
  unfold State.admits
  decide +kernel

theorem test_witness_ReopenOpensTheMarketAtTheNextBoundary :
    let c := cmd .reopen 0 0 0
    let closed (arisen : BitVec 4) : State := { joined with dev := { joined.dev with closed := true, arisen := arisen } }
    joined.admits c .reopen ∧ (closed 2).admits c .reopen ∧ (c.pitch = 0 ∧ restZero c.desc 0 = true) ∧ joined.dev.closed = false ∧
    ((closed 2).dev.closed = true ∧ ((closed 2).taken .reopen c).present = 0) ∧
    (let s : State := { closed 4 with clk := { runThrough := true } }; (s.taken .reopen c).present ≠ 0) ∧
    ({ reopenNext := true } : Device).reopenNext = true ∧ (laneIn .run).running = true := by
  unfold State.admits
  decide +kernel

theorem test_witness_AssignMovesOneObject :
    let other (o : Opcode) : Cmd := { cmd o 0 0 0 with pitch := 1, queue := 4 }
    let shared : State := { joined with pit := { joined.pit with
      own := { allOwned with group := (Vector.replicate 16 (some 1)).set 0 (some 0) } } }
    let zero := cmd .assign 0 0x0500 0
    let lane := cmd .assign 0 0x0105 8
    let front := cmd .assign 0 0x1007 33
    let fits (c : Cmd) (k : AssignTo) : Prop :=
      assignTo (bits c.desc.w3 8 8) (bits c.desc.w3 0 8) = some k ∧ joined.assignExists k = true ∧ k ≠ .group 0 ∧
      k.range.1 ≤ bits c.desc.w4 0 15 ∧ bits c.desc.w4 0 15 ≤ k.range.2 ∧ ¬ (k.isFront = true ∧ bit c.desc.w4 15 = true) ∧
      restZero c.desc 2 = true ∧ joined.assignFree k = none ∧ joined.pit.projected.assignFits k (bits c.desc.w4 0 15) = true
    shared.admits (other .assign) .assign ∧ shared.admits (other .reopen) .reopen ∧ (other .assign).pitch ≠ 0 ∧
    (joined.admits zero .assign ∧ zero.pitch = 0 ∧ zero.desc.w3 = 0x0500) ∧
    (joined.admits lane .assign ∧ fits lane (.lane 5)) ∧ (joined.admits front .assign ∧ fits front (.tagFront 7)) ∧
    (8 : Nat) ≤ (AssignTo.lane 5).range.2 ∧ AssignTo.lane 4 ≠ .lane 5 := by
  unfold State.admits
  decide +kernel

theorem test_witness_FuseWindowRunsItsSteps :
    let a : Applied := { cmd := { cmd .fuseProgramWord 0 0x084 1 with pitch := 7 }, order := 0 }
    let o : FuseOp := { what := a, kind := .word 0x084 1 }
    let x : FuseStep := { cell := 0x084, value := 1, role := .word }
    let run (ph : FusePhase) : FuseRun := { op := o, bell := 0, phase := ph, steps := [x] }
    let roll : FuseRun := { op := { what := a, kind := .keyRoll 5 }, bell := 0, phase := .supply, steps := [] }
    ((14 : DWord).toNat % 16 = 2 * (7 : Pitch).val ∧ joined.fuse.run = none ∧ takeOp 7 [o] = some (o, [])) ∧
    ((run .supply).phase = .supply ∧ (run .supply).op.kind = .word 0x084 1) ∧ (roll.phase = .supply ∧ roll.op.kind = .keyRoll 5) ∧
    ((run .pulsing).phase = .pulsing ∧ (run .pulsing).steps = [x]) ∧ (run .pulsing).phase ≠ .ended := by decide +kernel

/-- A lane in RUN, 2500 ticks into a period of the reset carrier with CMP at 2000, that crossed at 100. -/
def runner : Lane :=
  { com := { state := .run, t60 := 1000, lastCross := some 100, crossed := true, lastSeen := 100, rowStart := 50 }
    car := { periodStart := 0, onPhase := true
             set := { shadow := {}, live := { cmp := 2000, sampleAt := 1000 } } } }

/-- A due event acts in its tick with nothing before it; not beside a latch of its tick, nor behind another event. -/
theorem test_witness_CarrierPeriodsAndPhasesAdvance :
    let s := lanes runner
    let latched := lanes { runner with car := { runner.car with latchTick := some 4000 } }
    let behind : State := { s with pending := [.commutation 0 4000] }
    let busy := lanes { runner with car := { runner.car with taskFree := 4001 } }
    let tripped : State := { lanes { runner with sense := { peak := true } } with now := 0 }
    let cot := lanes { runner with car := { runner.car with
      set := { shadow := {}, live := { ctrl := 1 } }, onPhase := false
      bridges := Vector.replicate 3 { low := true, lowOn := some 1, cmd := some .low } } }
    let waits (stretch : Bool) := lanes { runner with car := { runner.car with
      set := { shadow := {}, live := { runner.car.set.live with ctrl := if stretch then 8 else 0 } }
      bridges := Vector.replicate 3 { wait := some .low, cmd := some .low } } }
    let ends (v : State) : Prop :=
      let b := (v.ln 0).car.bridges[(1 : PhaseIx)].settle (v.edges 0) 100
      b.wait = some .low ∧ v.want 0 1 = some .low ∧ b.readyAt (v.edges 0) (v.extraWait 0) .low ≤ 100 ∧
        v.planFor 0 1 (some .low) = none ∧ b.late ≠ some .low
    (((s.laneTick 0 4000).ln 0).boundaryDue 4000 = true ∧ ((s.laneTick 0 3999).ln 0).boundaryDue 3999 = false ∧
      (s.laneTick 0 4000).taskOpen 0 4000 3) ∧
    (((latched.laneTick 0 4000).ln 0).boundaryDue 4000 = true ∧ ((latched.laneTick 0 4000).ln 0).car.latchTick = some 4000) ∧
    (((behind.laneTick 0 4000).ln 0).car.latchTick ≠ some 4000 ∧ (behind.laneTick 0 4000).outranked 0 4000 1 = false ∧
      (behind.laneTick 0 4000).outranked 0 4000 3 = true) ∧
    (4000 < ((busy.laneTick 0 4000).ln 0).car.taskFree) ∧
    ((s.laneTick 0 2000).onEndDue 0 2000 .compare = true ∧ (tripped.laneTick 0 60).onEndDue 0 60 .trip = true ∧
      ((tripped.laneTick 0 60).endOn 0 60 true).taskOpen 0 60 1) ∧
    (ends ((waits true).laneTick 0 100) ∧ (((waits true).laneTick 0 100).edges 0).stretch = true) ∧
    (ends ((waits false).laneTick 0 100) ∧ (((waits false).laneTick 0 100).edges 0).stretch = false ∧
      1 < (((waits false).laneTick 0 100).edges 0).minPulse) ∧
    (((joined.laneTick 0 100).ln 0).car.bridges[(0 : PhaseIx)].settle ((joined.laneTick 0 100).edges 0) 100).wait = none ∧
    (let v := cot.laneTick 0 100;
      (v.ln 0).running = true ∧ (v.ln 0).car.set.live.mode = 1 ∧ (v.ln 0).car.onPhase = false ∧ (v.ln 0).valleyWatched 100 = true ∧
        0 < (v.ln 0).sense.set.live.valleyVds.toNat % 256 * 2 ∧ ¬ (((joined.laneTick 0 100).ln 0).running = true)) := by
  unfold State.taskOpen
  decide +kernel

/-- STALL_FACTOR's reset value 2.0 (code 1) stalls 2 x T60 after the last crossing (R437). -/
theorem test_witness_CrossingsCommutateTheLane :
    let fresh : Lane := { runner with com := { runner.com with crossed := false, blankEnd := some 500 } }
    let s := lanes fresh
    let v := s.laneTick 0 1000
    let stop : Lane := { fresh with com := { fresh.com with
      state := .stopping, missed := 2, stopping := some { mode := .ramp, since := 0, declaredMs := 100 } } }
    (((v.ln 0).expected).isSome = true ∧ (v.ln 0).watching = true ∧ (v.ln 0).car.sampleDue = some 1000 ∧ (v.ln 0).com.crossed = false ∧
      v.rowChanges 0 1000 = false ∧ (v.ln 0).com.blankAt 1000 false = some 500) ∧
    (({ lanes runner with pending := [.commutation 0 700] } : State).laneTick 0 700).rowChanges 0 700 = true ∧
    ((((lanes runner).laneTick 0 700).ln 0).commutationDue 700 = true ∧ ((lanes runner).laneTick 0 700).taskOpen 0 700 2) ∧
    (((s.laneTick 0 5000).ln 0).missDue 5000 = true ∧ ((s.laneTick 0 5000).ln 0).com.missed.toNat < 2 ∧
      ((s.laneTick 0 5000).modLn 0 (Lane.missSet 5000)).taskOpen 0 5000 2) ∧
    ((((lanes stop).laneTick 0 5000).ln 0).missDue 5000 = true ∧ 2 ≤ (((lanes stop).laneTick 0 5000).ln 0).com.missed.toNat ∧
      stop.com.state = .stopping) ∧
    (runner.com.state = .run ∧ runner.com.missed = 0) := by
  unfold State.taskOpen
  decide +kernel

/-- ALIGN_TIME and RESTART_DELAY of 1 ms end after 160 000 ticks (R421, R439). -/
theorem test_witness_OpenLoopStartsStepByStep :
    let l (st : LaneState) (entry ho : Nat) : Lane := { com := {
      state := st, profile := profile1 1, entry := entry, hoCount := ho, stepTicks := 1000
      set := { shadow := {}, live := { restartDelay := 1 } } } }
    let v (l : Lane) (t : Ticks) : State := (lanes l).laneTick 0 t
    (((v (l .align 0 0) 160000).ln 0).alignEndDue 160000 = true ∧ (v (l .align 0 0) 160000).taskOpen 0 160000 2 ∧
      (l .align 0 0).com.entry < (l .align 0 0).com.profile.steps) ∧
    (((v (l .ramp 0 0) 1000).ln 0).stepDue 1000 = true ∧ (v (l .ramp 0 0) 1000).taskOpen 0 1000 2 ∧
      (l .ramp 0 0).com.entry < (l .ramp 0 0).com.profile.steps) ∧
    (((v (l .ramp 1 0) 1000).ln 0).stepDue 1000 = true ∧ (l .ramp 1 0).com.profile.steps ≤ (l .ramp 1 0).com.entry ∧
      0 < bits (l .ramp 1 0).com.profile.hoLimit 0 8) ∧
    (((v (l .handover 1 9) 1000).ln 0).stepDue 1000 = true ∧ (l .handover 1 9).com.hoCount < bits (profile1 1).hoLimit 0 8 ∧
      bits (profile1 1).hoLimit 0 8 ≤ (l .handover 1 10).com.hoCount) ∧
    (((v (l .restartWait 0 0) 160000).ln 0).com.state = .restartWait ∧ ((v (l .restartWait 0 0) 160000).ln 0).gate.waiting = false ∧
      ((v (l .restartWait 0 0) 160000).ln 0).com.waitFrom +
        ((v (l .restartWait 0 0) 160000).ln 0).com.set.live.restartMs * Config.ticksPerMs ≤ 160000) ∧
    ((1 : Nat) ≤ (profile1 1).steps ∧ ((v (l .align 1 0) 160000).ln 0).alignEndDue 160000 = true ∧
      (l .align 1 0).com.profile.steps ≤ (l .align 1 0).com.entry ∧ (v (l .align 1 0) 160000).taskOpen 0 160000 2) ∧
    (let none : Lane := { l .ramp 1 0 with com.profile.hoLimit := 0 };
      bits none.com.profile.hoLimit 0 8 = 0 ∧ ((v none 1000).ln 0).stepDue 1000 = true ∧ (v none 1000).taskOpen 0 1000 2) ∧
    (bits (profile1 1).alignTime 0 8 ≠ 0 ∧ bits (profile1 0).alignTime 0 8 = 0 ∧ 1 ≤ (profile1 0).steps) := by
  unfold State.taskOpen
  decide +kernel

theorem test_witness_StopsEndAndCoastIsTracked :
    let st (m : StopMode) : Stopping := { mode := m, since := 0, declaredMs := 1 }
    let l (m : StopMode) : Lane := { com := { state := .stopping, stopping := some (st m) } }
    let v (l : Lane) : State := (lanes l).laneTick 0 160000
    (((v (l .brake)).ln 0).com.state = .stopping ∧ ((v (l .brake)).ln 0).com.stopping = some (st .brake) ∧
      (st .brake).since + (st .brake).declaredMs * Config.ticksPerMs ≤ 160000) ∧
    (((v (l .ramp)).ln 0).com.stopping = some (st .ramp) ∧
      ((v (l .ramp)).ln 0).com.speedMeas ≤ ((v (l .ramp)).ln 0).com.set.live.revLimit) ∧
    ((((v {}).ln 0).com.state = .stopped ∨ ((v {}).ln 0).gate.waiting = true) ∧ ((v {}).ln 0).allOff = true) ∧
    ((l .brake).com.state = .stopping ∧ (l .brake).com.stopping = some (st .brake)) ∧
    ¬ ((((v (l .ramp)).ln 0).com.state = .stopped ∨ ((v (l .ramp)).ln 0).gate.waiting = true) ∧ ((v (l .ramp)).ln 0).allOff = true) := by
  decide +kernel

theorem test_witness_SenseSourcesAndConversionsAct :
    let s := lanes { runner with car := { runner.car with bridges := Vector.replicate 3 { high := true, highOn := some 0, cmd := some .high } } }
    let v := s.laneTick 0 64
    let route (r : Word) (pin : Bool) : State := lanes { runner with
      sense := { set := { shadow := {}, live := { route := r } } }
      gate := { set := { shadow := {}, live := { ctrl := if pin then 0x0333 else 0x0332 } } } }
    let at_ (r : Word) (pin : Bool) : State := (route r pin).laneTick 0 100
    let b : Burst := { tracker := 0, window := 0, pitch := 0, size := 4, left := 1, sum := 0, least := 0, most := 0, angle := 0 }
    ((v.ln 0).running = true ∧ (v.ln 0).pin = false ∧ (v.ln 0).captureDue 64 = true) ∧
    ((s.laneTick 0 31).hears 0 31 = false ∧ (s.laneTick 0 32).hears 0 32 = true) ∧
    ((at_ 0 false).hears 0 100 = true ∧ (at_ 0 false).newlyBeyond 0 .oc 100 0 = false) ∧
    ((at_ 0x0008 false).newlyBeyond 0 .oc 100 1023 = true ∧ ((at_ 0x0008 false).ln 0).sense.set.live.routeOf (sourceOf .oc).val = 2 ∧
      ((at_ 0x0008 false).ln 0).latch.latched = false) ∧
    ((at_ 0x0004 false).newlyBeyond 0 .oc 100 1023 = true ∧ ((at_ 0x0004 false).ln 0).sense.set.live.routeOf (sourceOf .oc).val ≠ 2 ∧
      ((at_ 0x0004 false).ln 0).trips (sourceOf .oc).val = true ∧ ((at_ 0x0004 false).ln 0).pin = false) ∧
    ((at_ 0x0004 true).newlyBeyond 0 .oc 100 1023 = true ∧ ((at_ 0x0004 true).ln 0).trips (sourceOf .oc).val = true ∧
      ((at_ 0x0004 true).ln 0).pin = true) ∧
    (joined.atSettled = true ∧ joined.licensed 0 = true ∧ ({ joined with fuse := {} } : State).licensed 0 = false) ∧
    ((7 : AinIx).val = 4 * (1 : Fin 2).val + ((31 : Fin 32).val - 1) / 2 % 4 ∧ (31 : Fin 32).val % 2 = 1) ∧
    (joined.ana.burst[(7 : AinIx)] = none ∧ ({ burst := Vector.replicate 8 (some b) } : Analogue).burst[(7 : AinIx)] = some b) ∧
    ((5 : LaneIx).val = 3 * (1 : Fin 2).val + (28 : Fin 32).val % 8 / 2 % 3 ∧ (28 : Fin 32).val % 2 = 0 ∧ (28 : Fin 32).val % 8 ≠ 6 ∧
      (((route 0 true).ln 5).pin = true ∨ ((route 0 true).ln 5).sense.captured = true)) ∧
    (BitVec.ofNat 4 (bit01 true + 2 * bit01 false) : BitVec 4) ≠ joined.ana.bulk ∧ railOf 3 ≠ .a := by decide +kernel

theorem test_witness_RotatingSlotsConvertTheirChannel :
    let bad : State := { joined with ana := { adcBad := Vector.replicate 2 true } }
    State.reset.atSettled = false ∧ (joined.atSettled = true ∧ (30 : Fin 32).val % 8 = 6) ∧
    ((5 : LaneIx).val = 3 * (1 : Fin 2).val + ((22 : Fin 32).val - 6) / 8 ∧ ((22 : Fin 32).val - 6) / 8 < 3) ∧
    (bad.ana.adcBad[(1 : Fin 2)] = true ∧ joined.ana.adcBad[(1 : Fin 2)] = false) ∧
    (((30 : Fin 32).val - 6) / 8 = 3 ∧ ((6 : Fin 32).val - 6) / 8 + 4 = 4 ∧ ((14 : Fin 32).val - 6) / 8 + 4 = 5 ∧
      ((22 : Fin 32).val - 6) / 8 + 4 = 6 ∧ ((30 : Fin 32).val - 6) / 8 + 4 = 7) ∧
    ((3 : LaneIx).val / 3 = (1 : Fin 2).val ∧ (2 : LaneIx).val / 3 ≠ (1 : Fin 2).val) := by decide +kernel

/-- With OFFSET 0 a level L stands at the code 128 + L (R378). -/
theorem test_witness_TripLevelsFollowTheLimit :
    let route (r : Word) : State := lanes { runner with sense := { set := { shadow := {}, live := { route := r } } } }
    let v (r : Word) : State := (route r).laneTick 0 100
    let code (x : LaneSense) (level : Int) : Int := max 0 (min 1023 (128 + roundHalfAway x.offset 4 + level))
    ((v 0).hears 0 100 = true ∧ ((v 0).ln 0).running = true ∧ ((v 0).ln 0).car.set.live.mode = 0 ∧
      ((384 : BitVec 10).toNat : Int) ≤ code ((v 0).ln 0).sense 256 ∧ code ((v 0).ln 0).sense 256 < ((385 : BitVec 10).toNat : Int) ∧
      ((v 0).ln 0).sense.peak = false) ∧
    (((v 2).ln 0).sense.set.live.routeOf 0 = 2 ∧ ((v 1).ln 0).sense.set.live.routeOf 0 = 1 ∧ ((v 1).ln 0).pin = false) ∧
    (((v 0).ln 0).sense.set.live.winHi.toNat % 1024 = 768 ∧ ((896 : BitVec 10).toNat : Int) ≤ code ((v 0).ln 0).sense 768 ∧
      code ((v 0).ln 0).sense 768 < ((897 : BitVec 10).toNat : Int) ∧ ((v 0).ln 0).sense.oc = false) ∧
    (((v 0).ln 0).sense.set.live.winLo.toNat % 2048 = 1984 ∧ code ((v 0).ln 0).sense (-64) ≤ ((64 : BitVec 10).toNat : Int) ∧
      ((63 : BitVec 10).toNat : Int) < code ((v 0).ln 0).sense (-64) ∧ ((v 0).ln 0).sense.uc = false) := by decide +kernel

theorem test_witness_SpeedLoopSetsTheDemand :
    let down : Lane := { runner with com := { runner.com with
      state := .stopping, stopping := some { mode := .ramp, since := 0, declaredMs := 100 } } }
    let due (l : Lane) : Prop := (((lanes l).laneTick 0 700).ln 0).commutationDue 700 = true ∧
      (((lanes l).laneTick 0 700).ln 0).closedLoop = true ∧ ((lanes l).laneTick 0 700).taskOpen 0 700 2
    due runner ∧ due down := by
  unfold State.taskOpen
  decide +kernel

/-- RETRY_MAX's reset value is 3: two retries in the window leave one, three leave none (R470). -/
theorem test_witness_GateFaultsRetryOrLatch :
    let g (k : Nat) : LaneGate := { retries := List.replicate k 0 }
    let l (st : LaneState) (k : Nat) : Lane := { runner with com := { runner.com with state := st }, gate := g k }
    let fault (l : Lane) : State := (lanes l).laneTick 0 100
    let wait (r : Resume) (speed : Word) : Lane :=
      { com := { speedMeas := speed, profile := profile1 1 }, gate := { waiting := true, resume := r } }
    let ready (l : Lane) : Prop := (((lanes l).laneTick 0 1600000).ln 0).gate.waiting = true ∧
      (((lanes l).laneTick 0 1600000).ln 0).com.waitFrom + (((lanes l).laneTick 0 1600000).ln 0).gate.set.live.retryWait * Config.ticksPerMs
        ≤ 1600000
    (((fault (l .run 2)).ln 0).gate.set.live.watches (((fault (l .run 2)).ln 0).car.bridges[(0 : PhaseIx)]) .vgsHigh 100 1501 = true ∧
      ((fault (l .run 2)).ln 0).gate.recent joined.bell.bellNo < ((fault (l .run 2)).ln 0).gate.set.live.retryMax ∧
      ((fault (l .run 2)).ln 0).pin = false ∧ ((fault (l .run 2)).ln 0).gate.waiting = false) ∧
    (((fault (l .run 3)).ln 0).gate.set.live.retryMax ≤ ((fault (l .run 3)).ln 0).gate.recent joined.bell.bellNo ∧
      ((fault (l .run 3)).ln 0).latch.latched = false) ∧
    ((fault (l .stopping 0)).ln 0).com.state = .stopping ∧
    (ready (wait .pin 0) ∧ ready (wait .stopped 0) ∧ ready (wait .align 0)) ∧
    (ready (wait .run 0x51) ∧ (wait .run 0).com.set.live.revLimit < (wait .run 0x51).com.speedMeas ∧
      (wait .run 0x51).com.rotDir = (wait .run 0x51).com.dir) ∧
    (let next (steps : Byte) (ho : Word) : Lane :=
        { wait .align 0 with com.profile := { profile1 0 with hdr := steps.setWidth 16, hoLimit := ho } };
      ready (next 1 10) ∧ bits (next 1 10).com.profile.alignTime 0 8 = 0 ∧ 1 ≤ (next 1 10).com.profile.steps ∧
        (next 0 10).com.profile.steps = 0 ∧ 0 < bits (next 0 10).com.profile.hoLimit 0 8 ∧ bits (next 0 0).com.profile.hoLimit 0 8 = 0) ∧
    joined.pwr.vgdOk = true ∧ joined.atSettled = true ∧ joined.alive = true ∧ (5 : LaneIx).val = 3 * (1 : LaneIx).val + (2 : PhaseIx).val ∧
    joined.pinTrip 1 = none := by decide +kernel

theorem test_witness_InconsistentSetsAreRefused :
    let c := cmd .commitBatten 0 0x5001 0
    let bad : State := lanes { car := { set := { shadow := { ctrl := 3 }, live := {} } } }
    bad.admits c .commitBatten ∧ battenOf (blockPage c.desc) (bits c.desc.w3 0 4) = some (.carrier 0) ∧
    bad.ownsBatten c.pitch (.carrier 0) = true ∧ bad.battenBad (.carrier 0) = true ∧ joined.battenBad (.carrier 0) = false := by
  unfold State.admits
  decide +kernel

/-- A tracker in SYNC on four evenly spaced teeth, at tooth 0, one tooth each 16 000 wheel ticks, the last at 1000. -/
def turning : Tracker :=
  { seated := true, table := { free := true, teeth := [0, 0x4000, 0x8000, 0xC000] }, sync := .sync, prevSync := true
    lastTooth := some 1000, pBase := 16000, dBase := 0x4000 }

/-- 2 500 wheel ticks of 12.5 ns are 31.25 us; the window of the tooth after the last ends at 16 000 x (1 + TOL / 64). -/
theorem test_witness_WheelPulsesCommitTeeth :
    let s := trackers turning
    let pulse : Tracker := { turning with pulseStart := some 2000, pulseEnd := some 5600 }
    let close (x : Tracker) : Prop := ((trackers x).tk 0).watched = true ∧
      ((trackers x).tk 0).windowOver (((trackers x).tk 0).since ((trackers x).wheelTicks 38000)) = true
    (({ s with pending := [.bellBoundary ⟨2126, 0⟩] } : State).wheelHeld 0 .tooth 2126 = true ∧ s.wheelHeld 0 .tooth 2126 = false ∧
      s.wheelHeld 0 .close 38000 = false ∧ s.wheelHeld 0 .micro 2126 = false ∧
      ({ s with pending := [.toothCommit 0 2126] } : State).wheelHeld 0 .micro 2126 = true) ∧
    (s.wsHeard 0 = true ∧ (s.tk 0).level ≠ .high) ∧ (pulse.pulseStart = some 2000 ∧ pulse.pulseEnd = some 5600) ∧
    (pulse.live.classify 3600 = .forward ∧ pulse.live.classify 0 = .invalid) ∧
    (close turning ∧ turning.judged = false ∧ turning.pulsePending = false ∧ turning.slowNow = false ∧ turning.bad = 0) ∧
    (close { turning with judged := true } ∧ close { turning with sync := .confirm } ∧ close { turning with bad := 1 }) ∧
    (close { turning with pulseStart := some 2000 } ∧ ({ turning with pulseStart := some 2000 } : Tracker).pulsePending = true) ∧
    (turning.sync = .sync ∧ turning.hold = false ∧ 0 < turning.pBase * turning.table.ahead turning.dir turning.tooth ∧
      turning.micro + 1 ≤ 2 ^ turning.kNow - 1 ∧
      (turning.micro + 1) * (turning.pBase * turning.table.ahead turning.dir turning.tooth) ≤
        turning.since (s.wheelTicks 2126) * 2 ^ turning.kNow * turning.dBase) ∧
    (let back : Tracker := { turning with dir := true };
      back.sync = .sync ∧ back.hold = false ∧ 0 < back.pBase * back.table.ahead back.dir back.tooth ∧
      (back.micro + 1) * (back.pBase * back.table.ahead back.dir back.tooth) ≤
        back.since (s.wheelTicks 2126) * 2 ^ back.kNow * back.dBase) := by decide +kernel

theorem test_witness_WheelSensorFaultsActOnTheirSupply :
    let both : State := trackers { wsOpen := true, wsShort := true, supply := true, retryDue := true, level := .mid }
    let ignored : State := trackers { holdoff := true }
    let rich : State := { joined with
      pwr := { joined.pwr with granted := 3 }, pit := { joined.pit with front := { line := Vector.replicate 8 500 } } }
    (joined.wsHeard 0 = true ∧ (joined.tk 0).wsOpen = false ∧ (joined.tk 0).wsShort = false) ∧
    (both.wsHeard 0 = true ∧ (both.tk 0).wsOpen = true ∧ (both.tk 0).wsShort = true ∧ (both.tk 0).supply = true ∧
      (both.tk 0).retryDue = true ∧ (both.tk 0).level = .mid) ∧
    (joined.trkOwner 0 = some 0 ∧ joined.pwr.vgdOk = true ∧ (joined.tk 0).supply = false ∧ joined.wsAllowed 0 = false ∧
      rich.wsAllowed 0 = true) ∧
    (ignored.tk 0).holdoff = true := by decide +kernel

theorem test_witness_TemperaturesAreSampledAndRated :
    let s : State := { joined with heat := { sensor := Vector.replicate 14 { hasSample := true, temp := 400, hist := List.replicate 64 380 } } }
    (joined.atSettled = true ∧ (7 : SensorIx).val = (7 : Fin 8).val) ∧
    ((joined.sn 13).notEvaluated = true ∧ (joined.sn 0).unavailable = false ∧ (joined.sn 0).stale = false ∧
      (joined.sn 0).notEvaluated = false ∧ (joined.sn 0).substituted = false) ∧
    ((s.sn 13).counts = true ∧ (s.sn 13).hist[63]? = some 380 ∧ (s.sn 0).hist[7]? = some 380) := by decide +kernel

/-- A window from 40 to 200 that the first micro-tick of 64 enters, and one from 0 to 64 that it leaves. -/
theorem test_witness_WindowsFollowTheAngle :
    let s := trackers turning
    let x := s.tk 0
    (s.wheelHeld 0 .micro 2126 = false ∧ x.sync = .sync ∧
      x.hold = false ∧ x.micro < x.microsAt (x.since (s.wheelTicks 2126)) ∧ x.angleAt 1 = 64) ∧
    (s.wsHeard 0 = true ∧ x.wsOpen = false ∧ x.sync ≠ .unsync) ∧ (s.trkOwner 0 = some 0 ∧ s.dev.closed = false ∧ x.prevSync = true) ∧
    (let v : Window := { start := 40, stop := 200, cfg := 3, armed := true }; v.inArc 64 = true ∧ v.inArc 0 = false ∧ v.action = 3) ∧
    (let v : Window := { start := 0, stop := 64, cfg := 4, armed := true, isOpen := true }; v.inArc 64 = false ∧ v.action = 4) := by
  decide +kernel

/-- NTC_0 (sensor 8) at its stop level of 120 degrees, its warn level 100 degrees, and rising to its ceiling. -/
theorem test_witness_HeatStopsTakeTheirPath :
    let x (temp rate : Int) (sum : Int) : Sensor := { temp := temp, rate := rate, hasSample := true, sum := sum, count := 1 }
    let s (lane : Lane) (temp rate sum : Int) : State := State.lanesTick
      { lanes lane with heat := { joined.heat with sensor := joined.heat.sensor.set 8 (x temp rate sum) } } 1000000
    let run := s (laneIn .run) 1900 0 1920
    let fast := s (laneIn .run) 1900 32000 1920
    let st : Stopping := { mode := .ramp, since := 999999, declaredMs := 100, orderlyHeat := true }
    let stopping (rate : Int) := s { com := { state := .stopping, stopping := some st } } 1900 rate 1900
    let own (s : State) : Int := roundHalfAway (s.sn 8).sum (s.sn 8).count
    let left (s : State) : Option Rat := (s.modSn 8 fun x => { x with temp := own s, hasSample := true }).predict 0
    let used (s : State) : Prop := s.atSettled = true ∧ (s.sn 8).notEvaluated = false ∧ (s.sn 8).unavailable = false ∧
      (s.sn 8).stale = false ∧ (s.sn 8).substituted = false
    let unbroken (s : State) : Prop :=
      ((s.modSn 8 fun x => { x with own := own s, sum := 0, count := 0 }).judge 8 1000000 (own s)).2 = none
    let newly (s : State) : Prop := (s.levels 8).2 ≤ own s ∧ (s.sn 8).stop = false
    (used run ∧ unbroken run ∧ newly run ∧ (0 : LaneIx) ∈ lanesOf 8 ∧ (run.ln 0).running = true ∧ (run.ln 0).com.state ≠ .stopping ∧
      left run = none ∧ sensorLane 8 = some 0) ∧
    (used fast ∧ unbroken fast ∧ newly fast ∧
      (left fast).any (fun x => decide (x ≤ (((fast.ln 0).declared + 10 : Nat) : Rat))) = true) ∧
    (used (stopping 32000) ∧ unbroken (stopping 32000) ∧ ¬ newly (stopping 32000) ∧ ((stopping 32000).ln 0).com.state = .stopping ∧
      ((stopping 32000).ln 0).com.stopping = some st ∧ st.orderlyHeat = true ∧
      st.since < 1000000 ∧ (left (stopping 32000)).isSome = true) ∧
    (let b : State := { joined with heat := { sensor := joined.heat.sensor.set 8 { substituted := true } } };
      b.atSettled = true ∧ (b.sn 8).notEvaluated = false ∧ (b.sn 8).unavailable = false ∧ (b.sn 8).stale = false ∧
        (b.sn 8).substituted = true ∧ b.heat.median 8 = none ∧ sensorLane 8 = some 0) := by decide +kernel

theorem test_witness_DeratingFollowsTheSensors :
    let warmS : State := { joined with heat := { sensor := Vector.replicate 14 { hasSample := true, temp := 1950 } } }
    (joined.atSettled = true ∧ (joined.sn 0).notEvaluated = false ∧ (joined.sn 0).unavailable = false ∧ (joined.sn 0).stale = false ∧
      (joined.sn 0).substituted = false) ∧
    (((joined.lanesTick 0).modSn 0 fun x => { x with own := 0, sum := 0, count := 0 }).judge 0 0 0).2 = none ∧
    ((joined.sn 0).own < Config.tClose) ∧ (∀ i ∈ sensorsOf 0, (joined.levels i).1 < (joined.levels i).2) ∧
    ((0 : SensorIx) ∈ sensorsOf 0 ∧ (warmS.sn 0).counts = true) ∧ warmS.heat.warm = true := by decide +kernel

theorem test_witness_TracePortServesItsQueues :
    let k : Packet := { words := [0x4000], at_ := 0 }
    let o (dev : List Packet) (q : List Packet) : State := State.lanesTick { joined with obs := {
      grant := Vector.replicate 8 1, countersign := Vector.replicate 8 1, devQueue := dev, queue := Vector.replicate 8 q, sent := some k } } 5
    ((o [k] []).clk.rootOk = true ∧ (o [k] []).obs.active = true ∧ (o [k] []).obs.devQueue = [k]) ∧
    ((o [] [k]).obs.devQueue = [] ∧ (o [] [k]).obs.queue[(0 : Pitch)] = [k]) ∧
    ((o [] []).obs.devQueue = [] ∧ ∀ p : Pitch, (o [] []).obs.queue[p] = []) ∧
    (joined.obs.active = false ∧ joined.obs.sent = none ∧ State.reset.clk.rootOk = false) ∧
    ((o [] []).obs.sent = some k ∧ k.words[0]? = some 0x4000) := by decide +kernel

theorem test_witness_HostStepAndHoldTakeForce :
    let s (next : Pitch) : State := { joined with pit := { joined.pit with hostPitchNext := some next } }
    let hold (v : Bool) : State := { lanes (laneIn .run) with q := { hold := !v, holdNext := some v } }
    let b : State := { joined with bell := { next := some (3, .head) } }
    ((s 0).pit.hostPitchNext = some 0 ∧ (0 : Pitch) = (s 0).pit.hostPitch) ∧ ((s 7).pit.hostPitchNext = some 7 ∧ (7 : Pitch) ≠ (s 7).pit.hostPitch) ∧
    joined.pit.hostPitchNext = none ∧
    (joined.laneOwner 0 = some 0 ∧ (laneIn .run).running = true ∧ (laneIn .run).car.policy.getLsbD 2 = false) ∧
    ((laneIn .run).keepsStop 1000000 .ramp false = false) ∧
    ((hold true).q.holdNext = some true ∧ (hold true).q.hold = false) ∧ ((hold false).q.holdNext = some false ∧ (hold false).q.hold = true) ∧
    (b.bell.next = some (3, .head) ∧ b.atJoined = true ∧ b.host.waiting = []) := by decide +kernel

theorem test_witness_StepsKeepSafeStates : joined.Safe ∧ step joined = .next joined := by
  have hb : ∀ (n : LaneIx) (k : PhaseIx), (joined.ln n).car.bridges[k] = {} := by decide +kernel
  refine ⟨⟨fun n k => ?_, by unfold State.fusesCanonical; decide +kernel, by decide +kernel, fun _ h => by cases h⟩, rfl⟩
  rw [hb n k]
  exact ⟨by simp [HalfBridge.shootThrough], fun side => by cases side <;> simp [HalfBridge.level], by simp, by simp⟩

theorem test_witness_FlywheelBellsStayAtMostFour :
    State.reset.bell.flyRun ≤ 4 ∧ 4 ≤ ({ flyRun := 4 } : Bell).flyRun := by decide +kernel

/-! ### Single steps, with what the spec states of them -/

/-- The next state of one command. -/
def after (c : Instr) (s : State) : Option State :=
  match exec c s with
  | .next t => some t
  | _ => none

/-- A lane after one command on a node whose lanes are alike. -/
def laneAfter (c : Instr) (l : Lane) (n : LaneIx := 0) : Option Lane := (after c (lanes l)).map fun s => s.ln n

/-- R293: the response after RST_N goes high is 0x00000069, its CRC that of three zero bytes. -/
theorem test_crc8_of_idle_response : crc8 [0, 0, 0] = 0x69 := by decide +kernel

/-- R203 names the IEEE 802.3 polynomial: its check value over the digits 1 to 9. -/
theorem test_crc32_check_value : crc32 [0x31, 0x32, 0x33, 0x34, 0x35, 0x36, 0x37, 0x38, 0x39] = 0xCBF43926 := by decide +kernel

/-- NIST's AES-256 vector of an all-zero key and block. -/
theorem test_aes256_zero_vector : aes256 (keyBytes 0) (bytesOf 16 0) =
    [0xDC, 0x95, 0xC0, 0x78, 0xA2, 0x40, 0x89, 0x89, 0xAD, 0x48, 0xA2, 0x14, 0x92, 0x84, 0x20, 0x87] := by decide +kernel

/-- R182: RESET_CAUSE reads POWER after a power reset. -/
theorem test_reset_cause_power : (after (.powerReset 5) joined).map (fun s => s.dev.resetCause) = some 1 := by decide +kernel

/-- R164: LIT needs 20 us, 3200 ticks, since the reset. -/
theorem test_lit_waits : (after (.lit 3199) State.reset).map (fun s => s.dev.power) = some .dark ∧
    (after (.lit 3200) State.reset).map (fun s => s.dev.power) = some .lit := by decide +kernel

/-- R164: SETTLED follows SENSED. -/
theorem test_settled_locks : (after (.settled 5) { dev := { power := .sensed } }).map (fun s => (s.dev.power, s.clk.pllLock)) =
    some (.settled, true) := by decide +kernel

/-- R67: 40 ms of holdup stop a running lane in order; 39.9 ms close the market for LINE_COLLAPSE. -/
theorem test_line_loss_holds_up : (after (.lineLossDeclared 2000000) (lanes (laneIn .run))).map (fun s => (s.dev.closed, s.pwr.orderly)) =
    some (false, true) := by decide +kernel
theorem test_line_loss_collapses : (after (.lineLossDeclared 2000000)
    { joined with pwr := { joined.pwr with holdTime := 399 } }).map (fun s => (s.dev.closed, s.dev.closeFirst)) = some (true, 2) := by
  decide +kernel

/-- R106: a delay of 1881 fails alignment; 1880 does not. -/
theorem test_delay_above_bound : (after (.setDelay 2 (frame 2 [2, 0, 0x07, 0x59])) joined).map (fun s => (s.bell.bellDelay, s.bell.alignFail)) =
    some (1881, true) := by decide +kernel
theorem test_delay_at_bound : (after (.setDelay 2 (frame 2 [2, 0, 0x07, 0x58])) joined).map (fun s => (s.bell.bellDelay, s.bell.alignFail)) =
    some (1880, false) := by decide +kernel

/-- R231, R232: hop 63 gives address 64 and leaves as 64; hop 64 gives none. -/
theorem test_roll_takes_address : (after (.enumRoll 2 5 (frame 2 [1, 63, 0, 1])) joined).map (fun s =>
    (s.ring.ringAddr, s.ring.ringGen, s.ring.aOut.map fun x => (x.frame.byte 1, frameOk x.frame))) = some (64, 1, some (64, true)) := by
  decide +kernel
theorem test_roll_without_address : (after (.enumRoll 2 5 (frame 2 [1, 64, 0, 1])) joined).map (fun s => s.ring.addrValid) = some false := by
  decide +kernel

/-- R107: a bell that does not arrive is made by the flywheel, one epoch on. -/
theorem test_flywheel_counts : (after (.flywheelBell ⟨2000000, 0⟩) { joined with bell := { seen := true, epoch := 7 } }).map (fun s =>
    (s.bell.epoch, s.bell.flyRun, s.bell.bellMissed)) = some (8, 1, 1) := by decide +kernel

/-- R653: two windows off the root with a good crystal are root failure, not a device reset. -/
theorem test_confirmed_windows_fail_root : (after (.watchCheckReset 5 ⟨217, 295, 20000, 20000⟩) joined).map (fun s =>
    (s.dev.power, s.clk.rootOk)) = some (.joined, false) := by decide +kernel
theorem test_bad_crystal_resets : (after (.watchCheckReset 5 ⟨217, 295, 18399, 20000⟩) joined).map (fun s =>
    (s.dev.power, s.dev.resetCause)) = some (.dark, 3) := by decide +kernel

/-- R292: a frame whose CRC fails is answered with FRAME_ERR and changes no register. -/
theorem test_bad_host_frame : (after (.hostFrame 4 0xFF000100) joined).map (fun s => (s.host.crcErr, s.host.pageSel)) =
    some (true, 0) := by decide +kernel

/-- R640: in a boundary's own cycle the same access waits. -/
theorem test_frame_waits_for_boundary : (after (.pageSel 4 3) { joined with pending := [.bellBoundary ⟨5, 0⟩] }).map (fun s =>
    (s.host.pageSel, s.host.waiting.length)) = some (0, 1) := by decide +kernel

/-- R32, R296: with RST_N low the frames that waited act no more, and SDO is at Z. -/
theorem test_rst_n_drops_frames : (after .rstNAssert { joined with host := { joined.host with waiting := [.abort], sdo := some 0 } }).map
    (fun s => (s.host.waiting.length, s.host.sdo)) = some (0, none) := by decide +kernel

/-- R419, check 3: a lane without a seated profile does not start. -/
theorem test_start_without_profile : (after (.laneStart (cmd .laneStart 0 0x0640 0)) joined).map (fun s =>
    s.q.outcomes.map fun d => (d.status, d.r2)) = some [(stInconsistent, 3)] := by decide +kernel

/-- R246: REOPEN from another pitch finds no object. -/
theorem test_reopen_of_p1 : (after (.reopen { cmd .reopen 0 0 0 with pitch := 1, door := .register }) joined).map (fun s =>
    s.q.outcomes.map fun d => d.status) = some [stNoObject] := by decide +kernel

/-- R470 with RETRY_MAX used up: LATCH_SRC 0x41 for half-bridge 1. -/
theorem test_gate_fault_latches : (laneAfter (.gateFault 0 1 .vgsHigh 100 1501)
    { runner with gate := { retries := [0, 0, 0] } }).map (fun l => (l.latch.latched, l.latch.src)) = some (true, 0x41) := by decide +kernel

/-- R465: an off gate below 1.5 V is no VGS fault. -/
theorem test_gate_off_below_level : (laneAfter (.gateFault 0 1 .vgsHigh 100 1500) runner).map (fun l => l.gate.faultCount) = some 0 := by
  decide +kernel

/-- R378, R379: with OFFSET 0 a level L is the code 128 + L; SLOPE 2 lowers it by 2 in 256 ticks. -/
theorem test_level_codes : ({} : LaneSense).dac 256 = 384 ∧ ({} : LaneSense).dac (-200) = 0 ∧
    ({ runner with sense := { set := { shadow := {}, live := { slope := 2 } } } } : Lane).tripLevel 256 = 254 := by decide +kernel

/-- R437, R438: the third missed crossing in a row is a stall. -/
theorem test_third_miss_stalls : (laneAfter (.missedCrossing 0 5000)
    { runner with com := { runner.com with crossed := false, missed := 2 } }).map (fun l => (l.com.stallCount, l.com.state)) =
    some (1, .restartWait) := by decide +kernel

/-- R503: at the reset classes 45 us is F and 90 us is R. -/
theorem test_pulse_classes : ({} : TrackSet).classify 3600 = .forward ∧ ({} : TrackSet).classify 7200 = .reverse := by decide +kernel

/-- R517: the first micro-tick of 2^8 in a spacing of 0x4000 is 64 counts on. -/
theorem test_micro_tick_moves_angle : (after (.microTick 0 2126) (trackers turning)).map (fun s => ((s.tk 0).micro, (s.tk 0).angle)) =
    some (1, 64) := by decide +kernel

/-- R517, R520: in reverse from tooth 0 the same micro-tick is 64 counts back. -/
theorem test_micro_tick_reverse : (after (.microTick 0 2126) (trackers { turning with dir := true })).map (fun s => (s.tk 0).angle) =
    some 0xFFC0 := by decide +kernel

/-- R560: T_WARN of 141 degrees is ignored. -/
theorem test_warn_limit_range : (after (.thermalLimitWrite 4 0x30 141) joined).map (fun s => s.heat.dieWarnNext) = some none := by decide +kernel

/-- R143: outside the window's epochs nothing starts; at epoch 14 P7's operation does not start without its supply. -/
theorem test_fuse_window_needs_supply : (after (.fuseWindowStart 7)
    { joined with
      bell := { epoch := 14 }
      fuse := { joined.fuse with ops := [⟨⟨{ cmd .keyRoll 0 0 0 with pitch := 7 }, 0, false⟩, .keyRoll 0⟩] } }).map (fun s =>
    s.fuse.run.map fun r => r.status) = some (some stFuseSupply) := by decide +kernel

/-- R608: the pins carry a word's bit pairs most significant first, TRC_SYNC with the header alone; TRC_CLK rises at a
packet's first edge. -/
theorem test_trace_pins :
    let s : State := { joined with obs := { grant := Vector.replicate 8 1, countersign := Vector.replicate 8 1
                                            sent := some { words := [0x8000, 0x4000], at_ := 0 } } }
    s.tracePins 0 = ⟨true, true, true, false⟩ ∧ s.tracePins 8 = ⟨true, false, false, true⟩ ∧
      s.tracePins 17 = ⟨false, false, false, false⟩ := by
  decide +kernel

end Sys2Proof.Tests
end

section
/-! SUPPORT. Writes of device-wide registers that P0 alone may change (R83, R113, R193, R242). -/

namespace Sys2Proof.Machine

/-- A write on pages 0x0 to 0x4 is the device-wide one. -/
theorem State.writeReg_of_page_lt (s : State) (host : Bool) (p : Pitch) (x : Selectors) {page : Nat} (a : Nat) (d : Word)
    (hpage : page < 5) : s.writeReg host p x page a d = s.writeDevice host p page a d :=
  if_pos hpage

/-- Page and address of PWR_EVENT, PWR_CLASS (R83), CLK_CTRL, CLK_EVENT, BELL_EVENT (R113), DEV_EVENT, RESET_CAUSE (R193) and
RING_EVENT (R242). -/
def p0OnlyRegisters : List (Nat × Nat) :=
  [(1, 0x01), (1, 0x02), (1, 0x22), (1, 0x21), (1, 0x27), (0, 0x01), (0, 0x02), (2, 0x05)]

/-- The registers that P0 alone may write are device-wide ones. -/
theorem page_lt_of_mem_p0OnlyRegisters {r : Nat × Nat} (hr : r ∈ p0OnlyRegisters) : r.1 < 5 := by
  revert r
  decide

/-- Each of these registers guards its write by the same test of the pitch. -/
theorem State.writeDevice_eq_self_of_ne_p0 (s : State) (host : Bool) {p : Pitch} (d : Word) (hp : p ≠ 0) {r : Nat × Nat}
    (hr : r ∈ p0OnlyRegisters) : s.writeDevice host p r.1 r.2 d = s := by
  have guard (t : State) : (if decide (p = 0) then t else s) = s := if_neg (by simpa using hp)
  simp only [p0OnlyRegisters, List.mem_cons, List.not_mem_nil, or_false] at hr
  obtain rfl | rfl | rfl | rfl | rfl | rfl | rfl | rfl := hr <;> exact guard _

/-- A pitch other than P0 writes none of these registers, by either door and with any selectors. -/
theorem State.writeReg_eq_self_of_ne_p0 (s : State) (host : Bool) {p : Pitch} (x : Selectors) (d : Word) (hp : p ≠ 0)
    {r : Nat × Nat} (hr : r ∈ p0OnlyRegisters) : s.writeReg host p x r.1 r.2 d = s :=
  (s.writeReg_of_page_lt host p x r.2 d (page_lt_of_mem_p0OnlyRegisters hr)).trans (s.writeDevice_eq_self_of_ne_p0 host d hp hr)

/-- Settles O25: all eight registers are among those whose write tests for P0. -/
theorem onlyP0WritesDeviceEvents : Obligations.OnlyP0WritesDeviceEvents := by
  intro s host p x d hp
  have ignored : ∀ r ∈ p0OnlyRegisters, s.writeReg host p x r.1 r.2 d = s := fun _ => s.writeReg_eq_self_of_ne_p0 host x d hp
  simpa only [p0OnlyRegisters, List.forall_mem_cons, List.not_mem_nil, false_imp_iff, implies_true, and_true] using ignored

end Sys2Proof.Machine
end

section
/-! SUPPORT. What it means that a row completes, and the rows of start-up, seeding and line power, each with what it keeps. -/

namespace Sys2Proof.Machine

-- One proof at a time: proofs elaborated side by side would wait for each other, each with its own stack.
set_option Elab.async false

/-- A row completes, in a state of which `P` holds. -/
def Completes (P : State → Prop) (o : Host.Outcome State Fault Refusal) : Prop := ∃ u, o = .next u ∧ P u

theorem Completes.next {P : State → Prop} {u : State} (h : P u) : Completes P (.next u) := ⟨u, rfl, h⟩

theorem Completes.mono {P Q : State → Prop} {o : Host.Outcome State Fault Refusal} (h : Completes P o) (pq : ∀ u, P u → Q u) :
    Completes Q o := by
  obtain ⟨u, hu, k⟩ := h
  exact ⟨u, hu, pq u k⟩

theorem Completes.ite {P : State → Prop} {c : Prop} [Decidable c] {a b : Host.Outcome State Fault Refusal}
    (ha : Completes P a) (hb : Completes P b) : Completes P (if c then a else b) := by
  split
  · exact ha
  · exact hb

variable {s r : State}

theorem Keeps.ite {c : Prop} [Decidable c] {a b : State} (ha : Keeps s a) (hb : Keeps s b) : Keeps s (if c then a else b) := by
  split
  · exact ha
  · exact hb

/-- A record update of parts that are not kept. -/
theorem Keeps.update {t : State} (h : Keeps s r) (p : r.pending = t.pending := by rfl)
    (b : { r.bell with bellEvent := t.bell.bellEvent, fresh := t.bell.fresh } = t.bell := by rfl) (l : r.lane = t.lane := by rfl)
    (a : r.fuse.array = t.fuse.array := by rfl) (i : r.fuse.image = t.fuse.image := by rfl)
    (g : r.pit.own.group = t.pit.own.group := by rfl) (m : r.pit.moves = t.pit.moves := by rfl) : Keeps s t :=
  h.same p b l ⟨a, i⟩ g m

theorem Keeps.eachLane (h : Keeps s r) (f : State → LaneIx → State) (hf : ∀ r n, Keeps s r → Keeps s (f r n)) :
    Keeps s (r.eachLane f) := .foldl _ _ hf h

theorem Keeps.eachTrk (h : Keeps s r) (f : State → TrkIx → State) (hf : ∀ r n, Keeps s r → Keeps s (f r n)) :
    Keeps s (r.eachTrk f) := .foldl _ _ hf h

/-! ### Start-up and seeding -/

theorem execLit_keeps (t : Ticks) (s : State) : Completes (Keeps s) (execLit t s) :=
  .ite (.next ((Keeps.refl s).tick t).update) (.next (.refl s))

theorem execMonitorChallenge_keeps (s : State) : Completes (Keeps s) (execMonitorChallenge s) :=
  .ite (.next (Keeps.refl s).update) (.next (.refl s))

theorem execFuseSenseDone_keeps (s : State) : Completes (Keeps s) (execFuseSenseDone s) := by
  refine .ite (.next (.eachLane ?_ _ fun _ _ k => k.modLn _ _)) (.next (.refl s))
  exact ⟨rfl, rfl, id, fun ⟨array, _⟩ => ⟨array, array⟩, id⟩

theorem execSettled_keeps (t : Ticks) (s : State) : Completes (Keeps s) (execSettled t s) :=
  .ite (.next (Keeps.buckStart ((Keeps.refl s).tick t).update)) (.next (.refl s))

theorem execKeySlotSelect_keeps (weak : List Nat) (s : State) : Completes (Keeps s) (execKeySlotSelect weak s) :=
  .ite (.next (Keeps.enterSeeded (Keeps.refl s).update)) (.next (.refl s))

theorem Keeps.healthFail (h : Keeps s r) (rct apt : Bool) : Keeps s (r.healthFail rct apt) :=
  .ite (.devEventSet h.update _) h.update

theorem Keeps.seed (h : Keeps s r) (pool : List Bool) : Keeps s (r.seed pool) := .enterSeeded h.update

theorem Keeps.rawBit (h : Keeps s r) (b : Bool) : Keeps s (r.rawBit b) := by
  unfold State.rawBit
  split
  · exact .ite h.update (.ite h.update (.ite h.update (.seed h.update _)))
  · exact h.healthFail ..

theorem Keeps.rawBits (h : Keeps s r) (t : Ticks) (raw : List Bool) : Keeps s (r.rawBits t raw) :=
  .ite (.foldl _ _ (fun _ _ k => k.rawBit _) (h.tick t)) h

theorem execSeeded_keeps (t : Ticks) (raw : List Bool) (s : State) : Completes (Keeps s) (execSeeded t raw s) :=
  .next ((Keeps.refl s).rawBits t raw)

theorem execSeedSlow_keeps (t : Ticks) (s : State) : Completes (Keeps s) (execSeedSlow t s) :=
  .ite (.next ((Keeps.refl s).tick t).update) (.next (.refl s))

theorem execHealthTestFail_keeps (t : Ticks) (raw : List Bool) (s : State) : Completes (Keeps s) (execHealthTestFail t raw s) :=
  .next ((Keeps.refl s).rawBits t raw)

theorem execDrbgReseed_keeps (t : Ticks) (raw : List Bool) (s : State) : Completes (Keeps s) (execDrbgReseed t raw s) :=
  .next (.rawBits (Keeps.refl s).update t raw)

/-! ### Line power -/

theorem execLineGood_keeps (t : Ticks) (s : State) : Completes (Keeps s) (execLineGood t s) := by
  have a := (Keeps.refl s).lanesTick t
  unfold execLineGood
  generalize s.lanesTick t = r at a ⊢
  exact .ite (.next (.eachLane (.buckStart a.update) _ fun _ _ k =>
    .ite (k.releaseSafe _ _ _ fun _ j => j.modLn _) k)) (.next a)

theorem execLineLossDeclared_keeps (t : Ticks) (s : State) : Completes (Keeps s) (execLineLossDeclared t s) := by
  have a := (Keeps.refl s).lanesTick t
  unfold execLineLossDeclared
  generalize s.lanesTick t = r at a ⊢
  have b : Keeps s (State.abandonInsert (State.pwrEventSet { r with pwr.lineOk := false } 0x0001)) :=
    .abandonInsert (.pwrEventSet a.update _)
  exact .ite (.ite (.next (.eachLane b.update _ fun _ _ k => .ite (k.beginStop ..) (k.endPinWait ..)))
    (.next (b.declareCause ..))) (.next a)

theorem execHoldupAbort_keeps (t : Ticks) (s : State) : Completes (Keeps s) (execHoldupAbort t s) := by
  have a := (Keeps.refl s).lanesTick t
  unfold execHoldupAbort
  generalize s.lanesTick t = r at a ⊢
  exact .ite (.next (.eachLane (a.pwrEventSet _) _ fun _ _ k =>
    .ite (k.forceSafe _ _ _ _ fun _ j => j.modLn _) k)) (.next a)

theorem execLineOvWarn_keeps (t : Ticks) (s : State) : Completes (Keeps s) (execLineOvWarn t s) := by
  have a := (Keeps.refl s).tick t
  exact .ite (.next (.pwrEventSet a.update _)) (.next a)

theorem execLineOvClear_keeps (s : State) : Completes (Keeps s) (execLineOvClear s) := .next (Keeps.refl s).update

theorem execLineOvStop_keeps (t : Ticks) (s : State) : Completes (Keeps s) (execLineOvStop t s) := by
  have a := (Keeps.refl s).lanesTick t
  unfold execLineOvStop
  generalize s.lanesTick t = r at a ⊢
  exact .ite (.next (.eachLane a.update _ fun _ _ k => .ite (k.setLatch ..) k)) (.next a)

theorem execLineOvStopClear_keeps (s : State) : Completes (Keeps s) (execLineOvStopClear s) :=
  .next (Keeps.buckStart (Keeps.refl s).update)

theorem execHoldCapMeasured_keeps (charge : Nat) (s : State) : Completes (Keeps s) (execHoldCapMeasured charge s) :=
  .ite (.next (Keeps.refl s).update) (.next (.refl s))

theorem execOverdrawSet_keeps (t : Ticks) (s : State) : Completes (Keeps s) (execOverdrawSet t s) := by
  have a := (Keeps.refl s).tick t
  exact .ite (.next (.pwrEventSet a.update _)) (.next a)

theorem execOverdrawClear_keeps (s : State) : Completes (Keeps s) (execOverdrawClear s) :=
  .ite (.next (Keeps.refl s).update) (.next (.refl s))

end Sys2Proof.Machine
end

section
/-! SUPPORT. Rows of the clocks, the ring port, the host port, the descriptor opcodes and the fuse programmer, each with what it keeps. -/

namespace Sys2Proof.Machine

-- One proof at a time: proofs elaborated side by side would wait for each other, each with its own stack.
set_option Elab.async false

variable {s r : State}

/-! ### Clocks and expiries -/

theorem execSyntonySwitch_keeps (s : State) : Completes (Keeps s) (execSyntonySwitch s) :=
  .ite (.next (Keeps.refl s).update) (.next (.refl s))

theorem execSyntonyLoss_keeps (t : Ticks) (why : RefLoss) (s : State) : Completes (Keeps s) (execSyntonyLoss t why s) := by
  have a := (Keeps.refl s).lanesTick t
  unfold execSyntonyLoss
  generalize s.lanesTick t = r at a ⊢
  exact .ite (.next a) (.ite (.next (.revert (.clkEventSet a.update _) _)) (.next a.update))

theorem execXtalFail_keeps (t : Ticks) (s : State) : Completes (Keeps s) (execXtalFail t s) := by
  have a := (Keeps.refl s).lanesTick t
  unfold execXtalFail
  generalize s.lanesTick t = r at a ⊢
  have b : Keeps s (State.clkEventSet { r with clk.xtalOk := false } 0x0002) := .clkEventSet a.update _
  exact .ite (.next (.ite b (b.rootFailure t))) (.next a)

theorem execXtalRecover_keeps (s : State) : Completes (Keeps s) (execXtalRecover s) :=
  .ite (.next (Keeps.refl s).update) (.next (.refl s))

theorem execRootRecover_keeps (t : Ticks) (s : State) : Completes (Keeps s) (execRootRecover t s) := by
  have a := (Keeps.refl s).lanesTick t
  unfold execRootRecover
  generalize s.lanesTick t = r at a ⊢
  exact .ite (.next (.eachLane (.clkEventSet a.update _) _ fun _ _ k =>
    .ite (k.releaseSafe _ _ _ fun _ j => j.modLn _) k)) (.next a)

theorem execLeaseExpiry_keeps (t : Ticks) (s : State) : Completes (Keeps s) (execLeaseExpiry t s) := by
  have a := (Keeps.refl s).lanesTick t
  unfold execLeaseExpiry
  generalize s.lanesTick t = r at a ⊢
  exact .next (.leaseEnds a.update)

theorem execSessionExpiry_keeps (p : Pitch) (s : State) : Completes (Keeps s) (execSessionExpiry p s) := by
  unfold execSessionExpiry
  split
  · exact .ite (.next (Keeps.refl s).update) (.next (.refl s))
  · exact .next (.refl s)

/-! ### The ring port -/

theorem Keeps.passB (h : Keeps s r) (slot : Fin 36) (f : Frame) : Keeps s (r.passB slot f) := .ite h.update h

theorem Keeps.passBell (h : Keeps s r) (f : BellFrame) : Keeps s (r.passBell f) := .ite h.update h

/-- What holds of every state that keeps `s`, and after the action of its own row, holds once a slot has arrived on pair A. -/
theorem State.takeSlot_cases (s : State) (slot : Fin 36) (f : Frame) (act : State → State) {P : State → Prop}
    (hpass : ∀ r, Keeps s r → P r) (hact : ∀ r, Keeps s r → P (act r)) : P (s.takeSlot slot f act) := by
  have a := (Keeps.refl s).countCrc .a f
  unfold State.takeSlot
  generalize s.countCrc .a f = r at a ⊢
  dsimp only
  split
  · exact hpass _ (a.passA ..)
  · have b := a.passA slot (frameTaken f)
    generalize r.passA slot (frameTaken f) = x at b ⊢
    split
    · exact hact _ b.update
    · exact hpass _ b.update

theorem State.takeSlot_keeps (s : State) (slot : Fin 36) (f : Frame) (act : State → State) (hact : ∀ r, Keeps s r → Keeps s (act r)) :
    Keeps s (s.takeSlot slot f act) := s.takeSlot_cases slot f act (fun _ => id) hact

theorem execBeyondFoldDetect_keeps (s : State) : Completes (Keeps s) (execBeyondFoldDetect s) :=
  .ite (.next (Keeps.refl s).update) (.next (.refl s))

theorem execInsertOffer_keeps (slot : Fin 36) (offer back : Frame) (s : State) :
    Completes (Keeps s) (execInsertOffer slot offer back s) := by
  have a := ((Keeps.refl s).countCrc .a offer).passA slot offer
  unfold execInsertOffer
  generalize (s.countCrc .a offer).passA slot offer = r at a ⊢
  have b := a.countCrc .b back
  dsimp only
  generalize r.countCrc .b back = x at b ⊢
  exact .ite (.next a) (.ite (.ite (.next a.update) (.next a)) (.ite (.next a) (.ite (.next a.update)
    (.ite (.next b.update) (.next b.update)))))

theorem execInsertRequestAtFold_keeps (slot : Fin 36) (request : Frame) (nanos : Nat) (s : State) :
    Completes (Keeps s) (execInsertRequestAtFold slot request nanos s) := by
  have a := (Keeps.refl s).countCrc .b request
  unfold execInsertRequestAtFold
  generalize s.countCrc .b request = r at a ⊢
  exact .ite (.next a.update) (.next a)

theorem execInsertGrant_keeps (slot : Fin 36) (f : Frame) (s : State) : Completes (Keeps s) (execInsertGrant slot f s) := by
  have a := ((Keeps.refl s).countCrc .a f).passA slot f
  unfold execInsertGrant
  generalize (s.countCrc .a f).passA slot f = r at a ⊢
  exact .ite (.next a.update) (.next a)

theorem execInsertRefuse_keeps (slot : Fin 36) (t : Ticks) (f : Frame) (s : State) :
    Completes (Keeps s) (execInsertRefuse slot t f s) := by
  have a := (((Keeps.refl s).tick t).countCrc .a f).passA slot f
  unfold execInsertRefuse
  generalize ((s.tick t).countCrc .a f).passA slot f = r at a ⊢
  exact .ite (.next (.ringEventSet a.abandonInsert.update _)) (.next a)

theorem execRefuseHoldoffEnd_keeps (s : State) : Completes (Keeps s) (execRefuseHoldoffEnd s) :=
  .ite (.next (Keeps.refl s).update) (.next (.refl s))

theorem execGrantWaitExpiry_keeps (s : State) : Completes (Keeps s) (execGrantWaitExpiry s) := by
  unfold execGrantWaitExpiry
  split
  · exact .ite (.next (Keeps.refl s).update) (.next (.refl s))
  · exact .next (.refl s)

theorem Keeps.join (h : Keeps s r) (cls : BitVec 2) (t : Ticks) : Keeps s (r.join cls t) := by
  unfold State.join
  have a : Keeps s (State.devEventSet { r with
      dev.power := .joined, pwr.granted := cls
      host := { r.host with leaseOn := true, leaseOut := false, leaseLeft := r.host.leaseLen.toNat } } 0x0001) :=
    .devEventSet h.update _
  have b := a.wsTryAll.enterSeeded
  exact .ite (b.declareCause ..) b

theorem Keeps.inserts (h : Keeps s r) (g : Grant) (folded : Bool) (t : Ticks) : Keeps s (r.inserts g folded t) :=
  .join (h.tick t).update ..

theorem execFlashingOpenA_keeps (t : Ticks) (s : State) : Completes (Keeps s) (execFlashingOpenA t s) := by
  unfold execFlashingOpenA
  split
  · exact .ite (.ite (.next ((Keeps.refl s).inserts ..)) (.next ((Keeps.refl s).tick t).update)) (.next (.refl s))
  · exact .next (.refl s)

theorem execFlashingOpenB_keeps (t : Ticks) (s : State) : Completes (Keeps s) (execFlashingOpenB t s) := by
  unfold execFlashingOpenB
  split
  · exact .ite (.next ((Keeps.refl s).inserts ..)) (.next (.refl s))
  · exact .next (.refl s)

theorem execAutoFold_keeps (t : Ticks) (s : State) : Completes (Keeps s) (execAutoFold t s) := by
  have a := (Keeps.refl s).tick t
  exact .ite (.next (.ringEventSet a.update _)) (.next a)

theorem execFoldFrame_keeps (slot : Fin 36) (f : Frame) (s : State) : Completes (Keeps s) (execFoldFrame slot f s) :=
  .ite (.next (s.takeSlot_keeps slot f _ fun _ k => k.foldTaken f)) (.next (.refl s))

theorem execUnfold_keeps (t : Ticks) (s : State) : Completes (Keeps s) (execUnfold t s) := by
  have a := (Keeps.refl s).tick t
  exact .ite (.ite (.next a.update) (.next (.ringEventSet a.update _))) (.next a)

theorem execCarrierLoss_keeps (pair : Pair) (s : State) : Completes (Keeps s) (execCarrierLoss pair s) := by
  cases pair
  · exact .ite (.next (Keeps.refl s).update) (.next (.refl s))
  · exact .ite (.next (Keeps.refl s).update) (.next (.refl s))

theorem execCarrierReturn_keeps (pair : Pair) (s : State) : Completes (Keeps s) (execCarrierReturn pair s) := by
  refine .ite ?_ (.next (.refl s))
  cases pair
  · exact .next (Keeps.refl s).update
  · exact .next (Keeps.refl s).update

theorem execCodeViolation_keeps (s : State) : Completes (Keeps s) (execCodeViolation s) :=
  .ite (.next (Keeps.refl s).update) (.next (.refl s))

theorem execFrameForward_keeps (pair : Pair) (what : Passing) (s : State) : Completes (Keeps s) (execFrameForward pair what s) := by
  have a := Keeps.refl s
  cases pair <;> cases what
  · exact .next ((a.countCrc ..).passA ..)
  · exact .next (.passBell (.ite a.update a) _)
  · exact .next ((a.countCrc ..).passB ..)
  · exact .ite (.next a.update) (.next a)

theorem execRollReturn_keeps (units : Word) (s : State) : Completes (Keeps s) (execRollReturn units s) :=
  .ite (.next (Keeps.refl s).update) (.next (.refl s))

/-! ### Ring requests -/

theorem execSlotResponseB_keeps (slot : Fin 36) (f : Frame) (s : State) : Completes (Keeps s) (execSlotResponseB slot f s) := by
  have a := (Keeps.refl s).countCrc .b f
  unfold execSlotResponseB
  generalize s.countCrc .b f = r at a ⊢
  dsimp only
  split
  · exact .next a.update
  · exact .next (a.passB ..)

theorem Keeps.dataRow (h : Keeps s r) (p : Pitch) (act : State → State) (hact : ∀ r, Keeps s r → Keeps s (act r)) :
    Keeps s (r.dataRow p act) := by
  refine .ite h (.ite h.update ?_)
  split
  · rename_i e; exact Keeps.pair e (h.countRequest p)
  · rename_i e; exact hact _ (Keeps.pair e (h.countRequest p))

theorem execDataSubmit_keeps (p : Pitch) (queue : Byte) (d : Desc) (s : State) : Completes (Keeps s) (execDataSubmit p queue d s) :=
  .next ((Keeps.refl s).dataRow p _ fun _ k => k.dataSubmit ..)

theorem execDataCollect_keeps (p : Pitch) (queue head : Byte) (s : State) : Completes (Keeps s) (execDataCollect p queue head s) :=
  .next ((Keeps.refl s).dataRow p _ fun _ k => k.dataCollect ..)

theorem execSessionOpen_keeps (slot : Fin 36) (f : Frame) (s : State) : Completes (Keeps s) (execSessionOpen slot f s) :=
  .ite (.next (s.takeSlot_keeps slot f _ fun _ k => k.sessionRequest slot f)) (.next (.refl s))

theorem execIdent_keeps (slot : Fin 36) (f : Frame) (s : State) : Completes (Keeps s) (execIdent slot f s) :=
  .ite (.next (s.takeSlot_keeps slot f _ fun _ k => k.answerPlain ..)) (.next (.refl s))

theorem execTraceGrant_keeps (slot : Fin 36) (f : Frame) (s : State) : Completes (Keeps s) (execTraceGrant slot f s) :=
  .ite (.next (s.takeSlot_keeps slot f _ fun _ k => k.sealedRequest slot f)) (.next (.refl s))

/-! ### The host port -/

theorem Keeps.accessAt (h : Keeps s r) (t : Ticks) (x : HostAccess) : Keeps s (r.accessAt t x) :=
  .ite h.update ((h.serveWaiting.lanesTick t).serve x)

theorem State.access_keeps (s : State) (t : Ticks) (x : HostAccess) : Completes (Keeps s) (s.access t x) :=
  .ite (.next ((Keeps.refl s).accessAt t x)) (.next (.refl s))

theorem State.p0Write_keeps (s : State) (t : Ticks) (page : BitVec 4) (a : BitVec 7) (d : Word) :
    Completes (Keeps s) (s.p0Write t page a d) :=
  .ite (.next ((Keeps.refl s).accessAt t _)) (.next (.refl s))

theorem execFrameAbort_keeps (s : State) : Completes (Keeps s) (execFrameAbort s) :=
  .ite (.next (.refl s)) (.ite (.next ((Keeps.refl s).serve _)) (.next (Keeps.refl s).update))

theorem execThermalLimitWrite_keeps (t : Ticks) (a : BitVec 7) (d : Word) (s : State) :
    Completes (Keeps s) (execThermalLimitWrite t a d s) :=
  .ite (s.p0Write_keeps ..) (.next (.refl s))

theorem execRstNAssert_keeps (s : State) : Completes (Keeps s) (execRstNAssert s) := .next (Keeps.refl s).update

theorem execHostLoss_keeps (s : State) : Completes (Keeps s) (execHostLoss s) :=
  .ite (.next (Keeps.refl s).update) (.next (.refl s))

theorem execRstNRelease_keeps (s : State) : Completes (Keeps s) (execRstNRelease s) :=
  .ite (.next (Keeps.refl s).update) (.next (.refl s))

/-! ### Commands at their application -/

/-- A command row keeps what its effect keeps. -/
theorem State.commandRow_keeps (s : State) (o : Opcode) (c : Cmd) (f : Applied → State → Effect)
    (hf : ∀ a r, Keeps s r → Keeps s (f a r).1) : Completes (Keeps s) (s.commandRow o c f) :=
  .next ((Keeps.refl s).applyRow o c f hf).serveDue

/-! ### The fuse programmer -/

theorem execFuseWindowStart_keeps (p : Pitch) (s : State) : Completes (Keeps s) (execFuseWindowStart p s) := by
  refine .ite ?_ (.next (.refl s))
  split
  · exact .ite (.next (.setRun (Keeps.refl s).update _)) (.next (.setRun (Keeps.refl s).update _))
  · exact .next (.refl s)

theorem execFuseSupplyTimeout_keeps (s : State) : Completes (Keeps s) (execFuseSupplyTimeout s) := by
  unfold execFuseSupplyTimeout
  split
  · exact .ite (.next ((Keeps.refl s).setRun _)) (.next (.refl s))
  · exact .next (.refl s)

theorem execProgrammingSupplySettled_keeps (s : State) : Completes (Keeps s) (execProgrammingSupplySettled s) := by
  unfold execProgrammingSupplySettled
  split
  · refine .ite ?_ (.next (.refl s))
    split
    · exact .next ((Keeps.refl s).rollStart ..)
    · exact .next ((Keeps.refl s).setRun _)
  · exact .next (.refl s)

/-- A fuse cell replaced. -/
theorem Keeps.fusePut (h : Keeps s r) (k : Nat) (c : FuseCell) : Keeps s { r with fuse.array := Machine.fusePut r.fuse.array k c } :=
  h.trans ⟨rfl, rfl, id, fun ⟨array, image⟩ => ⟨fusePut_wf _ _ _ array, image⟩, id⟩

theorem execFusePulseEnd_keeps (readback : DWord) (ok : Bool) (s : State) : Completes (Keeps s) (execFusePulseEnd readback ok s) := by
  unfold execFusePulseEnd
  split
  · split
    · have a := (Keeps.refl s).fusePut
      exact .ite (.next (.setRun (a ..) _)) (.next (.setRun (a ..) _))
    · exact .next (.refl s)
  · exact .next (.refl s)

theorem execFuseAbort_keeps (s : State) : Completes (Keeps s) (execFuseAbort s) := .next (Keeps.refl s).fuseStop

end Sys2Proof.Machine
end

section
/-! SUPPORT. Rows of the lanes, the gates, the wheels, the sensors and the trace port, each with what it keeps. -/

namespace Sys2Proof.Machine

-- One proof at a time: proofs elaborated side by side would wait for each other, each with its own stack.
set_option Elab.async false

variable {s r : State}

/-! ### The carrier -/

theorem Keeps.afterLatch (h : Keeps s r) (n : LaneIx) (t : Ticks) (e : TaskEvent) : Keeps s (r.afterLatch n t e) :=
  .ite (h.modLn _ _) h

theorem Keeps.taskRow (h : Keeps s r) (n : LaneIx) (t : Ticks) (e : TaskEvent) (due : Bool) : Keeps s (r.taskRow n t e due) :=
  .ite (h.onTask ..) (h.afterLatch ..)

theorem execCarrierBoundary_keeps (n : LaneIx) (t : Ticks) (s : State) : Completes (Keeps s) (execCarrierBoundary n t s) :=
  .next (((Keeps.refl s).laneTick n t).taskRow ..)

theorem execOnPhaseEnd_keeps (n : LaneIx) (t : Ticks) (why : PhaseEnd) (s : State) :
    Completes (Keeps s) (execOnPhaseEnd n t why s) := by
  have a := (Keeps.refl s).laneTick n t
  unfold execOnPhaseEnd
  generalize s.laneTick n t = r at a ⊢
  dsimp only
  split
  · exact .ite (.next (a.tripBy ..)) (.next (a.afterLatch ..))
  · exact .ite (.next (a.endOn ..)) (.next a)

/-- One half-bridge of a lane replaced by a sound one. -/
theorem Keeps.setBridge (h : Keeps s r) (n : LaneIx) (k : PhaseIx) (b : HalfBridge) (filtered : Nat)
    (hb : (r.ln n).car.bridges[k].Sound → b.Sound) :
    Keeps s (r.setLn n ((r.ln n).setBridges (vset (r.ln n).car.bridges k b) filtered)) :=
  h.trans ((LaneStep.refl n r).setBridge k b filtered hb).keeps

/-- The side that waited for its dead time begins its pulse. -/
theorem HalfBridge.Sound.startWaiting {b : HalfBridge} (h : b.Sound) (rule : EdgeRule) (t : Ticks) (p : Option Ticks) {side : Side}
    (hw : b.wait = some side) : (b.start rule t p side).Sound :=
  h.start rule t p side (h.waits side hw).1 (h.waits side hw).2

theorem execDeadTimeEnd_keeps (n : LaneIx) (k : PhaseIx) (t : Ticks) (s : State) :
    Completes (Keeps s) (execDeadTimeEnd n k t s) := by
  have a := (Keeps.refl s).laneTick n t
  unfold execDeadTimeEnd
  generalize s.laneTick n t = r at a ⊢
  have settled : ∀ h : (r.ln n).car.bridges[k].Sound, ((r.ln n).car.bridges[k].settle (r.edges n) t).Sound :=
    fun h => h.settle _ t
  dsimp only
  split
  · rename_i hw
    exact .ite (.next (a.setBridge n k _ 0 fun h => (settled h).startWaiting _ _ _ hw)) (.next (a.setBridge n k _ 0 settled))
  · exact .next (a.setBridge n k _ 0 settled)

theorem execValleyDetect_keeps (n : LaneIx) (t : Ticks) (mv : Int) (s : State) : Completes (Keeps s) (execValleyDetect n t mv s) := by
  have a := (Keeps.refl s).laneTick n t
  exact .ite (.next (a.modLn _ _)) (.next a)

/-! ### Commutation -/

theorem execBemfSample_keeps (n : LaneIx) (t : Ticks) (above : Bool) (s : State) :
    Completes (Keeps s) (execBemfSample n t above s) := by
  have a := (Keeps.refl s).laneTick n t
  unfold execBemfSample
  generalize s.laneTick n t = r at a ⊢
  dsimp only
  split
  · refine .ite ?_ (.next a)
    split
    · exact .next a
    · exact .ite (.next ((a.modLn _ _).crossing ..)) (.next (a.modLn _ _))
  · exact .next a

theorem execCommutation_keeps (n : LaneIx) (t : Ticks) (s : State) : Completes (Keeps s) (execCommutation n t s) :=
  .next (((Keeps.refl s).laneTick n t).taskRow ..)

theorem Keeps.stallStop (h : Keeps s r) (n : LaneIx) (t : Ticks) : Keeps s (r.stallStop n t) :=
  .toStopped (.count (h.modLn _ _) ..) ..

theorem execMissedCrossing_keeps (n : LaneIx) (t : Ticks) (s : State) : Completes (Keeps s) (execMissedCrossing n t s) := by
  have a := (Keeps.refl s).laneTick n t
  unfold execMissedCrossing
  generalize s.laneTick n t = r at a ⊢
  have b := a.modLn n (Lane.missSet t)
  exact .ite (.ite (.ite (.next (b.stall ..)) (.next (b.stallStop ..))) (.next (b.onTask ..))) (.next (a.afterLatch ..))

theorem execAlignEnd_keeps (n : LaneIx) (t : Ticks) (s : State) : Completes (Keeps s) (execAlignEnd n t s) :=
  .next (((Keeps.refl s).laneTick n t).taskRow ..)

theorem execProfileStep_keeps (n : LaneIx) (t : Ticks) (s : State) : Completes (Keeps s) (execProfileStep n t s) :=
  .next (((Keeps.refl s).laneTick n t).taskRow ..)

theorem execRestart_keeps (n : LaneIx) (t : Ticks) (s : State) : Completes (Keeps s) (execRestart n t s) := by
  have a := (Keeps.refl s).laneTick n t
  exact .ite (.next (a.enterAlign ..)) (.next a)

theorem execRestartCountClear_keeps (n : LaneIx) (s : State) : Completes (Keeps s) (execRestartCountClear n s) :=
  .ite (.next ((Keeps.refl s).modLn _ _)) (.next (.refl s))

theorem execBrakeEnd_keeps (n : LaneIx) (t : Ticks) (s : State) : Completes (Keeps s) (execBrakeEnd n t s) := by
  have a := (Keeps.refl s).laneTick n t
  unfold execBrakeEnd
  generalize s.laneTick n t = r at a ⊢
  dsimp only
  split
  · exact .ite (.next (a.toStopped ..)) (.next a)
  · exact .next a

theorem execRampStopEnd_keeps (n : LaneIx) (t : Ticks) (s : State) : Completes (Keeps s) (execRampStopEnd n t s) := by
  have a := (Keeps.refl s).laneTick n t
  unfold execRampStopEnd
  generalize s.laneTick n t = r at a ⊢
  dsimp only
  split
  · exact .ite (.next (a.toStopped ..)) (.next a)
  · exact .next a

theorem execBemfTransition_keeps (n : LaneIx) (k : PhaseIx) (t : Ticks) (above : Bool) (s : State) :
    Completes (Keeps s) (execBemfTransition n k t above s) := by
  have a := (Keeps.refl s).laneTick n t
  unfold execBemfTransition
  generalize s.laneTick n t = r at a ⊢
  exact .ite (.next ((a.modLn _ _).modLn _ _)) (.next (a.modLn _ _))

theorem execCoastSpeedTimeout_keeps (n : LaneIx) (s : State) : Completes (Keeps s) (execCoastSpeedTimeout n s) :=
  .ite (.next ((Keeps.refl s).modLn _ _)) (.next (.refl s))

/-! ### Sense and converters -/

theorem execCurrentCapture_keeps (n : LaneIx) (t : Ticks) (s : State) : Completes (Keeps s) (execCurrentCapture n t s) := by
  have a := (Keeps.refl s).laneTick n t
  exact .ite (.next (a.modLn _ _)) (.next a)

theorem execComparatorAssert_keeps (n : LaneIx) (cmp : Comparator) (t : Ticks) (out : BitVec 10) (s : State) :
    Completes (Keeps s) (execComparatorAssert n cmp t out s) := by
  have a := (Keeps.refl s).laneTick n t
  unfold execComparatorAssert
  generalize s.laneTick n t = r at a ⊢
  exact .ite (.ite (.next (((a.modLn _ _).modLn _ _).sourceActs ..)) (.next (a.modLn _ _))) (.next a)

theorem Keeps.pinActs (h : Keeps s r) (i : Fin 5) (t : Ticks) (n : LaneIx) : Keeps s (State.pinActs i t r n) :=
  .ite ((h.laneTick n t).sourceActs ..) h

theorem execFaultPinAssert_keeps (pin : FaultPin) (t : Ticks) (s : State) : Completes (Keeps s) (execFaultPinAssert pin t s) := by
  have a := (Keeps.refl s).tick t
  refine .ite ?_ (.next a)
  cases pin
  · exact .next (.eachLane a.update _ fun _ _ k => k.pinActs ..)
  · exact .next (.eachLane a.update _ fun _ _ k => k.pinActs ..)

theorem execFaultPinRelease_keeps (pin : FaultPin) (s : State) : Completes (Keeps s) (execFaultPinRelease pin s) := by
  cases pin
  · exact .next (Keeps.refl s).update
  · exact .next (Keeps.refl s).update

theorem execAdcSlot_keeps (adc : Fin 2) (slot : Fin 32) (odd : Bool) (code : BitVec 12) (s : State) :
    Completes (Keeps s) (execAdcSlot adc slot odd code s) := by
  have a := Keeps.refl s
  exact .ite (.ite (.next (a.convertAin ..)) (.ite (.next (a.convertRotating ..))
    (.ite (.next (a.convertLane ..)) (.next a)))) (.next a)

theorem execOffsetMeasured_keeps (n : LaneIx) (sum : Nat) (s : State) : Completes (Keeps s) (execOffsetMeasured n sum s) := by
  unfold execOffsetMeasured
  have a := Keeps.refl s
  dsimp only
  split
  · exact .ite (.ite (.next (.finish (a.modLn _ _) ..)) (.next (.finish (a.modLn _ _) ..))) (.next a)
  · exact .next a

theorem execBulkWindowChange_keeps (rail : Rail) (low high : Bool) (s : State) :
    Completes (Keeps s) (execBulkWindowChange rail low high s) := by
  have a := Keeps.refl s
  refine .ite (.next a) (.next (.eachLane ?_ _ fun _ _ k => .ite (k.abortDiag _) k))
  cases rail
  · exact a.update
  · exact a.update

/-! ### Gate drive -/

theorem Keeps.latchTask (h : Keeps s r) (n : LaneIx) (t : Ticks) : Keeps s (r.latchTask n t) :=
  h.trans ((LaneStep.refl n r).latchTask _).keeps

theorem execGateFault_keeps (n : LaneIx) (k : PhaseIx) (kind : GateKind) (t : Ticks) (mv : Int) (s : State) :
    Completes (Keeps s) (execGateFault n k kind t mv s) := by
  have a := (Keeps.refl s).laneTick n t
  unfold execGateFault
  generalize s.laneTick n t = r at a ⊢
  have b := (a.latchTask n t).gatesOff n t
  dsimp only
  generalize (r.latchTask n t).gatesOff n t = x at b ⊢
  exact .ite (.ite (.next ((b.gateReport ..).toStopped ..))
    (.ite (.next (((b.gateReport ..).setLatch ..).drive ..)) (.next ((b.gateReport ..).startWait ..)))) (.next a)

theorem Keeps.resume (h : Keeps s r) (n : LaneIx) (t : Ticks) : Keeps s (r.resume n t) := by
  unfold State.resume
  dsimp only
  split
  · exact h.drivePins ..
  · exact h.toStopped ..
  · exact h.enterAlign ..
  · exact .ite (h.enterRunTurning ..) (h.enterAlign ..)

theorem execRetryResume_keeps (n : LaneIx) (t : Ticks) (s : State) : Completes (Keeps s) (execRetryResume n t s) := by
  have a := (Keeps.refl s).laneTick n t
  unfold execRetryResume
  generalize s.laneTick n t = r at a ⊢
  exact .ite (.next (.resume (a.modLn _ _) ..)) (.next a)

theorem execDiagStepEnd_keeps (n : LaneIx) (u v w : BitVec 10) (s : State) : Completes (Keeps s) (execDiagStepEnd n u v w s) := by
  have a := Keeps.refl s
  unfold execDiagStepEnd
  split
  · split
    · dsimp only
      split
      · exact .next ((a.modLn _ _).modLn _ _)
      · exact .ite (.next (((a.modLn _ _).modLn _ _).finish ..)) (.next (((a.modLn _ _).modLn _ _).finish ..))
    · exact .next a
  · exact .next a

theorem execSelftestEnd_keeps (n : LaneIx) (cmp : BitVec 7) (vds : BitVec 6) (s : State) :
    Completes (Keeps s) (execSelftestEnd n cmp vds s) := by
  have a := Keeps.refl s
  unfold execSelftestEnd
  split
  · exact .ite (.next (.finish (a.modLn _ _) ..)) (.next a)
  · exact .next a

theorem execVgdFault_keeps (t : Ticks) (overVoltage : Bool) (s : State) : Completes (Keeps s) (execVgdFault t overVoltage s) := by
  have a := (Keeps.refl s).lanesTick t
  unfold execVgdFault
  generalize s.lanesTick t = r at a ⊢
  have b : Keeps s (State.abortDiags { r with pwr := { r.pwr with
      vgdOk := false, buckOn := false, vgdUv := !overVoltage, vgdOv := overVoltage } }) := .abortDiags a.update
  exact .ite (.next (.eachTrk (b.eachLane _ fun _ _ k =>
    .ite (((k.gateReport ..).endStart ..).toStopped ..) (k.gatesOff ..)) _ fun _ _ k => k.wsTry ..)) (.next b)

theorem execVgdRecover_keeps (t : Ticks) (s : State) : Completes (Keeps s) (execVgdRecover t s) := by
  have a := (Keeps.refl s).lanesTick t
  unfold execVgdRecover
  generalize s.lanesTick t = r at a ⊢
  exact .ite (.next (.wsTryAll (.eachLane a.update _ fun _ _ k => k.drivePins ..))) (.next a)

/-- The input pins of a half-bridge are no part of what makes it sound. -/
theorem HalfBridge.Sound.pins {b : HalfBridge} (h : b.Sound) (pulse en hold : Bool) :
    HalfBridge.Sound { b with pulse := pulse, en := en, tripHold := hold } := h.same rfl rfl rfl rfl rfl rfl

theorem execPinInputChange_keeps (h : LaneIx) (pulse en : Bool) (t : Ticks) (s : State) :
    Completes (Keeps s) (execPinInputChange h pulse en t s) := by
  unfold execPinInputChange
  dsimp only
  generalize (⟨h.val / 3, _⟩ : LaneIx) = n
  generalize (⟨h.val % 3, _⟩ : PhaseIx) = k
  have a := (Keeps.refl s).laneTick n t
  generalize s.laneTick n t = r at a ⊢
  refine .ite (.next (.drivePins (a.trans (LaneStep.keeps ((LaneStep.refl n r).setLn _ fun sound j => ?_))) ..)) (.next a)
  simp only [Fin.getElem_fin, vmod_eq, vset_get]
  split
  · exact (sound k).pins ..
  · exact sound j

/-! ### Wheels -/

theorem Keeps.wheelTooth (h : Keeps s r) (n : TrkIx) (e : WheelEvent) (t : Ticks) : Keeps s (r.wheelTooth n e t) :=
  .ite (h.modTk ..) ((h.wheelAct ..).wheelServe n)

theorem execWsLevelChange_keeps (n : TrkIx) (level : WsLevel) (t : Ticks) (s : State) :
    Completes (Keeps s) (execWsLevelChange n level t s) := by
  have a := (Keeps.refl s).tick t
  exact .ite (.next (a.modTk ..)) (.next a)

theorem execToothCommit_keeps (n : TrkIx) (t : Ticks) (s : State) : Completes (Keeps s) (execToothCommit n t s) :=
  .next ((Keeps.refl s).wheelTooth ..)

theorem execToothWindowClose_keeps (n : TrkIx) (t : Ticks) (s : State) : Completes (Keeps s) (execToothWindowClose n t s) :=
  .next ((Keeps.refl s).wheelTooth ..)

theorem execMicroTick_keeps (n : TrkIx) (t : Ticks) (s : State) : Completes (Keeps s) (execMicroTick n t s) :=
  .next ((Keeps.refl s).wheelMicro ..)

theorem execStandstill_keeps (n : TrkIx) (s : State) : Completes (Keeps s) (execStandstill n s) :=
  .next ((Keeps.refl s).modTk ..)

theorem execWsOpen_keeps (n : TrkIx) (s : State) : Completes (Keeps s) (execWsOpen n s) :=
  .ite (.next ((((Keeps.refl s).modTk ..).loseSync ..).trkEvent ..)) (.next (.refl s))

theorem execWsOpenClear_keeps (n : TrkIx) (s : State) : Completes (Keeps s) (execWsOpenClear n s) :=
  .ite (.next (((Keeps.refl s).modTk ..).trkEvent ..)) (.next (.refl s))

theorem execWsShort_keeps (n : TrkIx) (s : State) : Completes (Keeps s) (execWsShort n s) := by
  have a := (((Keeps.refl s).wsOff n).modTk n fun x => { x with wsShort := true, retryDue := true }).loseSync n 2
  exact .ite (.next (.ite ((a _).trkEvent ..) (a _))) (.next (.refl s))

theorem execWsSupplyRetry_keeps (n : TrkIx) (s : State) : Completes (Keeps s) (execWsSupplyRetry n s) :=
  .ite (.next (((Keeps.refl s).wsTry ..).modTk ..)) (.next (.refl s))

theorem execWsHoldoffEnd_keeps (n : TrkIx) (s : State) : Completes (Keeps s) (execWsHoldoffEnd n s) :=
  .next ((Keeps.refl s).modTk ..)

theorem execWsShortClear_keeps (n : TrkIx) (s : State) : Completes (Keeps s) (execWsShortClear n s) :=
  .ite (.next (((Keeps.refl s).modTk ..).trkEvent ..)) (.next (.refl s))

theorem execSensorWarn_keeps (n : TrkIx) (s : State) : Completes (Keeps s) (execSensorWarn n s) :=
  .ite (.next ((Keeps.refl s).modTk ..)) (.next (.refl s))

/-! ### Heat and trace -/

theorem execThermalConversion_keeps (i : Fin 8) (raw : Int) (s : State) : Completes (Keeps s) (execThermalConversion i raw s) :=
  .ite (.next ((Keeps.refl s).modSn ..)) (.next (.refl s))

theorem execThermalSample_keeps (i : SensorIx) (t : Ticks) (s : State) : Completes (Keeps s) (execThermalSample i t s) := by
  have a := (Keeps.refl s).lanesTick t
  unfold execThermalSample
  generalize s.lanesTick t = r at a ⊢
  refine .ite (.next a) (.ite (.next (a.modSn ..)) (.ite (.next ((a.modSn ..).takeSample ..)) ?_))
  split
  · rename_i e
    exact .next ((Keeps.pair e ((a.modSn ..).judge ..)).takeSample ..)
  · rename_i e
    exact .next ((((Keeps.pair e ((a.modSn ..).judge ..)).modSn ..).heatEvent ..).takeSample ..)

theorem execRateUpdate_keeps (t : Ticks) (s : State) : Completes (Keeps s) (execRateUpdate t s) := by
  have a := (Keeps.refl s).tick t
  exact .ite (.next (a.foldl _ _ fun _ _ k => k.rateStep _)) (.next a)

theorem execTracePacketSend_keeps (t : Ticks) (s : State) : Completes (Keeps s) (execTracePacketSend t s) := by
  have a := (Keeps.refl s).lanesTick t
  unfold execTracePacketSend
  generalize s.lanesTick t = r at a ⊢
  exact .ite (.next a.update) (.next a)

end Sys2Proof.Machine
end

section
/-! SUPPORT. Every command but those that write the bell or reset the device keeps what `Keeps` names. -/

namespace Sys2Proof.Machine

-- One proof at a time: proofs elaborated side by side would wait for each other, each with its own stack.
set_option Elab.async false

/-- The command can neither reset the device nor write a field of the bell other than BELL_EVENT. -/
def leavesBell : Instr → Bool
  | .powerReset .. | .watchCheckReset .. | .safetyMonitorReset .. | .resetRelease .. | .rootFail .. => false
  | .bellFrame .. | .islandBellFrame .. | .flywheelBell .. | .ridgeTimeout .. | .islandBellEmit | .bellBoundary .. => false
  | .slotRequestA .. | .enumRoll .. | .setDelay .. => false
  | _ => true

theorem exec_keeps (s : State) (c : Instr) (hc : leavesBell c = true) : Completes (Keeps s) (exec c s) := by
  unfold exec
  cases c with
  | powerReset | watchCheckReset | safetyMonitorReset | resetRelease | bellFrame | islandBellFrame | flywheelBell
  | ridgeTimeout | islandBellEmit | rootFail | bellBoundary | slotRequestA | enumRoll | setDelay => cases hc
  | hostFrame | registerWrite | loLatchRead | pageSel | doorbell | cqPop | evqPop | fuseCmdProgram | fuseCmdRead
  | battenCommit | flashCtrlWrite | tallySrcWrite => exact s.access_keeps ..
  | clkCtrlWrite | hostPitchWrite => exact s.p0Write_keeps ..
  | lit => exact execLit_keeps ..
  | monitorChallenge => exact execMonitorChallenge_keeps ..
  | fuseSenseDone => exact execFuseSenseDone_keeps ..
  | settled => exact execSettled_keeps ..
  | keySlotSelect => exact execKeySlotSelect_keeps ..
  | seeded => exact execSeeded_keeps ..
  | seedSlow => exact execSeedSlow_keeps ..
  | healthTestFail => exact execHealthTestFail_keeps ..
  | drbgReseed => exact execDrbgReseed_keeps ..
  | lineGood => exact execLineGood_keeps ..
  | lineLossDeclared => exact execLineLossDeclared_keeps ..
  | holdupAbort => exact execHoldupAbort_keeps ..
  | lineOvWarn => exact execLineOvWarn_keeps ..
  | lineOvClear => exact execLineOvClear_keeps ..
  | lineOvStop => exact execLineOvStop_keeps ..
  | lineOvStopClear => exact execLineOvStopClear_keeps ..
  | holdCapMeasured => exact execHoldCapMeasured_keeps ..
  | overdrawSet => exact execOverdrawSet_keeps ..
  | overdrawClear => exact execOverdrawClear_keeps ..
  | beyondFoldDetect => exact execBeyondFoldDetect_keeps ..
  | insertOffer => exact execInsertOffer_keeps ..
  | insertRequestAtFold => exact execInsertRequestAtFold_keeps ..
  | insertGrant => exact execInsertGrant_keeps ..
  | insertRefuse => exact execInsertRefuse_keeps ..
  | refuseHoldoffEnd => exact execRefuseHoldoffEnd_keeps ..
  | grantWaitExpiry => exact execGrantWaitExpiry_keeps ..
  | flashingOpenA => exact execFlashingOpenA_keeps ..
  | flashingOpenB => exact execFlashingOpenB_keeps ..
  | autoFold => exact execAutoFold_keeps ..
  | foldFrame => exact execFoldFrame_keeps ..
  | unfold => exact execUnfold_keeps ..
  | carrierLoss => exact execCarrierLoss_keeps ..
  | frameForward => exact execFrameForward_keeps ..
  | syntonySwitch => exact execSyntonySwitch_keeps ..
  | syntonyLoss => exact execSyntonyLoss_keeps ..
  | xtalFail => exact execXtalFail_keeps ..
  | xtalRecover => exact execXtalRecover_keeps ..
  | rootRecover => exact execRootRecover_keeps ..
  | leaseExpiry => exact execLeaseExpiry_keeps ..
  | sessionExpiry => exact execSessionExpiry_keeps ..
  | slotResponseB => exact execSlotResponseB_keeps ..
  | dataSubmit => exact execDataSubmit_keeps ..
  | dataCollect => exact execDataCollect_keeps ..
  | sessionOpen => exact execSessionOpen_keeps ..
  | ident => exact execIdent_keeps ..
  | traceGrant => exact execTraceGrant_keeps ..
  | rollReturn => exact execRollReturn_keeps ..
  | frameAbort => exact execFrameAbort_keeps ..
  | thermalLimitWrite => exact execThermalLimitWrite_keeps ..
  | rstNAssert => exact execRstNAssert_keeps ..
  | hostLoss => exact execHostLoss_keeps ..
  | rstNRelease => exact execRstNRelease_keeps ..
  | readBlock => exact s.commandRow_keeps _ _ _ fun _ _ k => k.readBlock ..
  | writeBatten => exact s.commandRow_keeps _ _ _ fun _ _ k => k.writeBlock ..
  | commitBatten => exact s.commandRow_keeps _ _ _ fun _ _ k => k.commitBatten ..
  | laneStart => exact s.commandRow_keeps _ _ _ fun _ _ k => k.effLaneStart ..
  | laneStop => exact s.commandRow_keeps _ _ _ fun _ _ k => k.effLaneStop ..
  | laneSetSpeed => exact s.commandRow_keeps _ _ _ fun _ _ k => k.effLaneSetSpeed ..
  | laneReverse => exact s.commandRow_keeps _ _ _ fun _ _ k => k.effLaneReverse ..
  | laneReseat => exact s.commandRow_keeps _ _ _ fun _ _ k => k.effLaneReseat ..
  | laneCalibrate => exact s.commandRow_keeps _ _ _ fun _ _ k => k.effLaneCalibrate ..
  | laneOffstateDiag => exact s.commandRow_keeps _ _ _ fun _ _ k => k.effLaneOffstateDiag ..
  | laneSelftest => exact s.commandRow_keeps _ _ _ fun _ _ k => k.effLaneSelftest ..
  | laneClearLatch => exact s.commandRow_keeps _ _ _ fun _ _ k => k.effLaneClearLatch ..
  | wheelLoadTableStage | wheelLoadTableSeat => exact s.commandRow_keeps _ _ _ fun _ _ k => k.effLoadTable ..
  | windowArm => exact s.commandRow_keeps _ _ _ fun _ _ k => k.effWindowArm ..
  | windowDisarm => exact s.commandRow_keeps _ _ _ fun _ _ k => k.effWindowDisarm ..
  | thermalQuery => exact s.commandRow_keeps _ _ _ fun _ _ k => k.effThermalQuery ..
  | fuseRead => exact s.commandRow_keeps _ _ _ fun _ _ k => k.effFuseRead ..
  | fuseProgramWord => exact s.commandRow_keeps _ _ _ fun _ _ k => k.effFuseProgramWord ..
  | lifecycleAdvance => exact s.commandRow_keeps _ _ _ fun _ _ k => k.effLifecycleAdvance ..
  | keyRoll => exact s.commandRow_keeps _ _ _ fun _ _ k => k.effKeyRoll ..
  | tallySnapshot => exact s.commandRow_keeps _ _ _ fun _ _ k => k.effTallySnapshot ..
  | traceConsentGrant | traceConsentRevoke | traceConsentCountersign
    => exact s.commandRow_keeps _ _ _ fun _ _ k => k.effTraceConsent ..
  | leaseRenew => exact s.commandRow_keeps _ _ _ fun _ _ k => k.effLeaseRenew ..
  | benchHold | benchRelease => exact s.commandRow_keeps _ _ _ fun _ _ k => k.effBench ..
  | assign => exact s.commandRow_keeps _ _ _ fun _ _ k => k.assign ..
  | reopen => exact s.commandRow_keeps _ _ _ fun _ _ k => k.effReopen ..
  | fuseWindowStart => exact execFuseWindowStart_keeps ..
  | fuseSupplyTimeout => exact execFuseSupplyTimeout_keeps ..
  | fusePulseEnd => exact execFusePulseEnd_keeps ..
  | fuseAbort => exact execFuseAbort_keeps ..
  | carrierBoundary => exact execCarrierBoundary_keeps ..
  | onPhaseEnd => exact execOnPhaseEnd_keeps ..
  | deadTimeEnd => exact execDeadTimeEnd_keeps ..
  | valleyDetect => exact execValleyDetect_keeps ..
  | bemfSample => exact execBemfSample_keeps ..
  | commutation => exact execCommutation_keeps ..
  | missedCrossing => exact execMissedCrossing_keeps ..
  | alignEnd => exact execAlignEnd_keeps ..
  | profileStep => exact execProfileStep_keeps ..
  | restart => exact execRestart_keeps ..
  | restartCountClear => exact execRestartCountClear_keeps ..
  | brakeEnd => exact execBrakeEnd_keeps ..
  | rampStopEnd => exact execRampStopEnd_keeps ..
  | bemfTransition => exact execBemfTransition_keeps ..
  | coastSpeedTimeout => exact execCoastSpeedTimeout_keeps ..
  | currentCapture => exact execCurrentCapture_keeps ..
  | comparatorAssert => exact execComparatorAssert_keeps ..
  | faultPinAssert => exact execFaultPinAssert_keeps ..
  | adcSlot => exact execAdcSlot_keeps ..
  | offsetMeasured => exact execOffsetMeasured_keeps ..
  | bulkWindowChange => exact execBulkWindowChange_keeps ..
  | gateFault => exact execGateFault_keeps ..
  | retryResume => exact execRetryResume_keeps ..
  | vgdFault => exact execVgdFault_keeps ..
  | vgdRecover => exact execVgdRecover_keeps ..
  | pinInputChange => exact execPinInputChange_keeps ..
  | diagStepEnd => exact execDiagStepEnd_keeps ..
  | selftestEnd => exact execSelftestEnd_keeps ..
  | wsLevelChange => exact execWsLevelChange_keeps ..
  | toothCommit => exact execToothCommit_keeps ..
  | toothWindowClose => exact execToothWindowClose_keeps ..
  | microTick => exact execMicroTick_keeps ..
  | standstill => exact execStandstill_keeps ..
  | wsOpen => exact execWsOpen_keeps ..
  | wsOpenClear => exact execWsOpenClear_keeps ..
  | wsShort => exact execWsShort_keeps ..
  | wsSupplyRetry => exact execWsSupplyRetry_keeps ..
  | wsHoldoffEnd => exact execWsHoldoffEnd_keeps ..
  | wsShortClear => exact execWsShortClear_keeps ..
  | sensorWarn => exact execSensorWarn_keeps ..
  | thermalConversion => exact execThermalConversion_keeps ..
  | thermalSample => exact execThermalSample_keeps ..
  | rateUpdate => exact execRateUpdate_keeps ..
  | tracePacketSend => exact execTracePacketSend_keeps ..
  | programmingSupplySettled => exact execProgrammingSupplySettled_keeps ..
  | carrierReturn => exact execCarrierReturn_keeps ..
  | codeViolation => exact execCodeViolation_keeps ..
  | faultPinRelease => exact execFaultPinRelease_keeps ..

end Sys2Proof.Machine
end

section
/-! SUPPORT. Bells received, made and begun, and resets: what each leaves of the run of flywheel bells (R107). -/

namespace Sys2Proof.Machine

-- One proof at a time: proofs elaborated side by side would wait for each other, each with its own stack.
set_option Elab.async false

variable {s r u : State}

/-- The run of flywheel bells is within its bound in `u` if it was in `s` (R107). -/
def FlyRunBounded (s u : State) : Prop := s.bell.flyRun ≤ 4 → u.bell.flyRun ≤ 4

theorem FlyRunBounded.of_eq (h : u.bell.flyRun = s.bell.flyRun) : FlyRunBounded s u := fun bound => h ▸ bound

theorem FlyRunBounded.of_zero (h : u.bell.flyRun = 0) : FlyRunBounded s u := fun _ => h ▸ Nat.zero_le 4

theorem Keeps.flyRun_eq (h : Keeps s r) : r.bell.flyRun = s.bell.flyRun := by rw [h.bell]

theorem Keeps.flyRunBounded (h : Keeps s r) : FlyRunBounded s r := .of_eq h.flyRun_eq

theorem FlyRunBounded.trans {t : State} (h : FlyRunBounded s r) (k : FlyRunBounded r t) : FlyRunBounded s t := k ∘ h

/-! ### Resets -/

theorem State.deviceReset_flyRun (s : State) (cause cap : Word) : (s.deviceReset cause cap).bell.flyRun = 0 := rfl

theorem State.softReset_flyRun (s : State) (cause : Word) : (s.softReset cause).bell.flyRun = 0 := rfl

theorem State.judgeWindows_flyRunBounded (s : State) (t : Ticks) (w : ClockWindows) : FlyRunBounded s (s.judgeWindows t w) := by
  unfold State.judgeWindows
  split
  · exact (Keeps.refl s).flyRunBounded
  · split
    · exact ((Keeps.refl s).rootFailure t).flyRunBounded
    · split
      · exact .of_zero (s.softReset_flyRun 2)
      · exact (Keeps.refl s).flyRunBounded

theorem execPowerReset_flyRunBounded (t : Ticks) (s : State) : Completes (FlyRunBounded s) (execPowerReset t s) :=
  .next (.of_zero (State.deviceReset_flyRun ..))

theorem execSafetyMonitorReset_flyRunBounded (t : Ticks) (s : State) :
    Completes (FlyRunBounded s) (execSafetyMonitorReset t s) :=
  .ite (.next (.of_zero (State.softReset_flyRun ..))) (.next (.of_eq rfl))

theorem execResetRelease_flyRunBounded (t : Ticks) (up : Bool) (s : State) :
    Completes (FlyRunBounded s) (execResetRelease t up s) :=
  .ite (.ite (.next (.of_eq rfl)) (.next (.of_zero (State.deviceReset_flyRun ..)))) (.next (.of_eq rfl))

theorem execWatchCheckReset_flyRunBounded (t : Ticks) (w : ClockWindows) (s : State) :
    Completes (FlyRunBounded s) (execWatchCheckReset t w s) :=
  .ite (.next (((Keeps.refl s).lanesTick t).flyRunBounded.trans (State.judgeWindows_flyRunBounded _ t w))) (.next (.of_eq rfl))

theorem execRootFail_flyRunBounded (t : Ticks) (why : RootFault) (s : State) :
    Completes (FlyRunBounded s) (execRootFail t why s) := by
  have a := (Keeps.refl s).lanesTick t
  cases why with
  | windows w => exact .next (a.flyRunBounded.trans (State.judgeWindows_flyRunBounded _ t w))
  | _ => exact .next (a.rootFailure t).flyRunBounded

/-! ### Bells received and begun -/

theorem State.bellLost_flyRun (s : State) : s.bellLost.bell.flyRun = s.bell.flyRun := rfl

theorem State.passBell_flyRun (s : State) (f : BellFrame) : (s.passBell f).bell.flyRun = s.bell.flyRun := by
  unfold State.passBell
  split <;> rfl

/-- A received bell ends a run of flywheel bells. -/
theorem State.bellReceived_flyRun (s : State) (e : DWord) (k : BellKind) (offset : Word) :
    (s.bellReceived e k offset).bell.flyRun = 0 := by
  unfold State.bellReceived
  dsimp only
  repeat' split
  all_goals rfl

theorem State.enterIsland_flyRun (s : State) : s.enterIsland.bell.flyRun = s.bell.flyRun := by
  unfold State.enterIsland
  dsimp only
  split <;> rfl

/-- A ridge node's own bell is no flywheel bell. -/
theorem State.emitIsland_flyRun (s : State) : s.emitIsland.bell.flyRun = s.bell.flyRun :=
  State.passBell_flyRun ..

theorem State.bellArrives_flyRunBounded (s : State) (f : BellFrame) (offset : Word) : FlyRunBounded s (s.bellArrives f offset) := by
  unfold State.bellArrives
  split
  · exact .of_eq rfl
  · split
    · exact .of_eq ((State.bellLost_flyRun _).trans (State.passBell_flyRun ..))
    · split
      · split
        · exact .of_eq rfl
        · exact .of_zero ((State.enterIsland_flyRun _).trans (State.bellReceived_flyRun ..))
      · exact .of_zero (State.bellReceived_flyRun ..)

theorem execBellFrame_flyRunBounded (t : Ticks) (f : BellFrame) (offset : Word) (s : State) :
    Completes (FlyRunBounded s) (execBellFrame t f offset s) :=
  .next ((s.tick t).bellArrives_flyRunBounded f offset)

theorem execIslandBellFrame_flyRunBounded (t : Ticks) (f : BellFrame) (offset : Word) (s : State) :
    Completes (FlyRunBounded s) (execIslandBellFrame t f offset s) :=
  .ite (.next ((s.tick t).bellArrives_flyRunBounded f offset)) (.next (.of_eq rfl))

theorem execRidgeTimeout_flyRunBounded (t : Ticks) (s : State) : Completes (FlyRunBounded s) (execRidgeTimeout t s) :=
  .ite (.next (.of_eq ((State.emitIsland_flyRun _).trans (State.enterIsland_flyRun _)))) (.next (.of_eq rfl))

theorem execIslandBellEmit_flyRunBounded (s : State) : Completes (FlyRunBounded s) (execIslandBellEmit s) :=
  .ite (.next (.of_eq s.emitIsland_flyRun)) (.next (.of_eq rfl))

/-! ### The delay and the alignment of the bell -/

theorem execSetDelay_flyRunBounded (slot : Fin 36) (f : Frame) (s : State) :
    Completes (FlyRunBounded s) (execSetDelay slot f s) :=
  .ite (.next (s.takeSlot_cases slot f _ (fun _ k => k.flyRunBounded) fun _ k => .of_eq k.flyRun_eq)) (.next (.of_eq rfl))

theorem State.request_flyRun (s : State) (slot : Fin 36) (f : Frame) : (s.request slot f).bell.flyRun = s.bell.flyRun := by
  by_cases hf : (Frame.type f).toNat = 2
  · unfold State.request
    rw [hf]
    rfl
  · exact ((Keeps.refl s).request slot f hf).flyRun_eq

theorem execSlotRequestA_flyRunBounded (slot : Fin 36) (f : Frame) (s : State) :
    Completes (FlyRunBounded s) (execSlotRequestA slot f s) :=
  .next (s.takeSlot_cases slot f _ (fun _ k => k.flyRunBounded) fun r k => .of_eq ((r.request_flyRun slot f).trans k.flyRun_eq))

theorem execEnumRoll_flyRunBounded (slot : Fin 36) (t : Ticks) (f : Frame) (s : State) :
    Completes (FlyRunBounded s) (execEnumRoll slot t f s) := by
  have a := ((Keeps.refl s).tick t).countCrc .a f
  unfold execEnumRoll
  generalize (s.tick t).countCrc .a f = r at a ⊢
  have pass (g : Frame) := (a.passA slot g).flyRun_eq
  exact .ite (.next (.of_eq (pass f))) (.ite (.next (.of_eq (pass f)))
    (.ite (.next (.of_eq (pass _))) (.next (.of_eq (pass _)))))

/-! ### Boundaries -/

theorem State.boundary_flyRun (s : State) (e : DWord) (obs : BellObs) : (s.boundary e obs).bell.flyRun = s.bell.flyRun := by
  obtain ⟨_, bell, _⟩ := s.boundary_spec e obs
  rw [bell]

theorem State.boundary_serveDue_flyRun (s : State) (e : DWord) (obs : BellObs) :
    (s.boundary e obs).serveDue.bell.flyRun = s.bell.flyRun :=
  (Keeps.refl _).serveDue.flyRun_eq.trans (s.boundary_flyRun e obs)

theorem execBellBoundary_flyRunBounded (obs : BellObs) (s : State) : Completes (FlyRunBounded s) (execBellBoundary obs s) := by
  unfold execBellBoundary
  split
  · exact .ite (.next (.of_eq (State.boundary_serveDue_flyRun ..))) (.next (Keeps.refl s).serveDue.flyRunBounded)
  · exact .next (Keeps.refl s).serveDue.flyRunBounded

/-- A flywheel bell is made only after fewer than four of them. -/
theorem execFlywheelBell_flyRunBounded (obs : BellObs) (s : State) : Completes (FlyRunBounded s) (execFlywheelBell obs s) := by
  unfold execFlywheelBell
  split
  · rename_i due
    obtain ⟨_, _, _, fewer, _⟩ := due
    exact .next fun _ => (State.boundary_serveDue_flyRun ..).trans_le fewer
  · exact .ite (.next (Keeps.refl s.bellLost).serveDue.flyRunBounded) (.next (Keeps.refl s).serveDue.flyRunBounded)

/-! ### The bound -/

theorem exec_flyRunBounded (s : State) (c : Instr) : Completes (FlyRunBounded s) (exec c s) := by
  cases hc : leavesBell c with
  | true => exact (exec_keeps s c hc).mono fun _ => Keeps.flyRunBounded
  | false =>
    unfold exec
    cases c with
    | powerReset => exact execPowerReset_flyRunBounded ..
    | watchCheckReset => exact execWatchCheckReset_flyRunBounded ..
    | safetyMonitorReset => exact execSafetyMonitorReset_flyRunBounded ..
    | resetRelease => exact execResetRelease_flyRunBounded ..
    | rootFail => exact execRootFail_flyRunBounded ..
    | bellFrame => exact execBellFrame_flyRunBounded ..
    | islandBellFrame => exact execIslandBellFrame_flyRunBounded ..
    | flywheelBell => exact execFlywheelBell_flyRunBounded ..
    | ridgeTimeout => exact execRidgeTimeout_flyRunBounded ..
    | islandBellEmit => exact execIslandBellEmit_flyRunBounded ..
    | bellBoundary => exact execBellBoundary_flyRunBounded ..
    | slotRequestA => exact execSlotRequestA_flyRunBounded ..
    | enumRoll => exact execEnumRoll_flyRunBounded ..
    | setDelay => exact execSetDelay_flyRunBounded ..
    | _ => cases hc

theorem step_flyRun_le {s t : State} (h : s.bell.flyRun ≤ 4) (hst : step s = .next t) : t.bell.flyRun ≤ 4 := by
  unfold step at hst
  split at hst
  · cases hst
    exact h
  · rename_i c rest _
    obtain ⟨u, hu, bounded⟩ := exec_flyRunBounded { s with pending := rest } c
    cases hu.symm.trans hst
    exact bounded h

/-- After the fourth flywheel bell no boundary is made: at most the bell counts as not received. -/
theorem execFlywheelBell_of_four_le (obs : BellObs) (s : State) (h : 4 ≤ s.bell.flyRun) :
    execFlywheelBell obs s = .next s.bellLost.serveDue ∨ execFlywheelBell obs s = .next s.serveDue := by
  unfold execFlywheelBell
  rw [if_neg fun ⟨_, _, _, fewer, _⟩ => absurd h (Nat.not_le.mpr fewer)]
  split
  · exact .inl rfl
  · exact .inr rfl

/-- Settles O59: only a flywheel bell makes the run longer, and it is not made at four. -/
theorem flywheelBellsStayAtMostFour : Obligations.FlywheelBellsStayAtMostFour := by
  refine ⟨fun s t => step_flyRun_le, fun s obs h => ?_⟩
  obtain e | e := execFlywheelBell_of_four_le obs s h
  · have k := (Keeps.refl s.bellLost).serveDue.bell
    refine ⟨_, e, ?_⟩
    rw [k]; rfl
  · have k := (Keeps.refl s).serveDue.bell
    refine ⟨_, e, ?_⟩
    rw [k]

end Sys2Proof.Machine
end

section
/-! SUPPORT. The rows that write the bell or reset the device: each leads from a safe state to a safe state (R244, R340, R341). -/

namespace Sys2Proof.Machine

-- One proof at a time: proofs elaborated side by side would wait for each other, each with its own stack.
set_option Elab.async false

variable {s r u : State}

/-- `u` is safe if `s` is. -/
structure SafeKept (s u : State) : Prop where
  safe : s.Safe → u.Safe

protected theorem SafeKept.refl (s : State) : SafeKept s s := ⟨id⟩

theorem SafeKept.trans (h : SafeKept s r) (k : SafeKept r u) : SafeKept s u := ⟨k.safe ∘ h.safe⟩

theorem Keeps.safeKept (h : Keeps s r) : SafeKept s r :=
  ⟨fun safe => ⟨h.bridges safe.bridges, h.fuses safe.fuses, h.group safe.group⟩⟩

/-- A record update of parts that safety does not look at, the bell among them. -/
theorem SafeKept.update (h : SafeKept s r) (l : u.lane = r.lane := by rfl) (a : u.fuse.array = r.fuse.array := by rfl)
    (i : u.fuse.image = r.fuse.image := by rfl) (g : u.pit.own.group = r.pit.own.group := by rfl)
    (m : u.pit.moves = r.pit.moves := by rfl) : SafeKept s u := by
  refine ⟨fun safe => ?_⟩
  obtain ⟨bridges, ⟨array, image⟩, owner, moves⟩ := h.safe safe
  refine ⟨fun n => ?_, ⟨a ▸ array, i ▸ image⟩, g ▸ owner, m ▸ moves⟩
  rw [State.ln, l]
  exact bridges n

/-! ### Resets -/

/-- A reset leaves every gate off, queue group 0 with P0 and no ASSIGN on its way; the fuse array stays canonical with a word cut short. -/
theorem State.deviceReset_safeKept (s : State) (cause cap : Word) : SafeKept s (s.deviceReset cause cap) := by
  refine ⟨fun safe => ?_⟩
  obtain ⟨array, -⟩ := (Keeps.refl s).leavePartial.fuses safe.fuses
  refine ⟨fun n k => ?_, ⟨array, array⟩, rfl, fun _ h => nomatch h⟩
  simp only [State.ln, State.deviceReset, Fin.getElem_fin, vmap_get, Vector.getElem_replicate]
  exact HalfBridge.sound_reset

theorem State.softReset_safeKept (s : State) (cause : Word) : SafeKept s (s.softReset cause) :=
  (s.deviceReset_safeKept (s.dev.resetCause ||| cause) s.pwr.holdCap).update

theorem State.judgeWindows_safeKept (s : State) (t : Ticks) (w : ClockWindows) : SafeKept s (s.judgeWindows t w) := by
  unfold State.judgeWindows
  split
  · exact .refl s
  · split
    · exact ((Keeps.refl s).rootFailure t).safeKept
    · split
      · exact s.softReset_safeKept 2
      · exact .refl s

theorem execPowerReset_safeKept (t : Ticks) (s : State) : Completes (SafeKept s) (execPowerReset t s) :=
  .next (((Keeps.refl s).tick t).safeKept.trans (State.deviceReset_safeKept ..))

theorem execSafetyMonitorReset_safeKept (t : Ticks) (s : State) : Completes (SafeKept s) (execSafetyMonitorReset t s) :=
  .ite (.next (((Keeps.refl s).tick t).safeKept.trans (State.softReset_safeKept ..))) (.next (.refl s))

theorem execResetRelease_safeKept (t : Ticks) (up : Bool) (s : State) : Completes (SafeKept s) (execResetRelease t up s) := by
  have a := ((Keeps.refl s).tick t).safeKept
  exact .ite (.ite (.next a.update) (.next (a.trans (State.deviceReset_safeKept ..)))) (.next (.refl s))

theorem execWatchCheckReset_safeKept (t : Ticks) (w : ClockWindows) (s : State) :
    Completes (SafeKept s) (execWatchCheckReset t w s) :=
  .ite (.next (((Keeps.refl s).lanesTick t).safeKept.trans (State.judgeWindows_safeKept _ t w))) (.next (.refl s))

theorem execRootFail_safeKept (t : Ticks) (why : RootFault) (s : State) : Completes (SafeKept s) (execRootFail t why s) := by
  have a := (Keeps.refl s).lanesTick t
  cases why with
  | windows w => exact .next (a.safeKept.trans (State.judgeWindows_safeKept _ t w))
  | unlocked | stopped => exact .next (a.rootFailure t).safeKept

/-! ### Bells received and begun -/

theorem SafeKept.bellReceived (h : SafeKept s r) (e : DWord) (k : BellKind) (offset : Word) :
    SafeKept s (r.bellReceived e k offset) := by
  unfold State.bellReceived
  dsimp only
  repeat' split
  all_goals exact h.update

theorem SafeKept.enterIsland (h : SafeKept s r) : SafeKept s r.enterIsland := by
  unfold State.enterIsland
  dsimp only
  split <;> exact h.update

theorem SafeKept.passBell (h : SafeKept s r) (f : BellFrame) : SafeKept s (r.passBell f) :=
  h.trans ((Keeps.refl r).passBell f).safeKept

theorem SafeKept.bellLost (h : SafeKept s r) : SafeKept s r.bellLost := h.update

theorem SafeKept.emitIsland (h : SafeKept s r) : SafeKept s r.emitIsland := SafeKept.passBell h.update _

theorem SafeKept.bellArrives (h : SafeKept s r) (f : BellFrame) (offset : Word) : SafeKept s (r.bellArrives f offset) := by
  have received (k : BellKind) := (h.passBell f).bellReceived (bellEpoch f) k offset
  unfold State.bellArrives
  split
  · exact h
  · split
    · exact .bellLost (.passBell h.update f)
    · split
      · split
        · exact h
        · exact (received .island).enterIsland
      · exact (received .head).update

theorem execBellFrame_safeKept (t : Ticks) (f : BellFrame) (offset : Word) (s : State) :
    Completes (SafeKept s) (execBellFrame t f offset s) :=
  .next (((Keeps.refl s).tick t).safeKept.bellArrives f offset)

theorem execIslandBellFrame_safeKept (t : Ticks) (f : BellFrame) (offset : Word) (s : State) :
    Completes (SafeKept s) (execIslandBellFrame t f offset s) :=
  .ite (.next (((Keeps.refl s).tick t).safeKept.bellArrives f offset)) (.next (.refl s))

theorem execRidgeTimeout_safeKept (t : Ticks) (s : State) : Completes (SafeKept s) (execRidgeTimeout t s) := by
  have a := ((Keeps.refl s).tick t).safeKept
  exact .ite (.next (SafeKept.emitIsland a.enterIsland.update)) (.next a)

theorem execIslandBellEmit_safeKept (s : State) : Completes (SafeKept s) (execIslandBellEmit s) :=
  .ite (.next (SafeKept.refl s).emitIsland) (.next (.refl s))

/-! ### The delay and the alignment of the bell -/

theorem SafeKept.delayTaken (h : SafeKept s r) (f : Frame) : SafeKept s (r.delayTaken f) := h.update

theorem execSetDelay_safeKept (slot : Fin 36) (f : Frame) (s : State) : Completes (SafeKept s) (execSetDelay slot f s) :=
  .ite (.next (s.takeSlot_cases slot f _ (fun _ k => k.safeKept) fun _ k => k.safeKept.delayTaken f)) (.next (.refl s))

/-- A request is a SET_DELAY, or keeps the bell too. -/
theorem SafeKept.request (h : SafeKept s r) (slot : Fin 36) (f : Frame) : SafeKept s (r.request slot f) := by
  by_cases hf : (Frame.type f).toNat = 2
  · unfold State.request
    rw [hf]
    exact h.delayTaken f
  · exact h.trans ((Keeps.refl r).request slot f hf).safeKept

theorem execSlotRequestA_safeKept (slot : Fin 36) (f : Frame) (s : State) : Completes (SafeKept s) (execSlotRequestA slot f s) :=
  .next (s.takeSlot_cases slot f _ (fun _ k => k.safeKept) fun _ k => k.safeKept.request slot f)

theorem execEnumRoll_safeKept (slot : Fin 36) (t : Ticks) (f : Frame) (s : State) :
    Completes (SafeKept s) (execEnumRoll slot t f s) := by
  have a := ((Keeps.refl s).tick t).countCrc .a f
  unfold execEnumRoll
  generalize (s.tick t).countCrc .a f = r at a ⊢
  have pass (g : Frame) := (a.passA slot g).safeKept
  exact .ite (.next (pass f)) (.ite (.next (pass f).update) (.ite (.next (pass _).update) (.next (pass _).update)))

/-! ### Boundaries -/

theorem SafeKept.boundary (h : SafeKept s r) (e : DWord) (obs : BellObs) : SafeKept s (r.boundary e obs) := by
  obtain ⟨-, -, bridges, fuses, group⟩ := r.boundary_spec e obs
  exact h.trans ⟨fun safe => ⟨bridges safe.bridges, fuses safe.fuses, group safe.group⟩⟩

theorem SafeKept.serveDue (h : SafeKept s r) : SafeKept s r.serveDue := h.trans (Keeps.refl r).serveDue.safeKept

theorem execBellBoundary_safeKept (obs : BellObs) (s : State) : Completes (SafeKept s) (execBellBoundary obs s) := by
  have idle : SafeKept s s.serveDue := (SafeKept.refl s).serveDue
  unfold execBellBoundary
  split
  · exact .ite (.next (SafeKept.boundary (SafeKept.refl s).update ..).serveDue) (.next idle)
  · exact .next idle

theorem execFlywheelBell_safeKept (obs : BellObs) (s : State) : Completes (SafeKept s) (execFlywheelBell obs s) := by
  have lost := (SafeKept.refl s).bellLost
  exact .ite (.next (SafeKept.boundary lost.update ..).serveDue) (.ite (.next lost.serveDue) (.next (SafeKept.refl s).serveDue))

/-! ### Every command -/

theorem exec_safeKept (s : State) (c : Instr) : Completes (SafeKept s) (exec c s) := by
  cases hc : leavesBell c with
  | true => exact (exec_keeps s c hc).mono fun _ => Keeps.safeKept
  | false =>
    unfold exec
    cases c with
    | powerReset => exact execPowerReset_safeKept ..
    | watchCheckReset => exact execWatchCheckReset_safeKept ..
    | safetyMonitorReset => exact execSafetyMonitorReset_safeKept ..
    | resetRelease => exact execResetRelease_safeKept ..
    | rootFail => exact execRootFail_safeKept ..
    | bellFrame => exact execBellFrame_safeKept ..
    | islandBellFrame => exact execIslandBellFrame_safeKept ..
    | flywheelBell => exact execFlywheelBell_safeKept ..
    | ridgeTimeout => exact execRidgeTimeout_safeKept ..
    | islandBellEmit => exact execIslandBellEmit_safeKept ..
    | bellBoundary => exact execBellBoundary_safeKept ..
    | slotRequestA => exact execSlotRequestA_safeKept ..
    | enumRoll => exact execEnumRoll_safeKept ..
    | setDelay => exact execSetDelay_safeKept ..
    | _ => cases hc

theorem step_safeKept {t : State} (hst : step s = .next t) : SafeKept s t := by
  unfold step at hst
  split at hst
  · cases hst
    exact .refl s
  · rename_i c rest _
    obtain ⟨u, hu, kept⟩ := exec_safeKept { s with pending := rest } c
    cases hu.symm.trans hst
    exact SafeKept.trans (SafeKept.refl s).update kept

/-- Settles O58: every command keeps the invariant, and the invariant holds what is said of group 0 and of each half-bridge. -/
theorem stepsKeepSafeStates : Obligations.StepsKeepSafeStates := by
  intro s t safe hst
  have kept := (step_safeKept hst).safe safe
  exact ⟨kept, kept.group.1, fun n k => (kept.bridges n k).one⟩

end Sys2Proof.Machine
end

section
/-! SUPPORT. What a queue group holds once it has moved without FORCE (R255, R257). -/

namespace Sys2Proof.Machine

-- One proof at a time: proofs elaborated side by side would wait for each other, each with its own stack.
set_option Elab.async false

/-- Without FORCE a moved queue group goes on holding its entries and tags, those of commands accepted since its ASSIGN applied (R304; log
entry 39). -/
theorem State.moveGroup_held_of_not_force (s : State) (g : Fin 16) (new : Option Pitch) :
    (s.moveGroup g new false).q.held = s.q.held := by
  simp only [State.moveGroup, Bool.false_and, Bool.not_false, List.filter_true]

/-- Refutes O37: it says that a moved queue group holds nothing, with FORCE or without. Here group 1 of P1, whose queue 4 holds the entry of
an accepted command, moves to P0 without FORCE, and the entry stays. -/
theorem not_assignMovesOneObject : ¬ Obligations.AssignMovesOneObject := by
  rintro ⟨-, -, -, -, -, -, -, group⟩
  let entry : Held := { pitch := 1, queue := 4, seq := 0, tag := 0 }
  let s : State := {
    pit := { own := { group := (Vector.replicate 16 none).set 0 (some 0) |>.set 1 (some 1) } }
    q := { held := [entry] } }
  obtain ⟨-, holdsNothing⟩ := group s 1 0 false
  have stays : entry ∈ (s.moveGroup 1 (ownerOf 0) false).q.held := by
    rw [s.moveGroup_held_of_not_force]
    exact List.mem_singleton_self entry
  exact holdsNothing entry stays (by decide)

end Sys2Proof.Machine
end

section
/-! SUPPORT. How a row that applies a command ends: refused before its effect, or completed by it (R307, R308, R310). -/

namespace Sys2Proof.Machine

-- One proof at a time: proofs elaborated side by side would wait for each other, each with its own stack.
set_option Elab.async false

/-! ### The opcode that a row gives its command -/

@[simp] theorem opcodeOf_code (o : Opcode) : opcodeOf o.code = some o := by cases o <;> rfl

@[simp] theorem Desc.flags_toNat (d : Desc) : (Desc.flags d).toNat = d.w0.toNat % 256 := by simp [Desc.flags, bits]

theorem Desc.withOpcode_w0_toNat (d : Desc) (b : Byte) : (d.withOpcode b).w0.toNat = 256 * b.toNat + d.w0.toNat % 256 := by
  have append : (b ++ Desc.flags d).toNat = b.toNat <<< 8 ||| (Desc.flags d).toNat := BitVec.toNat_append ..
  rw [Desc.withOpcode, append, ← Nat.shiftLeft_add_eq_or_of_lt (Desc.flags d).isLt, Nat.shiftLeft_eq, Desc.flags_toNat, Nat.mul_comm]

@[simp] theorem Desc.opcode_withOpcode (d : Desc) (b : Byte) : Desc.opcode (d.withOpcode b) = b := by
  apply BitVec.eq_of_toNat_eq
  simp only [Desc.opcode, bits, Desc.withOpcode_w0_toNat, BitVec.toNat_ofNat]
  omega

@[simp] theorem flagsFit_withOpcode (c : Cmd) (o p : Opcode) : flagsFit (Cmd.withOpcode c o) p = flagsFit c p := by
  have lane : bits (c.desc.withOpcode o.code).w0 3 5 = bits c.desc.w0 3 5 := by
    simp only [bits, Desc.withOpcode_w0_toNat]
    omega
  have other : bits (c.desc.withOpcode o.code).w0 0 8 = bits c.desc.w0 0 8 := by
    simp only [bits, Desc.withOpcode_w0_toNat]
    omega
  simp only [flagsFit, Cmd.withOpcode, lane, other]

@[simp] theorem Cmd.withOpcode_pitch (c : Cmd) (o : Opcode) : (Cmd.withOpcode c o).pitch = c.pitch := rfl
@[simp] theorem Cmd.withOpcode_door (c : Cmd) (o : Opcode) : (Cmd.withOpcode c o).door = c.door := rfl
@[simp] theorem Cmd.withOpcode_queue (c : Cmd) (o : Opcode) : (Cmd.withOpcode c o).queue = c.queue := rfl
@[simp] theorem Cmd.withOpcode_desc (c : Cmd) (o : Opcode) : (Cmd.withOpcode c o).desc = c.desc.withOpcode o.code := rfl

/-! ### Refusals before the effect -/

/-- Where the queue group, the hold, the closure and the FLAGS of a command let it pass, only its issuer or object can refuse it. -/
theorem State.refusal_of_admits {s : State} {c : Cmd} {o : Opcode} (h : s.admits c o) :
    s.refusal (Cmd.withOpcode c o) = s.issuerRefusal (Cmd.withOpcode c o) o := by
  obtain ⟨queue, hold, market, flags⟩ := h
  have owned : ¬ (c.door ≠ .register ∧ (!s.ownsQueue c.pitch c.queue) = true) := by
    rcases queue with h | h <;> simp [h]
  have awake : (s.q.hold && !o.duringHold) = false := by rcases hold with h | h <;> simp [h]
  have opened : (s.dev.closed && !o.whileClosed) = false := by rcases market with h | h <;> simp [h]
  unfold State.refusal
  simp only [Cmd.withOpcode_pitch, Cmd.withOpcode_door, Cmd.withOpcode_queue, Cmd.withOpcode_desc, Desc.opcode_withOpcode,
    opcodeOf_code, Option.any_some, owned, awake, opened, flagsFit_withOpcode, flags]
  cases s.issuerRefusal (Cmd.withOpcode c o) o <;> rfl

/-! ### The two ends of a row -/

variable {s : State} {c : Cmd} {o : Opcode} {f : Applied → State → Effect}

/-- A command refused before its effect answers that status and does nothing else. -/
theorem State.commandRow_of_refusal {st : Byte} (h : s.refusal (Cmd.withOpcode c o) = some st) :
    s.commandRow o c f = .next ((s.taken o c).answered (s.appliedAs o c) st).serveDue := by
  unfold State.commandRow State.applyRow State.applyWith
  dsimp only
  split <;> rename_i refused
  · cases refused.symm.trans h
    rfl
  · cases refused.symm.trans h

/-- A command that completes at once answers what its effect gives. -/
theorem State.commandRow_of_done {u : State} {st : Byte} {r0 r1 r2 r3 : Word} (h : s.refusal (Cmd.withOpcode c o) = none)
    (done : f (s.appliedAs o c) (s.taken o c) = u.done st r0 r1 r2 r3) :
    s.commandRow o c f = .next (u.answered (s.appliedAs o c) st r0 r1 r2 r3).serveDue := by
  rw [State.done] at done
  unfold State.commandRow State.applyRow State.applyWith
  dsimp only
  split <;> rename_i refused
  · cases refused.symm.trans h
  · split <;> rename_i effect
    · cases effect.symm.trans done
      rfl
    · cases effect.symm.trans done

end Sys2Proof.Machine
end

section
/-! SUPPORT. The lease (R322, R324) and the bench hold (R325) at the application of their commands. -/

namespace Sys2Proof.Machine

-- One proof at a time: proofs elaborated side by side would wait for each other, each with its own stack.
set_option Elab.async false

variable {s : State} {c : Cmd}

/-! ### The lease -/

/-- The lease may be renewed from the host door and the host pitch alone (R324). -/
theorem State.issuerRefusal_leaseRenew (s : State) (c : Cmd) :
    s.issuerRefusal c .leaseRenew = if c.door = .host ∧ c.pitch = s.pit.hostPitch then none else some stNoObject := by
  simp only [State.issuerRefusal, decide_eq_true_eq]

/-- Argument byte 0, where it is not 0, is the new length, else the length stays (R322). -/
theorem leaseLength_eq (w : Word) (l : Byte) : (if BitVec.ofNat 8 (bits w 0 8) = 0 then l else BitVec.ofNat 8 (bits w 0 8)) =
    if bits w 0 8 = 0 then l else BitVec.ofNat 8 (bits w 0 8) := by
  have zero : BitVec.ofNat 8 (bits w 0 8) = 0 ↔ bits w 0 8 = 0 := by
    rw [← BitVec.toNat_inj]
    simp [bits]
  simp only [zero]

/-- The effect of a LEASE_RENEW with consistent arguments from the host door and the host pitch (R322). -/
theorem effLeaseRenew_of_host {a : Applied} (door : a.cmd.door = .host) (pitch : a.cmd.pitch = s.pit.hostPitch)
    (high : bits a.cmd.desc.w3 8 8 = 0) (rest : restZero a.cmd.desc 1 = true) :
    let len : Byte := if bits a.cmd.desc.w3 0 8 = 0 then s.host.leaseLen else BitVec.ofNat 8 (bits a.cmd.desc.w3 0 8)
    effLeaseRenew a s = (({ s with host := { s.host with
      leaseLen := len, leaseLeft := len.toNat, leaseOn := true, leaseOut := false } }).done stOk) := by
  simp only [effLeaseRenew, door, pitch, high, rest, leaseLength_eq, ne_eq, not_true, or_false, Bool.not_true, Bool.false_eq_true,
    if_false]

theorem execLeaseRenew_of_ring (h : s.admits c .leaseRenew) (door : c.door = .ring) :
    execLeaseRenew c s = .next ((s.taken .leaseRenew c).answered (s.appliedAs .leaseRenew c) stNoObject).serveDue := by
  refine State.commandRow_of_refusal ?_
  rw [State.refusal_of_admits h, State.issuerRefusal_leaseRenew, Cmd.withOpcode_door, door, if_neg (by simp)]

theorem execLeaseRenew_of_host (h : s.admits c .leaseRenew) (door : c.door = .host) (pitch : c.pitch = s.pit.hostPitch)
    (high : bits c.desc.w3 8 8 = 0) (rest : restZero c.desc 1 = true) :
    let u := s.taken .leaseRenew c
    let len : Byte := if bits c.desc.w3 0 8 = 0 then s.host.leaseLen else BitVec.ofNat 8 (bits c.desc.w3 0 8)
    execLeaseRenew c s = .next (({ u with host := { u.host with
      leaseLen := len, leaseLeft := len.toNat, leaseOn := true, leaseOut := false } }).answered
        (s.appliedAs .leaseRenew c) stOk).serveDue := by
  intro u len
  have done : effLeaseRenew (s.appliedAs .leaseRenew c) u = State.done { u with host := { u.host with
      leaseLen := len, leaseLeft := len.toNat, leaseOn := true, leaseOut := false } } stOk :=
    effLeaseRenew_of_host door pitch high rest
  refine State.commandRow_of_done ?_ done
  rw [State.refusal_of_admits h, State.issuerRefusal_leaseRenew, Cmd.withOpcode_door, Cmd.withOpcode_pitch, if_pos ⟨door, pitch⟩]

/-! ### The bench hold -/

/-- BENCH_HOLD and BENCH_RELEASE are P0's alone (R325). -/
theorem State.issuerRefusal_bench (s : State) (c : Cmd) {o : Opcode} (bench : o = .benchHold ∨ o = .benchRelease) :
    s.issuerRefusal c o = if c.pitch = 0 then none else some stNoObject := by
  rcases bench with rfl | rfl <;> simp only [State.issuerRefusal, decide_eq_true_eq]

theorem effBench_of_p0 {a : Applied} (on : Bool) (pitch : a.cmd.pitch = 0) (rest : restZero a.cmd.desc 0 = true) :
    effBench on a s = ({ s with q := { s.q with holdNext := some on } }).done stOk := by
  simp [effBench, pitch, rest]

theorem State.benchRow_of_ne_p0 {o : Opcode} (bench : o = .benchHold ∨ o = .benchRelease) (on : Bool) (pitch : c.pitch ≠ 0)
    (h : s.admits c o) :
    s.commandRow o c (effBench on) = .next ((s.taken o c).answered (s.appliedAs o c) stNoObject).serveDue := by
  refine State.commandRow_of_refusal ?_
  rw [State.refusal_of_admits h, State.issuerRefusal_bench _ _ bench, Cmd.withOpcode_pitch, if_neg pitch]

theorem State.benchRow_of_p0 {o : Opcode} (bench : o = .benchHold ∨ o = .benchRelease) (on : Bool) (pitch : c.pitch = 0)
    (rest : restZero c.desc 0 = true) (h : s.admits c o) :
    let u := s.taken o c
    s.commandRow o c (effBench on) =
      .next (({ u with q := { u.q with holdNext := some on } }).answered (s.appliedAs o c) stOk).serveDue := by
  intro u
  have done : effBench on (s.appliedAs o c) u = State.done { u with q := { u.q with holdNext := some on } } stOk :=
    effBench_of_p0 on pitch rest
  refine State.commandRow_of_done ?_ done
  rw [State.refusal_of_admits h, State.issuerRefusal_bench _ _ bench, Cmd.withOpcode_pitch, if_pos pitch]

/-- Settles O35: the issuer refuses a renewal through the ring and a bench hold of another pitch than P0; past it the effect acts. -/
theorem ringLeaseRenewalFindsNoObject : Obligations.RingLeaseRenewalFindsNoObject :=
  ⟨fun _ _ h door => execLeaseRenew_of_ring h door,
   fun _ _ pitch => ⟨State.benchRow_of_ne_p0 (.inl rfl) true pitch, State.benchRow_of_ne_p0 (.inr rfl) false pitch⟩,
   fun _ _ h door pitch high rest => execLeaseRenew_of_host h door pitch high rest,
   fun _ _ pitch rest => ⟨State.benchRow_of_p0 (.inl rfl) true pitch rest, State.benchRow_of_p0 (.inr rfl) false pitch rest⟩⟩

end Sys2Proof.Machine
end

section
/-! SUPPORT. COMMIT_BATTEN of a set that its batten's rule calls inconsistent (R345, R346, R353, R355 to R357, R405, R452, R458, R491, R540,
R580): each rule as a condition on the registers, and the answer of the commit. -/

namespace Sys2Proof.Machine

-- One proof at a time: proofs elaborated side by side would wait for each other, each with its own stack.
set_option Elab.async false

/-! ### Fields as quotients and remainders -/

theorem bits_low {w : Nat} (x : BitVec w) (n : Nat) : bits x 0 n = x.toNat % 2 ^ n := by simp [bits]

theorem bits_high {w lo n : Nat} (x : BitVec w) (h : lo + n = w) : bits x lo n = x.toNat / 2 ^ lo := by
  subst h
  exact Nat.mod_eq_of_lt (Nat.div_lt_of_lt_mul (Nat.pow_add 2 lo n ▸ x.isLt))

/-- Bits from `lo` to the top are 0 in exactly the numbers below `2 ^ lo`: how each rule's reserved bits read as a bound. -/
theorem bits_high_ne_zero {w lo n : Nat} (x : BitVec w) (h : lo + n = w) : bits x lo n ≠ 0 ↔ 2 ^ lo ≤ x.toNat := by
  rw [bits_high x h, Nat.div_ne_zero_iff]
  simp

/-- Two-bit field `k` of a word. -/
theorem bits_pair {w : Nat} (x : BitVec w) (k : Nat) : bits x (2 * k) 2 = x.toNat / 4 ^ k % 4 := by simp [bits, Nat.pow_mul]

theorem bit_iff {w : Nat} (x : BitVec w) (k : Nat) : bit x k = true ↔ x.toNat / 2 ^ k % 2 = 1 := by
  rw [bit, ← BitVec.testBit_toNat, Nat.testBit_eq_decide_div_mod_eq, decide_eq_true_eq]

/-! ### CARRIER (R355) -/

/-- The CARRIER set breaks the conditions of a COT mode on the phase that the mode times. -/
def CarrierSet.BreaksCot (x : CarrierSet) (phase : Nat) : Prop :=
  x.periodMin.toNat < 800 ∨ x.periodMax.toNat < x.periodMin.toNat ∨ phase ≤ x.dead + x.minPulse ∨
    x.periodMin.toNat < phase + x.minPulse ∨ phase ≤ x.sampleAt.toNat

/-- The CARRIER set breaks the conditions of EDGE. -/
def CarrierSet.BreaksEdge (x : CarrierSet) : Prop :=
  x.period.toNat < 800 ∨ x.period.toNat ≤ 2 * (x.dead + x.minPulse) ∨ x.period.toNat ≤ x.sampleAt.toNat

section
variable {x : CarrierSet}

theorem CarrierSet.bad_of_edge (h : x.mode = 0) : x.bad = true ↔ x.BreaksEdge := by
  simp [bad, h, BreaksEdge, BitVec.le_def, or_assoc]

theorem CarrierSet.bad_of_cotOn (h : x.mode = 1) : x.bad = true ↔ x.BreaksCot x.tOn.toNat := by
  simp [bad, h, BreaksCot, BitVec.le_def, BitVec.lt_def, or_assoc]

theorem CarrierSet.bad_of_cotOff (h : x.mode = 2) : x.bad = true ↔ x.BreaksCot x.tOff.toNat := by
  simp [bad, h, BreaksCot, BitVec.le_def, BitVec.lt_def, or_assoc]

theorem CarrierSet.bad_of_no_mode (h : x.mode = 3) : x.bad = true := by simp [bad, h]

theorem CarrierSet.mode_cases (x : CarrierSet) : x.mode = 0 ∨ x.mode = 1 ∨ x.mode = 2 ∨ x.mode = 3 := by
  simp only [mode, bits]
  omega

theorem CarrierSet.bad_iff_of_mode (x : CarrierSet) : x.bad = true ↔
    x.mode = 3 ∨ x.mode = 1 ∧ x.BreaksCot x.tOn.toNat ∨ x.mode = 2 ∧ x.BreaksCot x.tOff.toNat ∨ x.mode = 0 ∧ x.BreaksEdge := by
  obtain h | h | h | h := x.mode_cases
  · simp [bad_of_edge h, h]
  · simp [bad_of_cotOn h, h]
  · simp [bad_of_cotOff h, h]
  · simp [bad_of_no_mode h, h]
end

theorem CarrierSet.bad_iff (x : CarrierSet) : x.bad = true ↔
    let mode := x.ctrl.toNat % 4
    let sum := x.deadMp.toNat % 256 + x.deadMp.toNat / 256
    let cot (phase : Nat) : Prop := x.periodMin.toNat < 800 ∨ x.periodMax.toNat < x.periodMin.toNat ∨ phase ≤ sum ∨
      x.periodMin.toNat < phase + x.deadMp.toNat / 256 ∨ phase ≤ x.sampleAt.toNat
    mode = 3 ∨ mode = 1 ∧ cot x.tOn.toNat ∨ mode = 2 ∧ cot x.tOff.toNat ∨
      mode = 0 ∧ (x.period.toNat < 800 ∨ x.period.toNat ≤ 2 * sum ∨ x.period.toNat ≤ x.sampleAt.toNat) := by
  have mode : x.mode = x.ctrl.toNat % 4 := bits_low ..
  have dead : x.dead = x.deadMp.toNat % 256 := bits_low ..
  have minPulse : x.minPulse = x.deadMp.toNat / 256 := bits_high _ rfl
  rw [x.bad_iff_of_mode, CarrierSet.BreaksCot, CarrierSet.BreaksCot, CarrierSet.BreaksEdge, mode, dead, minPulse]

/-! ### POLICY (R357) -/

theorem State.battenBad_policy_iff (s : State) (n : LaneIx) : s.battenBad (.policy n) = true ↔
    (s.ln n).car.policyShadow.toNat / 8 % 2 = 1 ∨ 128 ≤ (s.ln n).car.policyShadow.toNat := by
  simp only [State.battenBad, Bool.or_eq_true, bit_iff, bne_iff_ne, bits_high_ne_zero, Nat.reduceAdd, Nat.reducePow]

/-! ### MASK (R345, R346, R356) -/

/-- R345 for the states 0 FLOAT, 1 LOW, 2 HIGH, 3 PWM of the three phases. -/
def ValidStates (st : PhaseIx → Nat) : Prop :=
  ∃ i j k : PhaseIx, i ≠ j ∧ i ≠ k ∧ j ≠ k ∧ st i = 0 ∧ (st j = 3 ∧ st k = 1 ∨ st j = 2 ∧ st k = 1 ∨ st j = 2 ∧ st k = 3)

theorem rowState_eq (r : Word) (k : PhaseIx) : rowState r k = r.toNat / 4 ^ k.val % 4 := bits_pair ..

/-- One FLOAT and no state twice leaves one of the three pairs of R345: all 64 rows. -/
theorem count_states_iff (u v w : Fin 4) :
    ([u.val, v.val, w.val].count 0 = 1 ∧ [u.val, v.val, w.val].count 1 ≤ 1 ∧ [u.val, v.val, w.val].count 2 ≤ 1 ∧
      [u.val, v.val, w.val].count 3 ≤ 1) ↔ ValidStates ![u.val, v.val, w.val] := by
  revert u v w
  unfold ValidStates
  decide

theorem rowValid_iff (r : Word) : rowValid r = true ↔ ValidStates fun k => r.toNat / 4 ^ k.val % 4 := by
  have small (k : PhaseIx) : rowState r k < 4 := Nat.mod_lt _ (by decide)
  have all := count_states_iff ⟨rowState r 0, small 0⟩ ⟨rowState r 1, small 1⟩ ⟨rowState r 2, small 2⟩
  have states : ![rowState r 0, rowState r 1, rowState r 2] = fun k => r.toNat / 4 ^ k.val % 4 := by
    funext k
    fin_cases k <;> exact rowState_eq ..
  rw [rowValid, decide_eq_true_eq, ← states]
  exact all

theorem MaskSet.shootThrough_iff (x : MaskSet) : x.shootThrough = true ↔ ∃ (r : Fin 6) (k : PhaseIx),
    rowState x.rows[r] k ≠ rowState x.rows[r + 1] k ∧ rowState x.rows[r] k ≠ 0 ∧ rowState x.rows[r + 1] k ≠ 0 := by
  have phases (k : PhaseIx) : k ∈ phaseIxs := by revert k; decide
  simp [shootThrough, phases, nextRow]

theorem MaskSet.bad_iff (x : MaskSet) : x.bad = true ↔
    let st (r : Fin 6) (k : PhaseIx) : Nat := x.rows[r].toNat / 4 ^ k.val % 4
    (∃ r : Fin 6, ¬ ValidStates (st r)) ∨ ∃ (r : Fin 6) (k : PhaseIx), st r k ≠ st (r + 1) k ∧ st r k ≠ 0 ∧ st (r + 1) k ≠ 0 := by
  have row : (List.finRange 6).any (fun r => !rowValid x.rows[r]) = true ↔ ∃ r : Fin 6, ¬ rowValid x.rows[r] = true := by simp
  simp only [bad, Bool.or_eq_true, row, rowValid_iff, shootThrough_iff, rowState_eq]

/-! ### SENSE (R405) -/

theorem SenseSet.low_eq (x : SenseSet) : x.low =
    if x.winLo.toNat % 2048 < 1024 then (x.winLo.toNat % 2048 : Int) else x.winLo.toNat % 2048 - 2048 := by
  have low : (x.winLo.setWidth 11).toNat = x.winLo.toNat % 2048 := BitVec.toNat_setWidth ..
  rw [SenseSet.low, BitVec.toInt_eq_toNat_cond, low]
  split <;> split <;> omega

theorem SenseSet.any_route_iff (x : SenseSet) :
    ([0, 1, 2, 3, 4].any fun i => x.routeOf i == 3) = true ↔ ∃ k : Fin 5, x.route.toNat / 4 ^ k.val % 4 = 3 := by
  simp [routeOf, bits_pair, Fin.exists_fin_succ]

theorem SenseSet.bad_iff (x : SenseSet) : x.bad = true ↔
    let ilim := x.ilim.toNat % 1024
    let hi := x.winHi.toNat % 1024
    let lo : Int := if x.winLo.toNat % 2048 < 1024 then x.winLo.toNat % 2048 else x.winLo.toNat % 2048 - 2048
    ilim = 0 ∨ 895 < ilim ∨ hi ≤ ilim ∨ 895 < hi ∨ 0 ≤ lo ∨ lo < -128 ∨ ∃ k : Fin 5, x.route.toNat / 4 ^ k.val % 4 = 3 := by
  have limit : bits x.ilim 0 10 = x.ilim.toNat % 1024 := bits_low ..
  have high : bits x.winHi 0 10 = x.winHi.toNat % 1024 := bits_low ..
  simp only [bad, limit, high, x.low_eq, Bool.or_eq_true, any_route_iff, beq_iff_eq, decide_eq_true_eq, gt_iff_lt, ge_iff_le, or_assoc]

/-! ### COMMUT (R452) -/

theorem CommutSet.bad_iff (x : CommutSet) : x.bad = true ↔
    x.ctrl.toNat % 4 = 3 ∨ 5 < x.ctrl.toNat / 8 % 8 ∨ 30 < x.advance.toNat % 32 ∨ x.runMin = 0 ∨ 0xBB80 < x.runMin.toNat ∨
      0x03C0 < x.revLimit.toNat ∨ x.accel = 0 ∨ x.decel = 0 ∨ 2048 ≤ x.ctrl.toNat ∨ 256 ≤ x.blankMin.toNat ∨
      32 ≤ x.advance.toNat ∨ 256 ≤ x.restartDelay.toNat := by
  have stop : bits x.ctrl 0 2 = x.ctrl.toNat % 4 := bits_low ..
  have advance : x.advanceDeg = x.advance.toNat % 32 := bits_low ..
  have stall : bits x.ctrl 3 3 = x.ctrl.toNat / 8 % 8 := rfl
  simp only [bad, stop, advance, stall, Bool.or_eq_true, beq_iff_eq, bne_iff_ne, decide_eq_true_eq, gt_iff_lt, or_assoc,
    bits_high_ne_zero, Nat.reduceAdd, Nat.reducePow]

/-! ### GATE (R458, R491) -/

theorem GateSet.reserved_iff (x : GateSet) : x.reserved = true ↔
    x.ctrl.toNat / 8 % 2 = 1 ∨ x.ctrl.toNat / 128 % 2 = 1 ∨ 2048 ≤ x.ctrl.toNat ∨ 4096 ≤ x.vdsCfg.toNat ∨ 2048 ≤ x.retryCfg.toNat ∨
      4096 ≤ x.openLevel.toNat := by
  simp only [reserved, Bool.or_eq_true, bne_iff_ne, bit_iff, bits_high_ne_zero, Nat.reduceAdd, Nat.reducePow]
  omega

theorem State.pinForbidden_iff (s : State) (n : LaneIx) (x : GateSet) : s.pinForbidden n x = true ↔
    x.ctrl.toNat % 2 = 1 ∧ (2 ≤ n.val ∨ s.fuse.cfg100.getLsbD (6 + n.val) = false) := by
  have pin : x.pin = true ↔ x.ctrl.toNat % 2 = 1 := by rw [GateSet.pin, bit_iff, pow_zero, Nat.div_one]
  have lane : (!(decide (n.val < 2) && bit s.fuse.cfg100 (6 + n.val))) = true ↔
      2 ≤ n.val ∨ s.fuse.cfg100.getLsbD (6 + n.val) = false := by
    rw [Bool.not_and, Bool.or_eq_true, Bool.not_eq_true', Bool.not_eq_true', decide_eq_false_iff_not, Nat.not_lt, bit]
  rw [State.pinForbidden, Bool.and_eq_true, pin, lane]

theorem State.battenBad_gate_iff (s : State) (n : LaneIx) : s.battenBad (.gate n) = true ↔
    let x := (s.ln n).gate.set.shadow
    x.retryCfg.toNat % 256 = 0 ∨ (x.ctrl.toNat % 2 = 1 ∧ (2 ≤ n.val ∨ s.fuse.cfg100.getLsbD (6 + n.val) = false)) ∨
      x.ctrl.toNat / 8 % 2 = 1 ∨ x.ctrl.toNat / 128 % 2 = 1 ∨ 2048 ≤ x.ctrl.toNat ∨ 4096 ≤ x.vdsCfg.toNat ∨
      2048 ≤ x.retryCfg.toNat ∨ 4096 ≤ x.openLevel.toNat := by
  have wait : (s.ln n).gate.set.shadow.retryWait = (s.ln n).gate.set.shadow.retryCfg.toNat % 256 := bits_low ..
  simp only [State.battenBad, wait, Bool.or_eq_true, beq_iff_eq, GateSet.reserved_iff, State.pinForbidden_iff]
  exact or_assoc.trans (or_congr_right or_comm)

/-! ### TRACK (R540) -/

theorem TrackSet.bad_iff (x : TrackSet) : x.bad = true ↔
    let f := x.cls.toNat % 256
    let r := x.cls.toNat / 256
    let c := x.cfg.toNat % 256
    let k := x.cfg.toNat / 256 % 16
    f < 4 ∨ 10 * r < 18 * f ∨ 10 * c < 18 * r ∨ k < 4 ∨ 10 < k ∨ x.tol.toNat % 64 < 1 ∨ 16 < x.tol.toNat % 64 ∨ x.slow = 0 ∨
      x.still.toNat % 256 < 100 ∨ 4096 ≤ x.cfg.toNat ∨ 64 ≤ x.tol.toNat ∨ 256 ≤ x.still.toNat := by
  have forward : bits x.cls 0 8 = x.cls.toNat % 256 := bits_low ..
  have reverse : bits x.cls 8 8 = x.cls.toNat / 256 := bits_high _ rfl
  have neutral : bits x.cfg 0 8 = x.cfg.toNat % 256 := bits_low ..
  have micro : x.k = x.cfg.toNat / 256 % 16 := rfl
  have tolerance : x.tolerance = x.tol.toNat % 64 := bits_low ..
  have still : bits x.still 0 8 = x.still.toNat % 256 := bits_low ..
  simp only [bad, forward, reverse, neutral, micro, tolerance, still, Bool.or_eq_true, beq_iff_eq, bne_iff_ne, decide_eq_true_eq,
    gt_iff_lt, or_assoc, bits_high_ne_zero, Nat.reduceAdd, Nat.reducePow]

/-! ### HEAT (R580) -/

theorem HeatSet.bad_iff (x : HeatSet) : x.bad = true ↔
    let b := x.ntcCfg.toNat / 256
    let warn := x.ntcLim.toNat % 256
    let stop := x.ntcLim.toNat / 256
    b < 100 ∨ 250 < b ∨ x.ntcCfg.toNat % 256 = 0 ∨ 150 < stop ∨ stop < warn + 5 ∨ 32768 ≤ x.sw.toNat := by
  have beta : bits x.ntcCfg 8 8 = x.ntcCfg.toNat / 256 := bits_high _ rfl
  have stop : bits x.ntcLim 8 8 = x.ntcLim.toNat / 256 := bits_high _ rfl
  have warn : bits x.ntcLim 0 8 = x.ntcLim.toNat % 256 := bits_low ..
  have r25 : bits x.ntcCfg 0 8 = x.ntcCfg.toNat % 256 := bits_low ..
  have top : bit x.sw 15 = true ↔ 32768 ≤ x.sw.toNat := by
    have := x.sw.isLt
    rw [bit_iff]
    omega
  simp only [bad, beta, stop, warn, r25, top, Bool.or_eq_true, beq_iff_eq, decide_eq_true_eq, gt_iff_lt, or_assoc]

/-! ### The commit (R353) -/

section
variable {s : State} {c : Cmd} {b : BattenId}

theorem State.commitCheck_of_bad {p : Pitch} (d : Desc) (own : s.ownsBatten p b = true) (bad : s.battenBad b = true) :
    s.commitCheck p d b = some stInconsistent := by
  simp [State.commitCheck, own, bad]

theorem State.commitBatten_of_bad {a : Applied} (batten : battenOf (blockPage a.cmd.desc) (bits a.cmd.desc.w3 0 4) = some b)
    (own : s.ownsBatten a.cmd.pitch b = true) (bad : s.battenBad b = true) : s.commitBatten a = s.done stInconsistent := by
  simp only [State.commitBatten, batten, State.commitCheck_of_bad _ own bad]

/-- Taking a command from those that wait touches neither a batten's owner nor its shadow set. -/
@[simp] theorem State.taken_ownsBatten (o : Opcode) (p : Pitch) : (s.taken o c).ownsBatten p b = s.ownsBatten p b := by
  cases b <;> rfl

@[simp] theorem State.taken_battenBad (o : Opcode) : (s.taken o c).battenBad b = s.battenBad b := by cases b <;> rfl

theorem execCommitBatten_of_bad (h : s.admits c .commitBatten) (batten : battenOf (blockPage c.desc) (bits c.desc.w3 0 4) = some b)
    (own : s.ownsBatten c.pitch b = true) (bad : s.battenBad b = true) :
    execCommitBatten c s = .next ((s.taken .commitBatten c).answered (s.appliedAs .commitBatten c) stInconsistent).serveDue := by
  have done : (s.taken .commitBatten c).commitBatten (s.appliedAs .commitBatten c) = (s.taken .commitBatten c).done stInconsistent :=
    State.commitBatten_of_bad batten ((State.taken_ownsBatten ..).trans own) ((State.taken_battenBad _).trans bad)
  exact State.commandRow_of_done (State.refusal_of_admits h) done
end

/-- Settles O55: the check of a commit finds a bad set before all else but its owner, and each batten's check is its rule's list. -/
theorem inconsistentSetsAreRefused : Obligations.InconsistentSetsAreRefused :=
  ⟨fun _ _ _ h batten own bad => execCommitBatten_of_bad h batten own bad, fun _ _ => CarrierSet.bad_iff _, State.battenBad_policy_iff,
   fun _ _ => CommutSet.bad_iff _, State.battenBad_gate_iff, fun _ _ => SenseSet.bad_iff _, fun _ _ => MaskSet.bad_iff _,
   fun _ _ => TrackSet.bad_iff _, fun _ _ => HeatSet.bad_iff _⟩

end Sys2Proof.Machine
end

section
/-! SUPPORT. The rows of a wheel sensor that is open, short or warned of (R498 to R501) and of its supply tried again (R34, R55, R499). -/

namespace Sys2Proof.Machine

-- One proof at a time: proofs elaborated side by side would wait for each other, each with its own stack.
set_option Elab.async false

variable {s r : State} {n : TrkIx}

/-! ### What reports leave of a tracker -/

@[simp] theorem State.tk_count (s : State) (c i : Nat) (w : Option Pitch) (m : TrkIx) : (s.count c i w).tk m = s.tk m := by
  simp only [State.tk, State.count_trk]

@[simp] theorem State.tk_traceWheel (s : State) (n : TrkIx) (k d : Nat) (v : Word) (m : TrkIx) : (s.traceWheel n k d v).tk m = s.tk m := by
  simp only [State.tk, State.traceWheel_trk]

@[simp] theorem State.tk_trkEvent (s : State) (n : TrkIx) (k : Nat) (w4 w5 w6 w7 : Word) (m : TrkIx) :
    (s.trkEvent n k w4 w5 w6 w7).tk m = s.tk m := by
  simp only [State.tk, State.trkEvent_trk]

@[simp] theorem State.tk_windowEdge (s : State) (n : TrkIx) (w : WinIx) (opening : Bool) (t : Ticks) (m : TrkIx) :
    (s.windowEdge n w opening t).tk m = s.tk m := State.tk_trkEvent ..

/-! ### What leaving sync changes of a tracker (R516, R529) -/

theorem State.tk_closeWindow (s : State) (n : TrkIx) (t : Ticks) (w : WinIx) (stay : Bool) :
    ∃ v, (s.closeWindow n t w stay).tk n = { s.tk n with windows := v } := by
  unfold State.closeWindow
  dsimp only
  split
  · split
    · exact ⟨_, by rw [State.tk_windowEdge, State.tk_traceWheel, State.tk_modTk, Tracker.modWin]⟩
    · exact ⟨_, by rw [State.tk_traceWheel, State.tk_modTk, Tracker.modWin]⟩
  · exact ⟨_, rfl⟩

theorem State.tk_closeWindows (s : State) (n : TrkIx) (t : Ticks) : ∃ v, (s.closeWindows n t).tk n = { s.tk n with windows := v } := by
  unfold State.closeWindows
  induction winIxs generalizing s with
  | nil => exact ⟨_, rfl⟩
  | cons w ws ih =>
    obtain ⟨v, first⟩ := s.tk_closeWindow n t w true
    obtain ⟨v', others⟩ := ih (s.closeWindow n t w true)
    exact ⟨v', by rw [List.foldl_cons, others, first]⟩

theorem State.tk_setSync_unsync (s : State) (n : TrkIx) (t : Ticks) :
    ∃ v prev, (s.setSync n .unsync t).tk n = { s.tk n with sync := .unsync, windows := v, prevSync := prev } := by
  unfold State.setSync
  split
  · rename_i out
    exact ⟨_, _, by rw [← out]⟩
  · obtain ⟨v, closed⟩ := s.tk_closeWindows n t
    refine ⟨v, (s.tk n).prevSync && false, ?_⟩
    simp [closed]

/-- Leaving sync changes what belongs to sync and prediction, and the loss count; a tracker's sensor and supply stay as they are. -/
theorem State.tk_loseSync (s : State) (n : TrkIx) (reason : Word) (t : Ticks) : ∃ v prev losses, (s.loseSync n reason t).tk n =
    { s.tk n with
      sync := .unsync, windows := v, prevSync := prev, syncLossCount := losses
      judged := false, bad := 0, hold := false, skip := false } := by
  obtain ⟨v, prev, left⟩ := s.tk_setSync_unsync n t
  unfold State.loseSync
  dsimp only
  split
  · exact ⟨v, prev, satInc (s.tk n).syncLossCount, by simp [left]⟩
  · exact ⟨v, prev, (s.tk n).syncLossCount, by simp [left]⟩

section
variable (s : State) (n : TrkIx) (reason : Word) (t : Ticks)

@[simp] theorem State.loseSync_sync : ((s.loseSync n reason t).tk n).sync = .unsync := by
  obtain ⟨_, _, _, left⟩ := s.tk_loseSync n reason t
  rw [left]

@[simp] theorem State.loseSync_wsOpen : ((s.loseSync n reason t).tk n).wsOpen = (s.tk n).wsOpen := by
  obtain ⟨_, _, _, left⟩ := s.tk_loseSync n reason t
  rw [left]

@[simp] theorem State.loseSync_wsShort : ((s.loseSync n reason t).tk n).wsShort = (s.tk n).wsShort := by
  obtain ⟨_, _, _, left⟩ := s.tk_loseSync n reason t
  rw [left]

@[simp] theorem State.loseSync_supply : ((s.loseSync n reason t).tk n).supply = (s.tk n).supply := by
  obtain ⟨_, _, _, left⟩ := s.tk_loseSync n reason t
  rw [left]

@[simp] theorem State.loseSync_retryDue : ((s.loseSync n reason t).tk n).retryDue = (s.tk n).retryDue := by
  obtain ⟨_, _, _, left⟩ := s.tk_loseSync n reason t
  rw [left]
end

/-! ### What the owner is told -/

/-- On the way from `s` to `u` the events end with WHEEL_SENSOR of tracker `n` for its owner, with word 4 at `w` (R501). -/
def State.TellsSensor (s : State) (n : TrkIx) (w : Word) (u : State) : Prop :=
  ∀ p, s.trkOwner n = some p → ∃ es, u.q.events = s.q.events ++ es ++ [⟨p, s.eventEntry 0x02 n.val 0x24 w 0 0 0⟩]

/-- Operations on a tracker leave its owner and the epoch as they are, so an event that follows them is as `s` would post it. -/
theorem TrkStep.tellsSensor (h : TrkStep n s r) (w : Word) : s.TellsSensor n w (r.trkEvent n 0x24 w 0 0 0) := by
  intro p owner
  have owner' : r.trkOwner n = some p := by
    rw [State.trkOwner, h.rest]
    exact owner
  have entry : r.eventEntry 0x02 n.val 0x24 w 0 0 0 = s.eventEntry 0x02 n.val 0x24 w 0 0 0 := by
    rw [State.eventEntry, h.rest, State.eventEntry]
  obtain ⟨es, events⟩ := h.events
  refine ⟨es, ?_⟩
  rw [State.trkEvent, owner']
  dsimp only [State.eventTo, State.eventFor]
  rw [entry, events]

/-! ### Open, short and their clearing -/

theorem execWsOpen_of_heard (heard : s.wsHeard n = true) (closed : (s.tk n).wsOpen = false) :
    ∃ u : State, execWsOpen n s = .next u ∧ State.trackerOnly n s u ∧ (u.tk n).wsOpen = true ∧ (u.tk n).sync = .unsync ∧
      s.TellsSensor n 1 u := by
  let shown := s.modTk n fun x => { x with wsOpen := true }
  have step : TrkStep n s (shown.loseSync n 2 s.now) := ((TrkStep.refl n s).modTk _).loseSync 2 s.now
  have row : execWsOpen n s = .next ((shown.loseSync n 2 s.now).trkEvent n 0x24 1 0 0 0) := by
    unfold execWsOpen
    exact if_pos ⟨heard, by rw [closed]; rfl⟩
  exact ⟨_, row, (step.trkEvent ..).trackerOnly, by simp [shown], by simp, step.tellsSensor 1⟩

theorem execWsOpenClear_of_heard (heard : s.wsHeard n = true) (opened : (s.tk n).wsOpen = true) :
    execWsOpenClear n s = .next ((s.modTk n fun x => { x with wsOpen := false }).trkEvent n 0x24
      (if (s.tk n).wsShort then 2 else 0) 0 0 0) := by
  have left : ((s.modTk n fun x => { x with wsOpen := false }).tk n).sensorWord = if (s.tk n).wsShort then 2 else 0 := by
    rw [State.tk_modTk, Tracker.sensorWord]
    rfl
  rw [← left]
  exact if_pos ⟨heard, opened⟩

theorem execWsShort_of_heard (heard : s.wsHeard n = true) :
    ∃ u : State, execWsShort n s = .next u ∧ State.trackerOnly n s u ∧ (u.tk n).wsShort = true ∧ (u.tk n).supply = false ∧
      (u.tk n).retryDue = true ∧ (u.tk n).sync = .unsync ∧ ((s.tk n).wsShort = false → s.TellsSensor n 2 u) := by
  let shown := (s.wsOff n).modTk n fun x => { x with wsShort := true, retryDue := true }
  let u := shown.loseSync n 2 s.now
  have step : TrkStep n s u := ((TrkStep.refl n s).wsOff.modTk _).loseSync 2 s.now
  have row : execWsShort n s = .next (if !(s.tk n).wsShort then u.trkEvent n 0x24 2 0 0 0 else u) := if_pos heard
  have sensor : (u.tk n).wsShort = true ∧ (u.tk n).supply = false ∧ (u.tk n).retryDue = true ∧ (u.tk n).sync = .unsync := by
    simp [u, shown, State.wsOff]
  obtain ⟨short, off, due, unsync⟩ := sensor
  cases before : (s.tk n).wsShort with
  | false =>
    rw [before] at row
    refine ⟨u.trkEvent n 0x24 2 0 0 0, row, (step.trkEvent ..).trackerOnly, ?_⟩
    rw [State.tk_trkEvent]
    exact ⟨short, off, due, unsync, fun _ => step.tellsSensor 2⟩
  | true =>
    rw [before] at row
    exact ⟨u, row, step.trackerOnly, short, off, due, unsync, nofun⟩

theorem execWsShortClear_of_heard (heard : s.wsHeard n = true) (short : (s.tk n).wsShort = true) (on : (s.tk n).supply = true) :
    execWsShortClear n s = .next ((s.modTk n fun x => { x with wsShort := false }).trkEvent n 0x24
      (if (s.tk n).wsOpen then 1 else 0) 0 0 0) := by
  have left : ((s.modTk n fun x => { x with wsShort := false }).tk n).sensorWord = if (s.tk n).wsOpen then 1 else 0 := by
    rw [State.tk_modTk, Tracker.sensorWord]
    rfl
  rw [← left]
  exact if_pos ⟨heard, short, on⟩

/-! ### The supply tried again -/

/-- From `s` to `t` only tracker `n` and WS_DENIED may have changed. -/
structure SupplyStep (n : TrkIx) (s t : State) : Prop where
  rest : t = { s with trk := t.trk, pwr := { s.pwr with wsDenied := t.pwr.wsDenied } }
  others : ∀ m, n ≠ m → t.tk m = s.tk m

protected theorem SupplyStep.refl (n : TrkIx) (s : State) : SupplyStep n s s := ⟨rfl, fun _ _ => rfl⟩

theorem SupplyStep.modTk (h : SupplyStep n s r) (f : Tracker → Tracker) : SupplyStep n s (r.modTk n f) where
  rest := by
    rw [State.modTk, State.setTk, h.rest]
  others m hm := (r.tk_modTk_ne n m f hm).trans (h.others m hm)

@[simp] theorem State.tk_setDenied (s : State) (n : TrkIx) (b : Bool) (m : TrkIx) : (s.setDenied n b).tk m = s.tk m := rfl

theorem State.bit_setDenied_true (s : State) (n : TrkIx) : bit (s.setDenied n true).pwr.wsDenied n.val = true := by
  have own : ∀ n : TrkIx, bit (BitVec.ofNat 4 (2 ^ n.val)) n.val = true := by decide
  exact (BitVec.getLsbD_or ..).trans (by rw [← bit, ← bit, own, Bool.or_true])

theorem SupplyStep.setDenied (h : SupplyStep n s r) (b : Bool) : SupplyStep n s (r.setDenied n b) where
  rest := by
    rw [State.setDenied, h.rest]
  others := h.others

theorem SupplyStep.wsTry (h : SupplyStep n s r) (retry : Bool) : SupplyStep n s (r.wsTry n retry) := by
  unfold State.wsTry
  dsimp only
  split
  · exact (h.modTk _).setDenied false
  · split
    · exact (h.modTk _).setDenied false
    · split
      · exact h
      · split
        · exact (h.modTk _).setDenied false
        · exact (h.modTk _).setDenied true

section
variable {p : Pitch} (owner : s.trkOwner n = some p) (vgd : s.pwr.vgdOk = true) (off : (s.tk n).supply = false)
include owner vgd off

theorem State.wsTry_retry_of_allowed (allowed : s.wsAllowed p = true) : s.wsTry n true = (s.modTk n fun x =>
    { x with supply := true, holdoff := true, retryDue := false, level := .low, pulseStart := none, pulseEnd := none }).setDenied n
      false := by
  simp [State.wsTry, owner, vgd, off, allowed]

theorem State.wsTry_retry_of_not_allowed (denied : s.wsAllowed p = false) :
    s.wsTry n true = (s.modTk n fun x => { x with retryDue := false }).setDenied n true := by
  simp [State.wsTry, owner, vgd, off, denied]
end

theorem execWsSupplyRetry_of_due (due : (s.tk n).retryDue = true) : ∃ u : State, execWsSupplyRetry n s = .next u ∧
    u = { s with trk := u.trk, pwr := { s.pwr with wsDenied := u.pwr.wsDenied } } ∧ (∀ m, n ≠ m → u.tk m = s.tk m) ∧
    (u.tk n).retryDue = false ∧
    (∀ p, s.trkOwner n = some p → s.pwr.vgdOk = true → (s.tk n).supply = false →
      (s.wsAllowed p = true → (u.tk n).supply = true ∧ (u.tk n).holdoff = true) ∧
      (s.wsAllowed p = false → (u.tk n).supply = false ∧ bit u.pwr.wsDenied n.val = true)) := by
  have step : SupplyStep n s ((s.wsTry n true).modTk n fun x => { x with retryDue := false }) :=
    ((SupplyStep.refl n s).wsTry true).modTk _
  refine ⟨_, if_pos due, step.rest, step.others, ?_, fun p owner vgd off => ⟨fun allowed => ?_, fun denied => ?_⟩⟩
  · rw [State.tk_modTk]
  · simp [State.wsTry_retry_of_allowed owner vgd off allowed]
  · rw [State.wsTry_retry_of_not_allowed owner vgd off denied]
    exact ⟨by simpa using off, State.bit_setDenied_true ..⟩

/-! ### The hold-off and SENSOR_WARN -/

theorem State.wsHeard_of_holdoff (h : (s.tk n).holdoff = true) : s.wsHeard n = false := by
  rw [State.wsHeard, h, Bool.not_true, Bool.and_false]

/-- While its hold-off runs nothing of its sensor reaches a tracker (R497). -/
theorem sensorRows_of_holdoff (level : WsLevel) (t : Ticks) (h : (s.tk n).holdoff = true) :
    execWsLevelChange n level t s = .next (s.tick t) ∧ execWsOpen n s = .next s ∧ execWsShort n s = .next s ∧
      execSensorWarn n s = .next s := by
  have deaf : ¬ s.wsHeard n = true := Bool.eq_false_iff.mp (State.wsHeard_of_holdoff h)
  exact ⟨if_neg fun ⟨heard, _⟩ => deaf heard, if_neg fun ⟨heard, _⟩ => deaf heard, if_neg deaf,
    if_neg fun ⟨heard, _⟩ => deaf heard⟩

theorem execSensorWarn_of_mid (heard : s.wsHeard n = true) (mid : (s.tk n).level = .mid) :
    execSensorWarn n s = .next (s.modTk n fun x => { x with sensorWarn := true }) :=
  if_pos ⟨heard, mid⟩

/-- Settles O49: each row's case, by what leaving sync and a try of the supply can change. -/
theorem wheelSensorFaultsActOnTheirSupply : Obligations.WheelSensorFaultsActOnTheirSupply :=
  ⟨fun _ _ heard closed => execWsOpen_of_heard heard closed, fun _ _ heard opened => execWsOpenClear_of_heard heard opened,
   fun _ _ heard => execWsShort_of_heard heard, fun _ _ due => execWsSupplyRetry_of_due due, fun _ _ => rfl,
   fun _ _ level t h => sensorRows_of_holdoff level t h,
   fun _ _ heard short on => execWsShortClear_of_heard heard short on, fun _ _ heard mid => execSensorWarn_of_mid heard mid⟩

end Sys2Proof.Machine
end

section
/-! SUPPORT. TRACE_CONSENT (R601): the operation code that a row gives its descriptor, and what each of its three rows changes. -/

namespace Sys2Proof.Machine

-- One proof at a time: proofs elaborated side by side would wait for each other, each with its own stack.
set_option Elab.async false

/-! ### Fields bit by bit -/

theorem testBit_bits {w : Nat} (x : BitVec w) (lo n i : Nat) : (bits x lo n).testBit i = (decide (i < n) && bit x (lo + i)) := by
  rw [bits, Nat.testBit_mod_two_pow, Nat.testBit_div_two_pow, BitVec.testBit_toNat, Nat.add_comm, bit]

/-- A field is what its bits are. -/
theorem bits_congr {w : Nat} {x y : BitVec w} {lo n : Nat} (h : ∀ k, lo ≤ k → k < lo + n → bit x k = bit y k) :
    bits x lo n = bits y lo n := by
  refine Nat.eq_of_testBit_eq fun i => ?_
  rw [testBit_bits, testBit_bits]
  by_cases inside : i < n
  · rw [h (lo + i) (by omega) (by omega)]
  · simp [inside]

theorem bit_eq_false_of_bits {w : Nat} {x : BitVec w} {lo n k : Nat} (h : bits x lo n = 0) (low : lo ≤ k) (high : k < lo + n) :
    bit x k = false := by
  have zero := testBit_bits x lo n (k - lo)
  rw [h, Nat.zero_testBit, Nat.add_sub_cancel' low, decide_eq_true (by omega), Bool.true_and] at zero
  exact zero.symm

/-- A field within a field that is 0 is 0. -/
theorem bits_eq_zero_of_subfield {w : Nat} {x : BitVec w} {lo n lo' n' : Nat} (h : bits x lo n = 0) (low : lo ≤ lo')
    (high : lo' + n' ≤ lo + n) : bits x lo' n' = 0 := by
  have same : bits x lo' n' = bits (0 : BitVec w) lo' n' := bits_congr fun k _ _ => by
    rw [bit_eq_false_of_bits h (by omega) (by omega), bit, BitVec.ofNat_eq_ofNat, BitVec.getLsbD_zero]
  simpa [bits] using same

/-! ### The operation code that a row gives its command -/

section
variable (s : State) (o : Opcode) (c : Cmd)

@[simp] theorem State.appliedAs_pitch : (s.appliedAs o c).cmd.pitch = c.pitch := rfl
@[simp] theorem State.appliedAs_w3 : (s.appliedAs o c).cmd.desc.w3 = c.desc.w3 := rfl
@[simp] theorem restZero_appliedAs (k : Nat) : restZero (s.appliedAs o c).cmd.desc k = restZero c.desc k := rfl

end

section
variable (c : Cmd) (op : Nat)

@[simp] theorem Cmd.withOp_pitch : (Cmd.withOp c op).pitch = c.pitch := rfl
@[simp] theorem restZero_withOp : restZero (Cmd.withOp c op).desc 1 = restZero c.desc 1 := rfl

theorem State.admits_withOp {s : State} {o : Opcode} : s.admits (Cmd.withOp c op) o ↔ s.admits c o := Iff.rfl

/-- Word 3 [15:14] is the row's operation code. -/
@[simp] theorem bits_withOp_op (h : op < 4) : bits (Cmd.withOp c op).desc.w3 14 2 = op := by
  simp only [Cmd.withOp, word, bits, BitVec.toNat_ofNat]
  omega

@[simp] theorem bit_withOp {k : Nat} (h : k < 14) : bit (Cmd.withOp c op).desc.w3 k = bit c.desc.w3 k := by
  have low : bits c.desc.w3 0 14 < 2 ^ 14 := Nat.mod_lt _ (by decide)
  rw [Cmd.withOp, bit, word, BitVec.getLsbD_ofNat, Nat.add_comm, Nat.mul_comm, Nat.testBit_two_pow_mul_add _ low, if_pos h,
    testBit_bits, decide_eq_true h, decide_eq_true (by omega : k < 16), Nat.zero_add, Bool.true_and, Bool.true_and]

/-- The operation code leaves the fields of word 3 below it. -/
@[simp] theorem bits_withOp {lo n : Nat} (h : lo + n ≤ 14) : bits (Cmd.withOp c op).desc.w3 lo n = bits c.desc.w3 lo n :=
  bits_congr fun _ _ _ => bit_withOp c op (by omega)

end

/-! ### The effect with consistent arguments -/

section
variable {s : State} {a : Applied} {mask : Byte} (argument : BitVec.ofNat 8 (bits a.cmd.desc.w3 0 8) = mask)
  (rest : restZero a.cmd.desc 1 = true)
include argument rest

/-- GRANT (operation 0) and REVOKE (operation 1) alike set the acting pitch's grant mask to argument byte 0, which is 0 in a REVOKE. -/
theorem effTraceConsent_of_own {op : Nat} (own : op < 2) (code : bits a.cmd.desc.w3 14 2 = op) (revoked : op = 1 → mask = 0)
    (reserved : bits a.cmd.desc.w3 7 7 = 0) :
    let v := { s with obs := { s.obs with grantNext := vset s.obs.grantNext a.cmd.pitch mask } }
    effTraceConsent a s = v.done stOk (word (v.obs.effectiveNext a.cmd.pitch).toNat) := by
  have bit7 : bit a.cmd.desc.w3 7 = false := bit_eq_false_of_bits reserved (by decide) (by decide)
  have named : bits a.cmd.desc.w3 8 3 = 0 := bits_eq_zero_of_subfield reserved (by decide) (by decide)
  have high : bits a.cmd.desc.w3 11 3 = 0 := bits_eq_zero_of_subfield reserved (by decide) (by decide)
  obtain rfl | rfl : op = 0 ∨ op = 1 := by omega
  · simp [effTraceConsent, code, argument, bit7, named, high, rest]
  · simp [effTraceConsent, code, argument, bit7, named, high, rest, revoked rfl]

/-- COUNTERSIGN (operation 2) of P0 sets the countersign mask of the pitch that word 3 [10:8] names. -/
theorem effTraceConsent_of_countersign {p : Pitch} (code : bits a.cmd.desc.w3 14 2 = 2) (p0 : a.cmd.pitch = 0)
    (named : bits a.cmd.desc.w3 8 3 = p.val) (high : bits a.cmd.desc.w3 11 3 = 0) (bit7 : bit a.cmd.desc.w3 7 = false) :
    effTraceConsent a s = ({ s with obs := { s.obs with countersignNext := vset s.obs.countersignNext p mask } } : State).done stOk
      (word mask.toNat) := by
  simp [effTraceConsent, code, argument, p0, named, high, bit7, rest]

end

/-! ### The three rows -/

section
variable {s : State} {c : Cmd} {mask : Byte} (h : s.admits c .traceConsent)
include h

/-- TRACE_CONSENT is open to every pitch; only COUNTERSIGN asks for P0, in its effect. -/
theorem State.refusal_traceConsent (op : Nat) : s.refusal (Cmd.withOpcode (Cmd.withOp c op) .traceConsent) = none :=
  State.refusal_of_admits ((State.admits_withOp c op).mpr h)

variable (argument : BitVec.ofNat 8 (bits c.desc.w3 0 8) = mask) (rest : restZero c.desc 1 = true)
include argument rest

/-- The row of GRANT and that of REVOKE, with the mask that each sets. -/
theorem State.consentRow_of_own {op : Nat} (own : op < 2) (revoked : op = 1 → mask = 0) (reserved : bits c.desc.w3 7 7 = 0) :
    let e := Cmd.withOp c op
    let u := s.taken .traceConsent e
    let v := { u with obs := { u.obs with grantNext := vset u.obs.grantNext c.pitch mask } }
    s.commandRow .traceConsent e effTraceConsent = .next (v.answered (s.appliedAs .traceConsent e) stOk
      (word (v.obs.effectiveNext c.pitch).toNat)).serveDue := by
  intro e u v
  have done : effTraceConsent (s.appliedAs .traceConsent e) u = v.done stOk (word (v.obs.effectiveNext c.pitch).toNat) :=
    effTraceConsent_of_own (by simpa [e] using argument) (by simpa [e] using rest) own (bits_withOp_op c op (by omega)) revoked
      (by simpa [e] using reserved)
  exact State.commandRow_of_done (State.refusal_traceConsent h op) done

theorem execTraceConsentCountersign_of_p0 {p : Pitch} (p0 : c.pitch = 0) (named : bits c.desc.w3 8 3 = p.val)
    (high : bits c.desc.w3 11 3 = 0) (bit7 : bit c.desc.w3 7 = false) :
    let e := Cmd.withOp c 2
    let u := s.taken .traceConsent e
    execTraceConsentCountersign c s = .next (
      ({ u with obs := { u.obs with countersignNext := vset u.obs.countersignNext p mask } }).answered
        (s.appliedAs .traceConsent e) stOk (word mask.toNat)).serveDue := by
  intro e u
  have done : effTraceConsent (s.appliedAs .traceConsent e) u =
      State.done { u with obs := { u.obs with countersignNext := vset u.obs.countersignNext p mask } } stOk (word mask.toNat) :=
    effTraceConsent_of_countersign (by simpa [e] using argument) (by simpa [e] using rest) (bits_withOp_op c 2 (by decide))
      (by simpa [e] using p0) (by simpa [e] using named) (by simpa [e] using high) (by simpa [e] using bit7)
  exact State.commandRow_of_done (State.refusal_traceConsent h 2) done

end

/-- Settles O34: GRANT and REVOKE are one row with the mask of argument byte 0, which a REVOKE has at 0; COUNTERSIGN is P0's own. -/
theorem consentMasksAreSetForTheNextBoundary : Obligations.ConsentMasksAreSetForTheNextBoundary := by
  refine ⟨fun s c h reserved rest => ?grant, fun s c h low rest => ?revoke, fun s c p h p0 named high bit7 rest => ?countersign⟩
  case grant => exact State.consentRow_of_own h rfl rest (by decide) nofun reserved
  case revoke =>
    have byte0 : bits c.desc.w3 0 8 = 0 := bits_eq_zero_of_subfield low (by decide) (by decide)
    have reserved : bits c.desc.w3 7 7 = 0 := bits_eq_zero_of_subfield low (by decide) (by decide)
    exact State.consentRow_of_own h (congrArg (BitVec.ofNat 8) byte0) rest (by decide) (fun _ => rfl) reserved
  case countersign => exact execTraceConsentCountersign_of_p0 h rfl rest p0 named high bit7

end Sys2Proof.Machine
end


section
/-! SUPPORT. Every command completes, and none touches the queue of commands that wait: the rows that write the bell or reset the device. -/

namespace Sys2Proof.Machine

set_option Elab.async false

variable {s r u : State}

/-- The commands that wait are those of `s`. -/
def SamePending (s u : State) : Prop := u.pending = s.pending

protected theorem SamePending.refl (s : State) : SamePending s s := Eq.refl s.pending

theorem SamePending.trans (h : SamePending s r) (k : SamePending r u) : SamePending s u := Eq.trans k h

theorem Keeps.samePending (h : Keeps s r) : SamePending s r := h.pending

/-- A record update of other parts. -/
theorem SamePending.update (h : SamePending s r) (p : r.pending = u.pending := by rfl) : SamePending s u := p.symm.trans h

/-! ### Resets -/

theorem State.judgeWindows_samePending (s : State) (t : Ticks) (w : ClockWindows) : SamePending s (s.judgeWindows t w) := by
  unfold State.judgeWindows
  split
  · exact .refl s
  · split
    · exact ((Keeps.refl s).rootFailure t).samePending
    · split
      · exact (SamePending.refl s).update
      · exact .refl s

theorem execResetRelease_samePending (t : Ticks) (up : Bool) (s : State) :
    Completes (SamePending s) (execResetRelease t up s) :=
  have same := SamePending.refl s
  .ite (.ite (.next same.update) (.next same.update)) (.next same)

theorem execRootFail_samePending (t : Ticks) (why : RootFault) (s : State) :
    Completes (SamePending s) (execRootFail t why s) := by
  have a := (Keeps.refl s).lanesTick t
  cases why with
  | windows w => exact .next (a.samePending.trans (State.judgeWindows_samePending _ t w))
  | unlocked | stopped => exact .next (a.rootFailure t).samePending

/-! ### Bells received and begun -/

theorem SamePending.bellReceived (h : SamePending s r) (e : DWord) (k : BellKind) (offset : Word) :
    SamePending s (r.bellReceived e k offset) := by
  unfold State.bellReceived
  dsimp only
  repeat' split
  all_goals exact h.update

theorem SamePending.enterIsland (h : SamePending s r) : SamePending s r.enterIsland := by
  unfold State.enterIsland
  dsimp only
  split <;> exact h.update

theorem SamePending.passBell (h : SamePending s r) (f : BellFrame) : SamePending s (r.passBell f) :=
  h.trans ((Keeps.refl r).passBell f).samePending

theorem SamePending.emitIsland (h : SamePending s r) : SamePending s r.emitIsland := .passBell h.update _

theorem SamePending.bellLost (h : SamePending s r) : SamePending s r.bellLost := h.update

theorem SamePending.bellArrives (h : SamePending s r) (f : BellFrame) (offset : Word) :
    SamePending s (r.bellArrives f offset) := by
  have received (k : BellKind) := (h.passBell f).bellReceived (bellEpoch f) k offset
  unfold State.bellArrives
  split
  · exact h
  · split
    · exact .bellLost (.passBell h.update f)
    · split
      · split
        · exact h
        · exact (received .island).enterIsland
      · exact (received .head).update

/-! ### The delay and the alignment of the bell -/

/-- A request is a SET_DELAY, or keeps the bell too. -/
theorem SamePending.request (h : SamePending s r) (slot : Fin 36) (f : Frame) : SamePending s (r.request slot f) := by
  by_cases hf : (Frame.type f).toNat = 2
  · unfold State.request
    rw [hf]
    exact h.update
  · exact h.trans ((Keeps.refl r).request slot f hf).samePending

theorem execEnumRoll_samePending (slot : Fin 36) (t : Ticks) (f : Frame) (s : State) :
    Completes (SamePending s) (execEnumRoll slot t f s) := by
  have a := ((Keeps.refl s).tick t).countCrc .a f
  unfold execEnumRoll
  generalize (s.tick t).countCrc .a f = r at a ⊢
  have pass (g : Frame) := (a.passA slot g).samePending
  exact .ite (.next (pass f)) (.ite (.next (pass f).update) (.ite (.next (pass _).update) (.next (pass _).update)))

/-! ### Boundaries -/

theorem SamePending.boundary (h : SamePending s r) (e : DWord) (obs : BellObs) : SamePending s (r.boundary e obs) := by
  obtain ⟨pending, -⟩ := r.boundary_spec e obs
  exact h.trans pending

theorem SamePending.serveDue (h : SamePending s r) : SamePending s r.serveDue :=
  h.trans (Keeps.refl r).serveDue.samePending

theorem execBellBoundary_samePending (obs : BellObs) (s : State) : Completes (SamePending s) (execBellBoundary obs s) := by
  have idle : SamePending s s.serveDue := (SamePending.refl s).serveDue
  unfold execBellBoundary
  split
  · exact .ite (.next (SamePending.boundary (SamePending.refl s).update ..).serveDue) (.next idle)
  · exact .next idle

theorem execFlywheelBell_samePending (obs : BellObs) (s : State) : Completes (SamePending s) (execFlywheelBell obs s) := by
  have same := SamePending.refl s
  have lost := same.bellLost
  exact .ite (.next (SamePending.boundary lost.update ..).serveDue) (.ite (.next lost.serveDue) (.next same.serveDue))

/-! ### Every command -/

theorem exec_samePending (s : State) (c : Instr) : Completes (SamePending s) (exec c s) := by
  have same := SamePending.refl s
  have tick (t : Ticks) := ((Keeps.refl s).tick t).samePending
  cases hc : leavesBell c with
  | true => exact (exec_keeps s c hc).mono fun _ => Keeps.samePending
  | false =>
    unfold exec
    cases c with
    | powerReset => exact .next same.update
    | watchCheckReset t w =>
      exact .ite (.next (((Keeps.refl s).lanesTick t).samePending.trans (State.judgeWindows_samePending _ t w))) (.next same)
    | safetyMonitorReset => exact .ite (.next same.update) (.next same)
    | resetRelease => exact execResetRelease_samePending ..
    | rootFail => exact execRootFail_samePending ..
    | bellFrame t f offset => exact .next ((tick t).bellArrives f offset)
    | islandBellFrame t f offset => exact .ite (.next ((tick t).bellArrives f offset)) (.next same)
    | flywheelBell => exact execFlywheelBell_samePending ..
    | ridgeTimeout t => exact .ite (.next (SamePending.emitIsland (tick t).enterIsland.update)) (.next (tick t))
    | islandBellEmit => exact .ite (.next same.emitIsland) (.next same)
    | bellBoundary => exact execBellBoundary_samePending ..
    | slotRequestA slot f =>
      exact .next (s.takeSlot_cases slot f _ (fun _ k => k.samePending) fun _ k => k.samePending.request slot f)
    | enumRoll => exact execEnumRoll_samePending ..
    | setDelay slot f =>
      exact .ite (.next (s.takeSlot_cases slot f _ (fun _ k => k.samePending) fun _ k => k.samePending.update)) (.next same)
    | _ => cases hc

/-- Settles O57: each arm of `exec` is a meaning that answers a next state and leaves the queue. -/
theorem everyCommandCompletes : Obligations.EveryCommandCompletes := fun c s => exec_samePending s c

/-- Settles O1. -/
theorem stepRunsFrontCommand : Obligations.StepRunsFrontCommand :=
  ⟨fun _ _ _ => rfl, fun s idle => by rw [step, idle]⟩

/-! ### The state after reset -/

theorem State.reset_bridge (n : LaneIx) (k : PhaseIx) : (State.reset.ln n).car.bridges[k] = {} := by
  simp only [State.ln, State.reset, Fin.getElem_fin, Vector.getElem_replicate]

theorem State.reset_safe : State.reset.Safe where
  bridges n k := by
    rw [State.reset_bridge]
    exact HalfBridge.sound_reset
  fuses := ⟨rfl, rfl⟩
  group := ⟨rfl, fun _ h => nomatch h⟩

/-- Settles O60: each half-bridge of the reset state is one at its defaults. -/
theorem resetIsASafeState : Obligations.ResetIsASafeState := by
  refine ⟨State.reset_safe, rfl, rfl, fun n k => ?_, rfl, rfl⟩
  rw [State.reset_bridge]
  exact ⟨rfl, rfl⟩

end Sys2Proof.Machine
end


section
/-! SUPPORT. Steps of several lanes: what the operations on every lane leave of the other parts of the state, and how the operations on
one lane act on that lane's parts. -/

namespace Sys2Proof.Machine

set_option Elab.async false

/-! ### Steps of several lanes -/

/-- From `s` to `t` only lanes, tallies and trace queues may have changed, and outcomes and events may have joined those on their way. -/
structure LanesStep (s t : State) : Prop where
  rest : t = { s with lane := t.lane, q := t.q, obs := t.obs }
  queue : t.q = { s.q with outcomes := t.q.outcomes, events := t.q.events }
  watch : t.obs = { s.obs with
    tally := t.obs.tally, queue := t.obs.queue, lostSince := t.obs.lostSince, lost := t.obs.lost }
  outcomes : s.q.outcomes <+: t.q.outcomes
  events : s.q.events <+: t.q.events

theorem LaneStep.lanes {n : LaneIx} {s t : State} (h : LaneStep n s t) : LanesStep s t :=
  ⟨h.rest, h.queue, h.watch, h.outcomes, h.events⟩

namespace LanesStep

variable {s t u : State}

protected theorem refl (s : State) : LanesStep s s := (LaneStep.refl 0 s).lanes

theorem trans (h : LanesStep s t) (k : LanesStep t u) : LanesStep s u where
  rest := k.rest.trans (by rw [h.rest])
  queue := k.queue.trans (by rw [h.queue])
  watch := k.watch.trans (by rw [h.watch])
  outcomes := h.outcomes.trans k.outcomes
  events := h.events.trans k.events

theorem pending (h : LanesStep s t) : t.pending = s.pending := by rw [h.rest]
theorem now (h : LanesStep s t) : t.now = s.now := by rw [h.rest]
theorem dev (h : LanesStep s t) : t.dev = s.dev := by rw [h.rest]
theorem pwr (h : LanesStep s t) : t.pwr = s.pwr := by rw [h.rest]
theorem clk (h : LanesStep s t) : t.clk = s.clk := by rw [h.rest]
theorem bell (h : LanesStep s t) : t.bell = s.bell := by rw [h.rest]
theorem ring (h : LanesStep s t) : t.ring = s.ring := by rw [h.rest]
theorem pit (h : LanesStep s t) : t.pit = s.pit := by rw [h.rest]
theorem host (h : LanesStep s t) : t.host = s.host := by rw [h.rest]
theorem fuse (h : LanesStep s t) : t.fuse = s.fuse := by rw [h.rest]
theorem ana (h : LanesStep s t) : t.ana = s.ana := by rw [h.rest]
theorem trk (h : LanesStep s t) : t.trk = s.trk := by rw [h.rest]
theorem heat (h : LanesStep s t) : t.heat = s.heat := by rw [h.rest]
theorem start (h : LanesStep s t) : t.start = s.start := by rw [h.rest]

end LanesStep

/-- An operation on every lane that is a step of that lane: what relates each lane before and after it holds of the whole. -/
theorem State.eachLane_lanes (P : LaneIx → Lane → Lane → Prop) (f : State → LaneIx → State) (s : State)
    (h : ∀ r n, LanesStep s r → LaneStep n r (f r n) ∧ P n (r.ln n) ((f r n).ln n)) :
    LanesStep s (s.eachLane f) ∧ ∀ n, P n (s.ln n) ((s.eachLane f).ln n) :=
  s.eachLane_spec (fun l n k => P n l k) LanesStep .refl (fun _ _ _ => .trans) f fun r n k =>
    ⟨(h r n k).1, (h r n k).1.lanes, (h r n k).2⟩

theorem State.tick_eq_self {s : State} {t : Ticks} (h : t ≤ s.now) : s.tick t = s := by
  rw [State.tick, Nat.max_eq_left h]

/-- Time comes to `t` for every lane: only lanes change but for the instant. -/
theorem LanesStep.lanesTick (s : State) (t : Ticks) : LanesStep (s.tick t) (s.lanesTick t) := by
  have first : LanesStep (s.tick t) (s.laneTick 0 t) := (LaneStep.laneTick 0 t s).lanes
  have next {r : State} (n : LaneIx) (h : LanesStep (s.tick t) r) : LanesStep (s.tick t) (r.laneTick n t) := by
    have late : t ≤ r.now := h.now ▸ Nat.le_max_right _ _
    have k := (LaneStep.laneTick n t r).lanes
    rw [State.tick_eq_self late] at k
    exact h.trans k
  simp only [State.lanesTick, State.eachLane, laneIxs, List.foldl]
  exact next 5 (next 4 (next 3 (next 2 (next 1 first))))

@[simp] theorem State.lanesTick_pending (s : State) (t : Ticks) : (s.lanesTick t).pending = s.pending := (LanesStep.lanesTick s t).pending
@[simp] theorem State.lanesTick_now (s : State) (t : Ticks) : (s.lanesTick t).now = max s.now t := (LanesStep.lanesTick s t).now
@[simp] theorem State.lanesTick_dev (s : State) (t : Ticks) : (s.lanesTick t).dev = s.dev := (LanesStep.lanesTick s t).dev
@[simp] theorem State.lanesTick_pwr (s : State) (t : Ticks) : (s.lanesTick t).pwr = s.pwr := (LanesStep.lanesTick s t).pwr
@[simp] theorem State.lanesTick_clk (s : State) (t : Ticks) : (s.lanesTick t).clk = s.clk := (LanesStep.lanesTick s t).clk
@[simp] theorem State.lanesTick_bell (s : State) (t : Ticks) : (s.lanesTick t).bell = s.bell := (LanesStep.lanesTick s t).bell
@[simp] theorem State.lanesTick_ring (s : State) (t : Ticks) : (s.lanesTick t).ring = s.ring := (LanesStep.lanesTick s t).ring
@[simp] theorem State.lanesTick_pit (s : State) (t : Ticks) : (s.lanesTick t).pit = s.pit := (LanesStep.lanesTick s t).pit
@[simp] theorem State.lanesTick_host (s : State) (t : Ticks) : (s.lanesTick t).host = s.host := (LanesStep.lanesTick s t).host
@[simp] theorem State.lanesTick_fuse (s : State) (t : Ticks) : (s.lanesTick t).fuse = s.fuse := (LanesStep.lanesTick s t).fuse
@[simp] theorem State.lanesTick_ana (s : State) (t : Ticks) : (s.lanesTick t).ana = s.ana := (LanesStep.lanesTick s t).ana
@[simp] theorem State.lanesTick_trk (s : State) (t : Ticks) : (s.lanesTick t).trk = s.trk := (LanesStep.lanesTick s t).trk
@[simp] theorem State.lanesTick_heat (s : State) (t : Ticks) : (s.lanesTick t).heat = s.heat := (LanesStep.lanesTick s t).heat
@[simp] theorem State.lanesTick_start (s : State) (t : Ticks) : (s.lanesTick t).start = s.start := (LanesStep.lanesTick s t).start
@[simp] theorem State.lanesTick_alive (s : State) (t : Ticks) : (s.lanesTick t).alive = s.alive := by simp [State.alive]
@[simp] theorem State.lanesTick_atSettled (s : State) (t : Ticks) : (s.lanesTick t).atSettled = s.atSettled := by simp [State.atSettled]
@[simp] theorem State.lanesTick_atJoined (s : State) (t : Ticks) : (s.lanesTick t).atJoined = s.atJoined := by simp [State.atJoined]
@[simp] theorem State.lanesTick_laneOwner (s : State) (t : Ticks) (n : LaneIx) : (s.lanesTick t).laneOwner n = s.laneOwner n := by
  simp [State.laneOwner]

end Sys2Proof.Machine
end


section
/-! SUPPORT. What the shared operations on one lane leave of that lane's parts: gate levels, reports, stops, safe levels, the latch. -/

namespace Sys2Proof.Machine

set_option Elab.async false

variable {s r : State} {n m : LaneIx}

/-! ### Reports leave every lane -/

theorem State.ln_of_lane (h : r.lane = s.lane) (n : LaneIx) : r.ln n = s.ln n := by rw [State.ln, h, State.ln]

@[simp] theorem State.ln_finish (s : State) (a : Applied) (st : Byte) (r0 r1 r2 r3 : Word) (m : LaneIx) :
    (s.finish a st r0 r1 r2 r3).ln m = s.ln m := rfl
@[simp] theorem State.ln_eventFor (s : State) (p : Pitch) (c i k : Nat) (w4 w5 w6 w7 : Word) (m : LaneIx) :
    (s.eventFor p c i k w4 w5 w6 w7).ln m = s.ln m := rfl
@[simp] theorem State.ln_laneEvent (s : State) (n : LaneIx) (k : Nat) (w4 w5 w6 w7 : Word) (m : LaneIx) :
    (s.laneEvent n k w4 w5 w6 w7).ln m = s.ln m := State.ln_of_lane (by simp) m
@[simp] theorem State.ln_count (s : State) (c i : Nat) (w : Option Pitch) (m : LaneIx) : (s.count c i w).ln m = s.ln m :=
  State.ln_of_lane (by simp) m
@[simp] theorem State.ln_traceLane (s : State) (n : LaneIx) (k d : Nat) (v : Word) (m : LaneIx) :
    (s.traceLane n k d v).ln m = s.ln m := State.ln_of_lane (by simp) m
@[simp] theorem State.ln_tick (s : State) (t : Ticks) (m : LaneIx) : (s.tick t).ln m = s.ln m := rfl

/-! ### What holds a lane, and who owns it, after a report -/

@[simp] theorem State.forced_finish (s : State) (a : Applied) (st : Byte) (r0 r1 r2 r3 : Word) (m : LaneIx) :
    (s.finish a st r0 r1 r2 r3).forced m = s.forced m := rfl

theorem LanesStep.laneOwner (h : LanesStep s r) (m : LaneIx) : r.laneOwner m = s.laneOwner m := by
  rw [State.laneOwner, h.pit, State.laneOwner]

theorem LanesStep.eventEntry (h : LanesStep s r) (c i k : Nat) (w4 w5 w6 w7 : Word) :
    r.eventEntry c i k w4 w5 w6 w7 = s.eventEntry c i k w4 w5 w6 w7 := by
  rw [State.eventEntry, h.bell, State.eventEntry]

/-! ### Gate levels -/

@[simp] theorem Lane.setBridges_com (l : Lane) (bs : Vector HalfBridge 3) (k : Nat) : (l.setBridges bs k).com = l.com := rfl
@[simp] theorem Lane.setBridges_latch (l : Lane) (bs : Vector HalfBridge 3) (k : Nat) : (l.setBridges bs k).latch = l.latch := rfl
@[simp] theorem Lane.setBridges_ops (l : Lane) (bs : Vector HalfBridge 3) (k : Nat) : (l.setBridges bs k).ops = l.ops := rfl
@[simp] theorem Lane.setBridges_gate (l : Lane) (bs : Vector HalfBridge 3) (k : Nat) : (l.setBridges bs k).gate = l.gate := rfl
@[simp] theorem Lane.setBridges_car (l : Lane) (bs : Vector HalfBridge 3) (k : Nat) :
    (l.setBridges bs k).car = { l.car with bridges := bs, mpCount := satNat 16 (l.car.mpCount.toNat + k) } := rfl

/-- The lane drives its gates alone. -/
theorem State.ln_drive (s : State) (n : LaneIx) (t : Ticks) : ∃ bs k, (s.drive n t).ln n = (s.ln n).setBridges bs k :=
  ⟨_, _, State.ln_setLn ..⟩

theorem State.ln_gatesOff (s : State) (n : LaneIx) (t : Ticks) : ∃ bs, (s.gatesOff n t).ln n = (s.ln n).setBridges bs 0 :=
  ⟨_, State.ln_modLn ..⟩

@[simp] theorem State.drive_com (s : State) (n : LaneIx) (t : Ticks) : ((s.drive n t).ln n).com = (s.ln n).com := by simp [State.drive]
@[simp] theorem State.drive_latch (s : State) (n : LaneIx) (t : Ticks) : ((s.drive n t).ln n).latch = (s.ln n).latch := by simp [State.drive]
@[simp] theorem State.drive_ops (s : State) (n : LaneIx) (t : Ticks) : ((s.drive n t).ln n).ops = (s.ln n).ops := by simp [State.drive]
@[simp] theorem State.drive_gate (s : State) (n : LaneIx) (t : Ticks) : ((s.drive n t).ln n).gate = (s.ln n).gate := by simp [State.drive]
@[simp] theorem State.drive_car_set (s : State) (n : LaneIx) (t : Ticks) : ((s.drive n t).ln n).car.set = (s.ln n).car.set := by
  simp [State.drive]
@[simp] theorem State.drive_car_mask (s : State) (n : LaneIx) (t : Ticks) : ((s.drive n t).ln n).car.mask = (s.ln n).car.mask := by
  simp [State.drive]
@[simp] theorem State.drive_car_policy (s : State) (n : LaneIx) (t : Ticks) : ((s.drive n t).ln n).car.policy = (s.ln n).car.policy := by
  simp [State.drive]
@[simp] theorem State.drive_q (s : State) (n : LaneIx) (t : Ticks) : (s.drive n t).q = s.q := rfl
@[simp] theorem State.drive_obs (s : State) (n : LaneIx) (t : Ticks) : (s.drive n t).obs = s.obs := rfl

@[simp] theorem State.gatesOff_com (s : State) (n : LaneIx) (t : Ticks) : ((s.gatesOff n t).ln n).com = (s.ln n).com := by
  simp [State.gatesOff]
@[simp] theorem State.gatesOff_latch (s : State) (n : LaneIx) (t : Ticks) : ((s.gatesOff n t).ln n).latch = (s.ln n).latch := by
  simp [State.gatesOff]
@[simp] theorem State.gatesOff_ops (s : State) (n : LaneIx) (t : Ticks) : ((s.gatesOff n t).ln n).ops = (s.ln n).ops := by
  simp [State.gatesOff]
@[simp] theorem State.gatesOff_gate (s : State) (n : LaneIx) (t : Ticks) : ((s.gatesOff n t).ln n).gate = (s.ln n).gate := by
  simp [State.gatesOff]
@[simp] theorem State.gatesOff_car_set (s : State) (n : LaneIx) (t : Ticks) : ((s.gatesOff n t).ln n).car.set = (s.ln n).car.set := by
  simp [State.gatesOff]
@[simp] theorem State.gatesOff_car_mask (s : State) (n : LaneIx) (t : Ticks) : ((s.gatesOff n t).ln n).car.mask = (s.ln n).car.mask := by
  simp [State.gatesOff]
@[simp] theorem State.gatesOff_car_policy (s : State) (n : LaneIx) (t : Ticks) :
    ((s.gatesOff n t).ln n).car.policy = (s.ln n).car.policy := by
  simp [State.gatesOff]
@[simp] theorem State.gatesOff_q (s : State) (n : LaneIx) (t : Ticks) : (s.gatesOff n t).q = s.q := rfl
@[simp] theorem State.gatesOff_obs (s : State) (n : LaneIx) (t : Ticks) : (s.gatesOff n t).obs = s.obs := rfl

/-- What holds a lane is not in its gates. -/
@[simp] theorem State.forced_gatesOff (s : State) (n : LaneIx) (t : Ticks) : (s.gatesOff n t).forced n = s.forced n := by
  simp [State.forced, Lane.running, State.gatesOff]

/-! ### Pins -/

/-- A lane that follows its pins keeps what its pins do not touch: a trip held off in PIN mode is counted (R462). -/
theorem State.pinGuard_cases (s : State) (n : LaneIx) : s.pinGuard n = s ∨ ∃ (i : Nat) (bs : Lane → Vector HalfBridge 3), s.pinGuard n =
    (s.countTrip n i).modLn n fun l => { l with car.bridges := bs l } := by
  unfold State.pinGuard
  dsimp only
  split
  · split
    · exact .inr ⟨_, _, rfl⟩
    · exact .inl rfl
  · exact .inl rfl

@[simp] theorem State.countTrip_q (s : State) (n : LaneIx) (i : Nat) : (s.countTrip n i).q = s.q := by simp [State.countTrip]

theorem State.pinGuard_q (s : State) (n : LaneIx) : (s.pinGuard n).q = s.q := by
  rcases s.pinGuard_cases n with h | ⟨i, bs, h⟩ <;> rw [h]
  simp

/-- The lane keeps what neither a trip's bookkeeping nor a gate touches. -/
theorem State.pinGuard_ln (s : State) (n : LaneIx) :
    ((s.pinGuard n).ln n).com = (s.ln n).com ∧ ((s.pinGuard n).ln n).latch = (s.ln n).latch ∧
    ((s.pinGuard n).ln n).ops = (s.ln n).ops ∧ ((s.pinGuard n).ln n).car.set = (s.ln n).car.set ∧
    ((s.pinGuard n).ln n).car.mask = (s.ln n).car.mask ∧ ((s.pinGuard n).ln n).gate.waiting = (s.ln n).gate.waiting := by
  rcases s.pinGuard_cases n with h | ⟨i, bs, h⟩ <;> rw [h]
  · exact ⟨rfl, rfl, rfl, rfl, rfl, rfl⟩
  · simp [State.countTrip]

@[simp] theorem State.drivePins_q (s : State) (n : LaneIx) (t : Ticks) : (s.drivePins n t).q = s.q := s.pinGuard_q n
@[simp] theorem State.drivePins_com (s : State) (n : LaneIx) (t : Ticks) : ((s.drivePins n t).ln n).com = (s.ln n).com :=
  (State.drive_com ..).trans (s.pinGuard_ln n).1
@[simp] theorem State.drivePins_latch (s : State) (n : LaneIx) (t : Ticks) : ((s.drivePins n t).ln n).latch = (s.ln n).latch :=
  (State.drive_latch ..).trans (s.pinGuard_ln n).2.1
@[simp] theorem State.drivePins_ops (s : State) (n : LaneIx) (t : Ticks) : ((s.drivePins n t).ln n).ops = (s.ln n).ops :=
  (State.drive_ops ..).trans (s.pinGuard_ln n).2.2.1
@[simp] theorem State.drivePins_car_set (s : State) (n : LaneIx) (t : Ticks) : ((s.drivePins n t).ln n).car.set = (s.ln n).car.set :=
  (State.drive_car_set ..).trans (s.pinGuard_ln n).2.2.2.1
@[simp] theorem State.drivePins_car_mask (s : State) (n : LaneIx) (t : Ticks) : ((s.drivePins n t).ln n).car.mask = (s.ln n).car.mask :=
  (State.drive_car_mask ..).trans (s.pinGuard_ln n).2.2.2.2.1
@[simp] theorem State.drivePins_waiting (s : State) (n : LaneIx) (t : Ticks) :
    ((s.drivePins n t).ln n).gate.waiting = (s.ln n).gate.waiting := by
  rw [State.drivePins, State.drive_gate]
  exact (s.pinGuard_ln n).2.2.2.2.2

/-! ### The lane's state and a start in progress -/

/-- The lane's state changes and nothing else of the lane. -/
@[simp] theorem State.ln_laneState (s : State) (n : LaneIx) (st : LaneState) :
    (s.laneState n st).ln n = { s.ln n with com.state := st } := by
  unfold State.laneState
  split
  · rename_i h
    rw [← h]
  · rw [State.ln_traceLane, State.ln_modLn]

@[simp] theorem State.laneState_q (s : State) (n : LaneIx) (st : LaneState) : (s.laneState n st).q = s.q := by
  unfold State.laneState
  split <;> simp

/-- A start in progress ends: its mark goes. -/
@[simp] theorem State.ln_endStart (s : State) (n : LaneIx) (o : Word) : (s.endStart n o).ln n = { s.ln n with ops.start := none } := by
  unfold State.endStart
  dsimp only
  split
  · rw [State.ln_finish, State.ln_modLn]
  · rename_i h
    rw [← h]

/-! ### Stops and safe levels -/

/-- Operations in a row that leave a lane. -/
theorem State.ln_foldl {α : Type} (l : List α) (f : State → α → State) (hf : ∀ s x, (f s x).ln m = s.ln m) (s : State) :
    (l.foldl f s).ln m = s.ln m := by
  induction l generalizing s with
  | nil => rfl
  | cons x l ih => exact (ih _).trans (hf s x)

/-- What entering STOPPED leaves of the lane, but for its gates. -/
theorem State.ln_toStopped (s : State) (n : LaneIx) (t : Ticks) : ∃ bs k bs' k', (s.toStopped n t).ln n =
    (((({ s.ln n with com.state := .stopped } : Lane).stoppedSet t (s.ln n).running).takeLimit).setBridges bs k).setBridges bs' k' := by
  unfold State.toStopped
  dsimp only
  generalize hv : List.foldl _ s _ = v
  have base : v.ln n = s.ln n := by
    rw [← hv]
    exact State.ln_foldl (α := StopWait) _ _ (fun _ w => State.ln_finish _ w.what ..) s
  generalize hw : (if (s.ln n).ops.lineLoss = true then _ else _ : State) = w
  have stopped : w.ln n = { s.ln n with com.state := .stopped } := by
    rw [← hw]
    split <;> simp [base]
  obtain ⟨bs, off⟩ := State.ln_gatesOff ((w.modLn n (Lane.stoppedSet t (s.ln n).running)).modLn n Lane.takeLimit) n t
  obtain ⟨bs', k', driven⟩ := State.ln_drive (((w.modLn n (Lane.stoppedSet t (s.ln n).running)).modLn n Lane.takeLimit).gatesOff n t) n t
  refine ⟨bs, 0, bs', k', ?_⟩
  rw [driven, off, State.ln_modLn, State.ln_modLn, stopped]

@[simp] theorem State.toStopped_state (s : State) (n : LaneIx) (t : Ticks) : ((s.toStopped n t).ln n).com.state = .stopped := by
  obtain ⟨bs, k, bs', k', h⟩ := s.ln_toStopped n t
  rw [h]
  rfl

@[simp] theorem State.toStopped_latch (s : State) (n : LaneIx) (t : Ticks) : ((s.toStopped n t).ln n).latch = (s.ln n).latch := by
  obtain ⟨bs, k, bs', k', h⟩ := s.ln_toStopped n t
  rw [h]
  rfl

@[simp] theorem State.toStopped_waiting (s : State) (n : LaneIx) (t : Ticks) : ((s.toStopped n t).ln n).gate.waiting = false := by
  obtain ⟨bs, k, bs', k', h⟩ := s.ln_toStopped n t
  rw [h]
  rfl

end Sys2Proof.Machine
end


section
/-! SUPPORT. Stops, safe levels and the latch of one lane, and an operation on every lane seen at one of them. -/

namespace Sys2Proof.Machine

set_option Elab.async false

variable {s r : State} {n m : LaneIx}

/-! ### An operation on every lane, seen at one lane -/

section
variable {f : State → LaneIx → State} (hf : ∀ r n, LanesStep s r → LaneStep n r (f r n))
include hf

theorem LanesStep.foldl_others {l : List LaneIx} (h : LanesStep s r) (hn : n ∉ l) :
    LanesStep r (l.foldl f r) ∧ (l.foldl f r).ln n = r.ln n := by
  induction l generalizing r with
  | nil => exact ⟨.refl r, rfl⟩
  | cons x l ih =>
    obtain ⟨head, tail⟩ := not_or.1 (List.mem_cons.not.1 hn)
    have k := hf r x h
    obtain ⟨steps, same⟩ := ih (h.trans k.lanes) tail
    exact ⟨k.lanes.trans steps, same.trans (k.others n (Ne.symm head))⟩

theorem LanesStep.foldl_at {l : List LaneIx} (h : LanesStep s r) (nodup : l.Nodup) (hn : n ∈ l) :
    ∃ w, LanesStep r w ∧ w.ln n = r.ln n ∧ LanesStep (f w n) (l.foldl f r) ∧ (l.foldl f r).ln n = (f w n).ln n := by
  induction l generalizing r with
  | nil => cases hn
  | cons x l ih =>
    have k := hf r x h
    obtain ⟨notin, nodup⟩ := List.nodup_cons.1 nodup
    by_cases e : n = x
    · subst e
      obtain ⟨steps, same⟩ := (h.trans k.lanes).foldl_others hf notin
      exact ⟨r, .refl r, rfl, steps, same⟩
    · obtain ⟨w, steps, same, rest, last⟩ := ih (h.trans k.lanes) nodup (List.mem_of_ne_of_mem e hn)
      exact ⟨w, k.lanes.trans steps, same.trans (k.others n (Ne.symm e)), rest, last⟩

/-- What an operation on every lane does at lane `n`: it meets the lane as it was, and what it leaves of it stays. -/
theorem State.eachLane_at (n : LaneIx) : ∃ w, LanesStep s w ∧ w.ln n = s.ln n ∧ LanesStep (f w n) (s.eachLane f) ∧
    (s.eachLane f).ln n = (f w n).ln n :=
  (LanesStep.refl s).foldl_at hf (by decide) (by revert n; decide)

theorem LanesStep.eachLane : LanesStep s (s.eachLane f) :=
  (s.eachLane_lanes (fun _ _ _ => True) f fun r n h => ⟨hf r n h, trivial⟩).1

end

/-! ### A stop -/

@[simp] theorem State.applyStop_coast (s : State) (n : LaneIx) (t : Ticks) (ms : Nat) (heat : Bool) :
    s.applyStop n t .coast ms heat = s.toStopped n t := rfl

/-- A stop mode leaves the lane STOPPED or STOPPING. -/
theorem State.applyStop_state (s : State) (n : LaneIx) (t : Ticks) (k : StopMode) (ms : Nat) (heat : Bool) :
    ((s.applyStop n t k ms heat).ln n).com.state = if k = .coast then .stopped else .stopping := by
  cases k <;> simp [State.applyStop]

/-- A stop of a running lane leaves it STOPPING or STOPPED. -/
theorem State.beginStop_state (s : State) (n : LaneIx) (t : Ticks) (k : StopMode) (heat : Bool) (c : Option Applied) (o : Word)
    (line : Bool) (running : (s.ln n).running = true) :
    ((s.beginStop n t k heat c o line).ln n).com.state = .stopping ∨ ((s.beginStop n t k heat c o line).ln n).com.state = .stopped := by
  unfold State.beginStop
  dsimp only
  rw [if_neg (by simp [running])]
  split
  · rename_i keeps
    have stopping : (s.ln n).com.state = .stopping := by
      simp only [Lane.keepsStop, Bool.and_eq_true, decide_eq_true_eq] at keeps
      exact keeps.1
    split
    · exact .inl stopping
    · exact .inl stopping
  · rw [State.applyStop_state]
    split
    · exact .inr rfl
    · exact .inl rfl

/-! ### Safe levels -/

/-- Safe levels leave the lane STOPPED, and latched as the change of it says. -/
theorem State.forceSafe_spec (s : State) (n : LaneIx) (t : Ticks) (o : Word) (g : Lane → Lane) :
    ((s.forceSafe n t o fun s => s.modLn n g).ln n).com.state = .stopped ∧
    ((s.forceSafe n t o fun s => s.modLn n g).ln n).latch =
      ((g { s.ln n with ops.start := none }).force (s.forced n) t).latch := by
  unfold State.forceSafe
  dsimp only
  generalize hv : ((s.endStart n o).modLn n g).modLn n (Lane.force (s.forced n) t) = v
  have lane : v.ln n = (g { s.ln n with ops.start := none }).force (s.forced n) t := by
    rw [← hv]
    simp
  split
  · exact ⟨State.toStopped_state .., by rw [State.toStopped_latch, lane]⟩
  · rename_i halted
    have state : (v.ln n).com.state = .stopped := by simpa [Lane.running] using halted
    split
    · exact ⟨by simpa using state, by rw [State.drive_latch, lane]⟩
    · exact ⟨by simpa using state, by rw [State.drive_latch, State.gatesOff_latch, lane]⟩

/-- A lane that line loss stops at its safe levels reports so to its owner (R70). -/
theorem State.toStopped_lineLoss (s : State) (n : LaneIx) (t : Ticks) {p : Pitch} (owner : s.laneOwner n = some p)
    (loss : (s.ln n).ops.lineLoss = true) (safe : (s.ln n).latch.safeLine = true) :
    ⟨p, s.eventEntry 0x01 n.val 0x01 1 0 0 0⟩ ∈ (s.toStopped n t).q.events := by
  unfold State.toStopped
  dsimp only
  rw [if_pos loss]
  generalize hv : List.foldl _ s _ = v
  have step : LaneStep n s v := hv ▸ (LaneStep.refl n s).foldl _ (fun r w k => k.finish ..) _
  have base : v.ln n = s.ln n := by
    rw [← hv]
    exact State.ln_foldl (α := StopWait) _ _ (fun _ w => State.ln_finish _ w.what ..) s
  have forced : (v.laneState n .stopped).forced n = true := by simp [State.forced, base, safe]
  have owned : (v.laneState n .stopped).laneOwner n = some p := ((step.laneState _).lanes.laneOwner n).trans owner
  have entry := ((step.laneState .stopped).lanes.eventEntry 0x01 n.val 0x01 1 0 0 0)
  simp only [forced, State.laneEvent, owned, State.eventTo, State.drive, State.gatesOff, State.modLn, State.setLn_q, State.eventFor_q,
    State.laneState_q, List.mem_append, List.mem_singleton]
  exact .inr (congrArg _ entry.symm)

/-- A cause of safe levels ends: the lane keeps its commutation, operations and registers. -/
theorem State.releaseSafe_spec (s : State) (n : LaneIx) (t : Ticks) (g : Lane → Lane) :
    let u := s.releaseSafe n t fun s => s.modLn n g
    let l := g (s.ln n)
    u.q = s.q ∧ (u.ln n).com = l.com ∧ (u.ln n).latch = l.latch ∧ (u.ln n).ops = l.ops ∧ (u.ln n).car.set = l.car.set ∧
      (u.ln n).car.mask = l.car.mask := by
  intro u l
  unfold u l State.releaseSafe
  dsimp only
  split <;> simp

/-- The latch sets from a source: the lane is STOPPED. -/
theorem State.setLatch_spec (s : State) (n : LaneIx) (src : Byte) (t : Ticks) :
    ((s.setLatch n src t).ln n).latch.latched = true ∧ ((s.ln n).latch.latched = false →
      ((s.setLatch n src t).ln n).latch.src = src ∧ ((s.setLatch n src t).ln n).com.state = .stopped) := by
  unfold State.setLatch
  split
  · rename_i latched
    exact ⟨latched, fun h => absurd latched (by simp [h])⟩
  · obtain ⟨state, latch⟩ := (s.latchTask n t).forceSafe_spec n t 2
      fun l => { l with latch.latched := true, latch.src := src }
    simp only [State.ln_traceLane, State.ln_laneEvent]
    rw [latch]
    exact ⟨rfl, fun _ => ⟨rfl, state⟩⟩

/-- A retry wait of a lane that does not run ends (R474). -/
theorem State.endPinWait_waiting (s : State) (n : LaneIx) (t : Ticks) (halted : (s.ln n).running = false) :
    ((s.endPinWait n t).ln n).gate.waiting = false := by
  unfold State.endPinWait
  split
  · simp
  · rename_i h
    simpa [halted] using h

theorem State.endPinWait_of_not_waiting (s : State) (n : LaneIx) (t : Ticks) (h : (s.ln n).gate.waiting = false) :
    s.endPinWait n t = s := by
  simp [State.endPinWait, h]

end Sys2Proof.Machine
end


section
/-! SUPPORT. Start-up: resets, the ladder, seeding and the line-power watchers, each row once its condition holds. -/

namespace Sys2Proof.Machine

set_option Elab.async false

/-! ### Device resets -/

/-- Every object of the reset state is parked but queue group 0, which is P0's (R243). -/
theorem Owners.reset_parked : (∀ i : LaneIx, (Owners.lane {})[i] = none) ∧ (∀ i : TrkIx, (Owners.wheel {})[i] = none) ∧
    (∀ i : TrkIx, (Owners.win {})[i] = none) ∧ (∀ i : AinIx, (Owners.ain {})[i] = none) ∧
    (∀ i : TallyIx, (Owners.tally {})[i] = none) ∧ (Owners.group {})[(0 : Fin 16)] = some 0 ∧
    ∀ g : Fin 16, g ≠ 0 → (Owners.group {})[g] = none := by
  decide

theorem watchOff_iff (w : ClockWindows) : watchOff w = true ↔
    (25600 < 92 * w.root1 ∨ 108 * w.root1 < 25600) ∧ (25600 < 92 * w.root2 ∨ 108 * w.root2 < 25600) := by
  simp [watchOff]

theorem rootOff_iff (w : ClockWindows) : rootOff w = true ↔ (w.root1 < 218 ∨ 294 < w.root1) ∧ (w.root2 < 218 ∨ 294 < w.root2) := by
  simp [rootOff]

theorem xtalNear_iff (w : ClockWindows) : xtalNear w = true ↔
    (18400 ≤ w.xtal1 ∧ w.xtal1 ≤ 21600) ∧ (18400 ≤ w.xtal2 ∧ w.xtal2 ≤ 21600) := by
  simp [xtalNear]

/-- A failed WATCH check that no good crystal lays on the root resets the device (R94, R653). -/
theorem State.judgeWindows_of_watchOff {s : State} {w : ClockWindows} (t : Ticks) (root : s.clk.rootOk = true)
    (off : watchOff w = true) (unconfirmed : (rootOff w && s.clk.xtalOk && xtalNear w) = false) :
    s.judgeWindows t w = s.softReset 2 := by
  simp [State.judgeWindows, root, off, unconfirmed]

/-- Two windows off the root's count that a good crystal confirms are a root failure (R653). -/
theorem State.judgeWindows_of_confirmed {s : State} {w : ClockWindows} (t : Ticks) (root : s.clk.rootOk = true)
    (confirmed : (rootOff w && s.clk.xtalOk && xtalNear w) = true) : s.judgeWindows t w = s.rootFailure t := by
  simp [State.judgeWindows, root, confirmed]

/-- Settles O2: the state that each reset leaves is the one that `State.deviceReset` writes out. -/
theorem deviceResetsKeepOnlyCauseAndHoldCap : Obligations.DeviceResetsKeepOnlyCauseAndHoldCap := by
  refine ⟨Owners.reset_parked, fun s t => ⟨rfl, Owners.reset_parked⟩, fun s t w alive root off1 off2 unconfirmed => ⟨?_, Owners.reset_parked⟩,
    fun s t settled out => ⟨?_, Owners.reset_parked⟩, fun s settled => if_pos settled⟩
  · have judged : (s.lanesTick t).judgeWindows t w = (s.lanesTick t).softReset 2 := by
      refine State.judgeWindows_of_watchOff t (by simpa using root) ((watchOff_iff w).2 ⟨off1, off2⟩) ?_
      rw [← Bool.not_eq_true]
      simpa [rootOff_iff, xtalNear_iff, and_assoc] using unconfirmed
    refine (if_pos alive).trans ?_
    rw [judged, State.softReset, State.lanesTick_dev, State.lanesTick_pwr]
    generalize s.lanesTick t = v
    rfl
  · exact if_pos ⟨settled, out⟩

/-! ### The ladder -/

theorem State.resetOver_iff (s : State) (t : Ticks) : s.resetOver t = true ↔ s.dev.resetAt + 3200 ≤ t := decide_eq_true_iff

theorem toNat_leaseLen (k : Nat) (h : k < 256) : (if k = 0 then (1 : Byte) else BitVec.ofNat 8 k).toNat = max 1 k := by
  split
  · subst k; rfl
  · rw [BitVec.toNat_ofNat, Nat.mod_eq_of_lt h]
    omega

/-- A change of each lane that looks at nothing but the fuses besides the lane. -/
theorem State.eachLane_modLn (s : State) (f : Fuses → LaneIx → Lane → Lane) (hf : ∀ x n l, (f x n l).car.bridges = l.car.bridges) :
    s.eachLane (fun r n => r.modLn n (f r.fuse n)) = { s with lane := (s.eachLane fun r n => r.modLn n (f r.fuse n)).lane } ∧
    ∀ n, (s.eachLane fun r n => r.modLn n (f r.fuse n)).ln n = f s.fuse n (s.ln n) := by
  obtain ⟨rest, lanes⟩ := s.eachLane_spec (fun l n k => k = f s.fuse n l) (fun s t => t = { s with lane := t.lane }) (fun _ => rfl)
    (fun _ _ _ h k => k.trans (by rw [h])) (fun r n => r.modLn n (f r.fuse n)) fun r n h =>
      ⟨(LaneStep.refl n r).modLn _ (hf _ n), rfl, by rw [State.ln_modLn, h]⟩
  exact ⟨rest, lanes⟩

theorem State.enterSeeded_eq (s : State) : s.enterSeeded = { s with
    dev := { s.dev with
      power := if s.dev.power = Power.joined ∧ s.pit.drbgHealthy = true ∧ s.fuse.keysDone = true then .seeded else s.dev.power
      seedTime := if s.dev.power = Power.joined ∧ s.pit.drbgHealthy = true ∧ s.fuse.keysDone = true
        then satNat 16 ((s.now - s.dev.settledAt) / 16000) else s.dev.seedTime }
    pit := { s.pit with
      seededOnce := s.pit.seededOnce || decide (s.dev.power = Power.joined ∧ s.pit.drbgHealthy = true ∧ s.fuse.keysDone = true) } } := by
  unfold State.enterSeeded
  split
  · rename_i h
    simp only [h, and_self, decide_true, Bool.or_true]
  · rename_i h
    simp only [h, decide_false, Bool.or_false]

/-- Settles O3: each row of the ladder once its condition holds; FUSE_SENSE_DONE changes each lane by the fuses alone. -/
theorem ladderClimbsAndSenseFixesConfiguration : Obligations.LadderClimbsAndSenseFixesConfiguration := by
  refine ⟨fun s t dark free past => ?_, fun s t wait past => ?_, fun s t wait past => ?_, fun s t up early => ⟨?_, ?_⟩,
    fun s t sensed => ?_, fun s lit => ?_, fun s weak settled keys => ?_⟩
  · exact if_pos ⟨dark, by simp [free], (s.resetOver_iff t).2 past⟩
  · exact if_pos ⟨wait, (s.resetOver_iff t).2 past⟩
  · exact if_pos ⟨wait, (s.resetOver_iff t).2 past⟩
  · exact if_neg fun ⟨_, _, past⟩ => Nat.not_le.2 early ((s.resetOver_iff t).1 past)
  · exact if_neg fun ⟨_, past⟩ => Nat.not_le.2 early ((s.resetOver_iff t).1 past)
  · exact if_pos sensed
  · obtain ⟨rest, lanes⟩ := State.eachLane_modLn ({ s with
      dev.power := .sensed
      fuse := { s.fuse with
        image := s.fuse.array, lifecycle := lifeCycleOf s.fuse.array, trims := Vector.ofFn fun i => sensedTrim s.fuse.array i.val
        cfg100 := sensedConfig s.fuse.array 0x100, cfg101 := sensedConfig s.fuse.array 0x101
        cfg102 := sensedConfig s.fuse.array 0x102, senseDone := true, critFail := senseFails s.fuse.array }
      pit.hostPitch := ⟨bits (sensedConfig s.fuse.array 0x100) 9 3, by unfold bits; omega⟩
      pwr.request := BitVec.ofNat 2 (bits (sensedConfig s.fuse.array 0x100) 12 2)
      host.leaseLen := if bits (sensedConfig s.fuse.array 0x102) 0 8 = 0 then 1
        else BitVec.ofNat 8 (bits (sensedConfig s.fuse.array 0x102) 0 8) } : State)
      (fun x n l => { l with
        car.policy := policyDefault (sensedConfig s.fuse.array 0x101) n
        car.policyShadow := policyDefault (sensedConfig s.fuse.array 0x101) n
        sense.offset := roundHalfAway (((x.trims[(⟨2 + n.val, by omega⟩ : Fin 16)]).setWidth 10).toInt * l.sense.set.live.gain) 20 })
      fun _ _ _ => rfl
    generalize hu : State.eachLane _ _ = u at rest lanes
    refine ⟨u, (if_pos lit).trans (congrArg _ hu), ?_, ?_, ?_, ?_, ?_⟩
    · rw [rest]
    · exact congrArg State.fuse rest
    · exact congrArg (fun u : State => u.pit.hostPitch.val) rest
    · refine (congrArg (fun u : State => u.host.leaseLen.toNat) rest).trans (toNat_leaseLen _ ?_)
      unfold bits
      omega
    · intro n
      rw [lanes, State.factoryOffset, rest]
      rfl
  · refine (if_pos ⟨settled, by simp [keys]⟩).trans ?_
    rw [State.enterSeeded_eq]
    simp only [and_true]

/-! ### Seeding -/

/-- A device at SETTLED whose repetition-count test stands at 40 bits, and whose adaptive-proportion count stands at its cutoff already: the
statement quantifies over it, though no run of raw bits leads there, since the bit that brought the count to 795 would have failed. -/
def settledAtBothCutoffs : State :=
  { dev := { power := .settled }
    pit := { entropy := { rctBit := true, rctRun := 40, aptBit := false, aptSeen := 900, aptSame := 795 } } }

/-- DRBG_EVENT after a row, 0 where it does not complete. -/
def drbgEventAfter (o : Host.Outcome State Fault Refusal) : Word :=
  match o with
  | .next u => u.pit.drbgEvent
  | _ => 0

/-- Refutes O4: it reads the adaptive-proportion test off the counters as "one more occurrence makes 795", where the model compares the count
after the bit with 795. From `settledAtBothCutoffs` a bit that fails the repetition-count test and is no occurrence leaves the count at
795, so that both tests fail and DRBG_EVENT reads 3; the statement gives 1. -/
theorem not_seedingAndHealthTestsDriveSeeded : ¬ Obligations.SeedingAndHealthTestsDriveSeeded := by
  rintro ⟨fails, -⟩
  have one := congrArg drbgEventAfter (fails settledAtBothCutoffs 0 [] true rfl (.inl ⟨rfl, rfl⟩))
  revert one
  decide

end Sys2Proof.Machine
end


section
/-! SUPPORT. Line power and the clocks: each row once its condition holds, and what it does to each lane. -/

namespace Sys2Proof.Machine

set_option Elab.async false

/-! ### Safe levels that end in every lane -/

/-- A cause of safe levels, marked in the latch of each lane it holds, ends in every lane: nothing but lanes and the observation counters
changes, and a lane that it did not hold stays. -/
theorem State.eachLane_releaseSafe (s : State) (t : Ticks) (held : LaneLatch → Bool) (clear : LaneLatch → LaneLatch)
    (free : ∀ x, held x = false → clear x = x) {u : State}
    (hu : (s.eachLane fun r n => if held (r.ln n).latch then
      r.releaseSafe n t fun r => r.modLn n fun l => { l with latch := clear l.latch } else r) = u) :
    u = { s with lane := u.lane, obs := u.obs } ∧ ∀ n : LaneIx,
      (u.ln n).latch = clear (s.ln n).latch ∧ (u.ln n).com = (s.ln n).com ∧ (u.ln n).car.set = (s.ln n).car.set ∧
      (u.ln n).car.mask = (s.ln n).car.mask ∧ (u.ln n).ops = (s.ln n).ops ∧
      (held (s.ln n).latch = false → u.ln n = s.ln n) := by
  subst hu
  obtain ⟨⟨steps, queue⟩, lanes⟩ := s.eachLane_spec
    (fun l _ k => k.latch = clear l.latch ∧ k.com = l.com ∧ k.car.set = l.car.set ∧ k.car.mask = l.car.mask ∧ k.ops = l.ops ∧
      (held l.latch = false → k = l))
    (fun s t => LanesStep s t ∧ t.q = s.q) (fun s => ⟨.refl s, rfl⟩) (fun _ _ _ h k => ⟨h.1.trans k.1, k.2.trans h.2⟩)
    (fun r n => if held (r.ln n).latch then
      r.releaseSafe n t fun r => r.modLn n fun l => { l with latch := clear l.latch } else r)
    fun r n _ => by
      have lane : LaneStep n r (r.releaseSafe n t fun r => r.modLn n fun l => { l with latch := clear l.latch }) :=
        (LaneStep.refl n r).releaseSafe t _ fun _ k => k.modLn _
      obtain ⟨queue, com, latch, ops, set, mask⟩ := r.releaseSafe_spec n t fun l => { l with latch := clear l.latch }
      by_cases h : held (r.ln n).latch = true
      · rw [if_pos h]
        exact ⟨lane, ⟨lane.lanes, queue⟩, latch, com, set, mask, ops, fun k => absurd h (by simp [k])⟩
      · rw [if_neg h]
        have same := free _ (Bool.not_eq_true _ ▸ h)
        exact ⟨.refl n r, ⟨.refl r, rfl⟩, same.symm, rfl, rfl, rfl, rfl, fun _ => rfl⟩
  refine ⟨?_, lanes⟩
  have rest := steps.rest
  rwa [queue] at rest

/-- What LINE_GOOD leaves of the line-power registers. -/
def PowerLine.good (x : PowerLine) (settled : Bool) : PowerLine :=
  { x with lineOk := true, orderly := false, buckOn := x.buckOn || (settled && !x.ovStop) }

theorem execLineGood_of_alive {s : State} (t : Ticks) (alive : s.alive = true) :
    execLineGood t s = .next (State.eachLane { s.lanesTick t with pwr := s.pwr.good s.atSettled } fun r n =>
      if (r.ln n).latch.safeLine then r.releaseSafe n t fun r => r.modLn n fun l => { l with latch.safeLine := false } else r) := by
  unfold execLineGood
  dsimp only
  rw [if_pos ((State.lanesTick_alive s t).trans alive), State.buckStart, State.lanesTick_pwr]
  simp only [State.atSettled, State.lanesTick_dev, Bool.and_true]
  rfl

/-- Settles O5: each watcher once its condition holds; LINE_GOOD releases the lanes that line loss held. -/
theorem linePowerWatchersReport : Obligations.LinePowerWatchersReport := by
  refine ⟨fun s t alive => if_pos alive, fun s => rfl, fun s => ?_, fun s q alive => if_pos alive, fun s t run => if_pos run,
    fun s run => if_pos run, fun s t alive => ?_⟩
  · rw [← Bool.and_true (s.atSettled && s.pwr.lineOk)]
    rfl
  · have completes := execLineGood_of_alive t alive
    generalize s.lanesTick t = v at completes ⊢
    generalize hu : State.eachLane _ _ = u at completes
    obtain ⟨rest, lanes⟩ := State.eachLane_releaseSafe { v with pwr := s.pwr.good s.atSettled } t (·.safeLine)
      (fun x => { x with safeLine := false }) (fun x h => by rw [← h]) hu
    refine ⟨u, completes, rest, fun n => ?_⟩
    obtain ⟨latch, com, set, mask, ops, same⟩ := lanes n
    exact ⟨latch, com, set, mask, ops, same⟩

end Sys2Proof.Machine
end


section
/-! SUPPORT. A closure: what it leaves of the device, and what it does to each lane (R585 to R591). -/

namespace Sys2Proof.Machine

set_option Elab.async false

variable {s r u : State} {n : LaneIx}

/-! ### Steps of a closure -/

/-- From `s` to `t` only reports, the fuses, lanes, bursts, trackers, tallies and queued trace may have changed. -/
structure Closing (s t : State) : Prop where
  rest : t = { s with q := t.q, fuse := t.fuse, lane := t.lane, ana := t.ana, trk := t.trk, obs := t.obs }
  sent : t.obs.sent = s.obs.sent

namespace Closing

protected theorem refl (s : State) : Closing s s := ⟨rfl, rfl⟩

theorem trans (h : Closing s r) (k : Closing r u) : Closing s u := ⟨k.rest.trans (by rw [h.rest]), k.sent.trans h.sent⟩

theorem pending (h : Closing s r) : r.pending = s.pending := by rw [h.rest]
theorem now (h : Closing s r) : r.now = s.now := by rw [h.rest]
theorem dev (h : Closing s r) : r.dev = s.dev := by rw [h.rest]
theorem pwr (h : Closing s r) : r.pwr = s.pwr := by rw [h.rest]
theorem clk (h : Closing s r) : r.clk = s.clk := by rw [h.rest]
theorem bell (h : Closing s r) : r.bell = s.bell := by rw [h.rest]
theorem ring (h : Closing s r) : r.ring = s.ring := by rw [h.rest]
theorem pit (h : Closing s r) : r.pit = s.pit := by rw [h.rest]
theorem host (h : Closing s r) : r.host = s.host := by rw [h.rest]
theorem heat (h : Closing s r) : r.heat = s.heat := by rw [h.rest]

theorem laneOwner (h : Closing s r) (n : LaneIx) : r.laneOwner n = s.laneOwner n := by
  rw [State.laneOwner, h.pit, State.laneOwner]

end Closing

theorem LanesStep.closing (h : LanesStep s r) : Closing s r := ⟨h.rest.trans (by rw [h.rest]), by rw [h.watch]⟩

theorem TrkStep.closing {n : TrkIx} (h : TrkStep n s r) : Closing s r := ⟨h.rest.trans (by rw [h.rest]), by rw [h.watch]⟩

theorem State.leavePartial_closing (s : State) : Closing s s.leavePartial := by
  unfold State.leavePartial
  repeat' split
  all_goals exact ⟨rfl, rfl⟩

theorem State.fuseStop_closing (s : State) : Closing s s.fuseStop := by
  unfold State.fuseStop
  repeat' split
  · exact .refl s
  · exact s.leavePartial_closing.trans ⟨rfl, rfl⟩
  · exact .refl s

theorem State.closureEvents_closing (s : State) (c : Nat) (i : Option SensorIx) : Closing s (s.closureEvents c i) :=
  List.foldlRecOn _ _ (motive := Closing s) (.refl s) fun _ h _ _ => h.trans ⟨rfl, rfl⟩

theorem State.leavePartial_lane (s : State) : s.leavePartial.lane = s.lane := by
  unfold State.leavePartial
  repeat' split
  all_goals rfl

theorem State.fuseStop_lane (s : State) : s.fuseStop.lane = s.lane := by
  unfold State.fuseStop
  repeat' split
  · rfl
  · exact s.leavePartial_lane
  · rfl

theorem State.closureEvents_lane (s : State) (c : Nat) (i : Option SensorIx) : (s.closureEvents c i).lane = s.lane :=
  List.foldlRecOn _ _ (motive := fun r : State => r.lane = s.lane) rfl fun _ h _ _ => h

theorem TrkStep.lane {n : TrkIx} (h : TrkStep n s r) : r.lane = s.lane := by rw [h.rest]

/-- Windows close in every tracker; lanes stay. -/
theorem State.eachTrk_closeWindows (s : State) (t : Ticks) :
    Closing s (s.eachTrk fun r n => r.closeWindows n t) ∧ (s.eachTrk fun r n => r.closeWindows n t).lane = s.lane :=
  List.foldlRecOn _ _ (motive := fun r : State => Closing s r ∧ r.lane = s.lane) ⟨.refl s, rfl⟩ fun r h n _ =>
    have step := (TrkStep.refl n r).closeWindows t
    ⟨h.1.trans step.closing, step.lane.trans h.2⟩

/-! ### Lanes under a closure -/

theorem LaneStep.abortDiag (h : LaneStep n s r) : LaneStep n s (r.abortDiag n) := by
  unfold State.abortDiag
  repeat' split
  · exact (h.modLn _).finish ..
  · exact h
  · exact h

theorem State.ln_abortDiag (s : State) (n : LaneIx) : ∃ x, (s.abortDiag n).ln n = { s.ln n with ops.measure := x } := by
  unfold State.abortDiag
  repeat' split
  · exact ⟨none, by rw [State.ln_finish, State.ln_modLn]⟩
  · exact ⟨_, rfl⟩
  · exact ⟨_, rfl⟩

/-- Aborted diagnoses leave of each lane all but its measurement. -/
theorem State.abortDiags_spec (s : State) :
    LanesStep s s.abortDiags ∧ ∀ n, ∃ x, s.abortDiags.ln n = { s.ln n with ops.measure := x } :=
  s.eachLane_lanes (fun _ l k => ∃ x, k = { l with ops.measure := x }) _ fun r n _ => ⟨(LaneStep.refl n r).abortDiag, r.ln_abortDiag n⟩

theorem LaneStep.closeRunning (h : LaneStep n s r) (line : Bool) (t : Ticks) : LaneStep n s (r.closeRunning n line t) := by
  unfold State.closeRunning
  exact ((h.endStart 3).modLn _).toStopped t

theorem LaneStep.closeLane (h : LaneStep n s r) (closes was line : Bool) (t : Ticks) :
    LaneStep n s (State.closeLane closes was line t r n) := by
  unfold State.closeLane
  dsimp only
  repeat' split
  · exact h
  · exact h.closeRunning line t
  · exact h
  · exact (h.modLn _).drive t
  · exact ((h.modLn _).gatesOff t).drive t

/-- The latch of a lane but for the instant since when it is forced. -/
def LaneLatch.causes (x : LaneLatch) : LaneLatch := { x with forcedAt := 0 }

@[simp] theorem State.toStopped_policy (s : State) (n : LaneIx) (t : Ticks) :
    ((s.toStopped n t).ln n).car.policy = (s.ln n).car.policy := by
  obtain ⟨bs, k, bs', k', h⟩ := s.ln_toStopped n t
  rw [h]
  rfl

/-- What a closure leaves of one lane: a running lane that does not run through is STOPPED, any other keeps its commutation; the causes of
its safe levels and its policy stay. -/
theorem State.closeLane_spec (s : State) (n : LaneIx) (closes was line : Bool) (t : Ticks) :
    let u := State.closeLane closes was line t s n
    ((s.ln n).running = true → ¬ (s.runsThrough n ∧ !(closes ∧ (s.ln n).gate.waiting)) → (u.ln n).com.state = .stopped) ∧
    ((s.ln n).running = true → (s.runsThrough n ∧ !(closes ∧ (s.ln n).gate.waiting)) → u.ln n = s.ln n) ∧
    ((s.ln n).running = false → (u.ln n).com = (s.ln n).com) ∧
    (u.ln n).latch.causes = (s.ln n).latch.causes ∧ (u.ln n).car.policy = (s.ln n).car.policy := by
  intro u
  unfold u State.closeLane
  dsimp only
  by_cases running : (s.ln n).running = true
  · rw [if_pos running]
    split
    · rename_i through
      exact ⟨fun _ h => absurd through h, fun _ _ => rfl, fun h => absurd running (by simp [h]), rfl, rfl⟩
    · rename_i through
      refine ⟨fun _ _ => State.toStopped_state .., fun _ h => absurd h through, fun h => absurd running (by simp [h]), ?_, ?_⟩
      · simp [State.closeRunning, LaneLatch.causes]
      · simp [State.closeRunning]
  · rw [if_neg running]
    refine ⟨fun h => absurd h running, fun h => absurd h running, ?_⟩
    split
    · exact ⟨fun _ => rfl, rfl, rfl⟩
    · split <;> simp [LaneLatch.causes]

/-! ### The declaration -/

/-- The device's record once cause `c` is declared in this epoch: the market is closed. -/
def State.recorded (s : State) (c : Nat) : Device :=
  let d := s.dev.recordCause c s.bell.epoch
  if s.dev.closed then d else { d with power := if d.power = Power.market then Power.seeded else d.power }

/-- A lane of policy and retry wait `l` runs through the closure that leaves the record `d`, where the market was closed before or not (R587). -/
def Lane.runsThrough (l : Lane) (d : Device) (was : Bool) : Prop :=
  d.arisen = 4 ∧ runThroughPolicy l.car.policy = true ∧ (was = true ∨ l.gate.waiting = false)

/-- What a declared cause leaves of lane `l`: it is STOPPED, or keeps its commutation where it does not run or runs through; the causes of its
safe levels and its policy stay. -/
structure Lane.Closed (d : Device) (was : Bool) (l k : Lane) : Prop where
  stops : l.running = true → ¬ l.runsThrough d was → k.com.state = .stopped
  keeps : l.running = true → l.runsThrough d was → k.com = l.com
  rests : l.running = false → k.com = l.com
  latch : k.latch.causes = l.latch.causes
  policy : k.car.policy = l.car.policy

/-- The same of lanes whose measurement was aborted before. -/
theorem Lane.Closed.of_measure {d : Device} {was : Bool} {l k : Lane} {x : Option Measuring}
    (h : Lane.Closed d was { l with ops.measure := x } k) : Lane.Closed d was l k :=
  ⟨h.stops, h.keeps, h.rests, h.latch, h.policy⟩

theorem State.closeLane_closed (was held line : Bool) (t : Ticks) (s : State) (n : LaneIx) :
    Lane.Closed s.dev was (s.ln n) ((State.closeLane (!was) held line t s n).ln n) := by
  obtain ⟨stops, keeps, rests, latch, policy⟩ := s.closeLane_spec n (!was) held line t
  have through : (s.ln n).runsThrough s.dev was ↔
      s.runsThrough n = true ∧ (!decide ((!was) = true ∧ (s.ln n).gate.waiting = true)) = true := by
    cases was <;> simp [Lane.runsThrough, State.runsThrough, and_assoc]
  exact ⟨fun h k => stops h (through.not.1 k), fun h k => congrArg Lane.com (keeps h (through.1 k)), rests, latch, policy⟩

theorem State.declareCause_of_arisen {c : Nat} (t : Ticks) (i : Option SensorIx) (h : s.atJoined = true → bit s.dev.arisen (c - 1) = true) :
    s.declareCause c t i = s := by
  unfold State.declareCause
  cases joined : s.atJoined
  · rfl
  · simp [h joined]

/-- A cause newly declared: what it records, and what it does to each lane. -/
theorem State.declareCause_spec {c : Nat} (t : Ticks) (i : Option SensorIx) (joined : s.atJoined = true)
    (fresh : bit s.dev.arisen (c - 1) = false) :
    Closing { s with dev := s.recorded c } (s.declareCause c t i) ∧
    ∀ n, Lane.Closed (s.recorded c) s.dev.closed (s.ln n) ((s.declareCause c t i).ln n) := by
  unfold State.declareCause
  rw [if_neg (by simp [joined]), if_neg (by simp [fresh])]
  dsimp only
  generalize (Vector.ofFn fun n => s.forced n : Vector Bool 6) = held
  generalize hr : (if s.dev.closed = true then _ else _ : State) = r
  have base : Closing { s with dev := s.recorded c } r ∧ ∀ n, ∃ x, r.ln n = { s.ln n with ops.measure := x } := by
    rw [← hr]
    split
    · rename_i was
      refine ⟨?_, fun n => ⟨_, State.ln_of_lane (State.closureEvents_lane ..) n⟩⟩
      rw [State.recorded, if_pos was]
      exact State.closureEvents_closing ..
    · rename_i was
      generalize hv : State.closureEvents _ c i = v
      have said : Closing { s with dev := s.dev.recordCause c s.bell.epoch } v := hv ▸ State.closureEvents_closing ..
      have lane : v.lane = s.lane := hv ▸ State.closureEvents_lane ..
      have shut : Closing { s with dev := s.recorded c }
          { v with dev.power := if v.dev.power = Power.market then Power.seeded else v.dev.power } := by
        rw [State.recorded, if_neg was, said.dev]
        exact ⟨by rw [said.rest], said.sent⟩
      generalize hw : ({ v with dev.power := if v.dev.power = Power.market then Power.seeded else v.dev.power } : State) = w at shut ⊢
      have stopped := shut.trans w.fuseStop_closing
      have lane : w.fuseStop.lane = s.lane := w.fuseStop_lane.trans (hw ▸ lane)
      generalize w.fuseStop = x at stopped lane ⊢
      obtain ⟨steps, lanes⟩ := x.abortDiags_spec
      obtain ⟨windows, same⟩ := x.abortDiags.eachTrk_closeWindows t
      refine ⟨(stopped.trans steps.closing).trans windows, fun n => ?_⟩
      obtain ⟨y, measure⟩ := lanes n
      exact ⟨y, by rw [State.ln_of_lane same, measure, State.ln_of_lane lane]⟩
  obtain ⟨start, lanes⟩ := base
  generalize hu : State.eachLane r _ = u
  obtain ⟨steps, closed⟩ : LanesStep r u ∧ ∀ n, Lane.Closed (s.recorded c) s.dev.closed (r.ln n) (u.ln n) := by
    rw [← hu]
    refine r.eachLane_lanes (fun _ => Lane.Closed (s.recorded c) s.dev.closed) _ fun x n h => ⟨(LaneStep.refl n x).closeLane .., ?_⟩
    have dev : x.dev = s.recorded c := h.dev.trans start.dev
    exact dev ▸ State.closeLane_closed ..
  refine ⟨start.trans steps.closing, fun n => ?_⟩
  obtain ⟨x, lane⟩ := lanes n
  exact Lane.Closed.of_measure (lane ▸ closed n)

end Sys2Proof.Machine
end


section
/-! SUPPORT. Line loss, over-voltage, root failure and the lease: what each does to the lanes. -/

namespace Sys2Proof.Machine

set_option Elab.async false

variable {s : State}

/-! ### Line loss -/

/-- The line is lost: LINE_OK falls with its event bit, and an INSERT handshake is abandoned (R47, R79). -/
def State.lineLost (s : State) : State := ({ s with pwr.lineOk := false }).pwrEventSet 0x0001 |>.abandonInsert

theorem State.holdsUp_lanesTick (s : State) (t : Ticks) : (s.lanesTick t).holdsUp = s.holdsUp := by
  rw [State.holdsUp, State.lanesTick_atJoined, State.lanesTick_pwr, State.holdsUp]

/-- What an orderly stop for line loss does to lane `n`: it stops a running lane, and ends the retry wait of another (R66, R474). -/
def State.lineStop (t : Ticks) (s : State) (n : LaneIx) : State :=
  if (s.ln n).running then s.beginStop n t (s.ln n).com.set.live.stopMode false none 4 true else s.endPinWait n t

theorem State.lineLossDeclared_eq (s : State) (t : Ticks) (line : s.pwr.lineOk = true) : exec (.lineLossDeclared t) s =
    if s.holdsUp then .next (State.eachLane { (s.lanesTick t).lineLost with pwr.orderly := true } (State.lineStop t))
    else .next ((s.lanesTick t).lineLost.declareCause 2 t none) := by
  change execLineLossDeclared t s = _
  have here : (s.lanesTick t).pwr.lineOk = true := by simpa using line
  have up := s.holdsUp_lanesTick t
  unfold execLineLossDeclared
  generalize s.lanesTick t = v at here up ⊢
  rw [← up]
  dsimp only
  rw [if_pos here]
  rfl

theorem LaneStep.lineStop (n : LaneIx) (t : Ticks) (s : State) : LaneStep n s (s.lineStop t n) := by
  unfold State.lineStop
  split
  · exact (LaneStep.refl n s).beginStop ..
  · exact (LaneStep.refl n s).endPinWait t

theorem State.lineStop_spec (s : State) (n : LaneIx) (t : Ticks) :
    ((s.ln n).running = true → ((s.lineStop t n).ln n).com.state = .stopping ∨ ((s.lineStop t n).ln n).com.state = .stopped) ∧
    ((s.ln n).running = false → (s.ln n).gate.waiting = true → ((s.lineStop t n).ln n).gate.waiting = false) ∧
    ((s.ln n).running = false → (s.ln n).gate.waiting = false → (s.lineStop t n).ln n = s.ln n) := by
  unfold State.lineStop
  cases running : (s.ln n).running
  · refine ⟨nofun, fun _ _ => s.endPinWait_waiting n t running, fun _ h => ?_⟩
    rw [if_neg nofun, s.endPinWait_of_not_waiting n t h]
  · exact ⟨fun _ => s.beginStop_state n t _ _ _ _ _ running, nofun, nofun⟩

/-- A collapse of the line is no cause that a RUN_THROUGH lane runs through (R587). -/
theorem State.recorded_lineCollapse_arisen (s : State) : (s.recorded 2).arisen ≠ 4 := by
  have bit1 (a : BitVec 4) : a ||| 2 ≠ 4 := by revert a; decide
  have arisen : (s.recorded 2).arisen = s.dev.arisen ||| 2 := by
    unfold State.recorded Device.recordCause
    dsimp only
    repeat' split
    all_goals rfl
  exact arisen ▸ bit1 _

/-- What a newly arisen cause leaves of the record of causes. -/
theorem State.recorded_spec (s : State) (c : Nat) :
    (s.recorded c).arisen = s.dev.arisen ||| BitVec.ofNat 4 (2 ^ (c - 1)) ∧ (s.recorded c).reopenNext = s.dev.reopenNext ∧
    (s.dev.arisen = 0 → (s.recorded c).closed = true ∧ (s.recorded c).closeFirst = BitVec.ofNat 3 c ∧
      (s.recorded c).closeEpoch = s.bell.epoch) := by
  have record : (s.dev.recordCause c s.bell.epoch).arisen = s.dev.arisen ||| BitVec.ofNat 4 (2 ^ (c - 1)) ∧
      (s.dev.recordCause c s.bell.epoch).reopenNext = s.dev.reopenNext ∧
      (s.dev.arisen = 0 → (s.dev.recordCause c s.bell.epoch).closed = true ∧
        (s.dev.recordCause c s.bell.epoch).closeFirst = BitVec.ofNat 3 c ∧
        (s.dev.recordCause c s.bell.epoch).closeEpoch = s.bell.epoch) := by
    unfold Device.recordCause
    dsimp only
    split
    · exact ⟨rfl, rfl, fun _ => ⟨rfl, rfl, rfl⟩⟩
    · rename_i some
      split <;> exact ⟨rfl, rfl, fun h => absurd h some⟩
  unfold State.recorded
  dsimp only
  split
  · exact record
  · exact record

/-- A collapse of the line newly declared stops every lane. -/
theorem State.declareCause_lineCollapse (s : State) (t : Ticks) (joined : s.atJoined = true) (fresh : bit s.dev.arisen 1 = false)
    (n : LaneIx) : ((s.declareCause 2 t none).ln n).com.state = .stopped := by
  obtain ⟨-, lanes⟩ := s.declareCause_spec (c := 2) t none joined fresh
  cases running : (s.ln n).running
  · rw [(lanes n).rests running]
    simpa [Lane.running] using running
  · exact (lanes n).stops running fun through => s.recorded_lineCollapse_arisen through.1

/-- Settles O6: a holdup stops each lane by `lineStop`; without one the collapse is declared, unless it had arisen. -/
theorem lineLossStopsOrClosesEveryLane : Obligations.LineLossStopsOrClosesEveryLane := by
  unfold Obligations.LineLossStopsOrClosesEveryLane
  intro shown
  have lost (v : State) : v.lineLost = shown v v.pwr.orderly := rfl
  refine ⟨fun s t line up => ?_, fun s t line up joined fresh => ?_, fun s t line up arisen => ?_⟩
  · have completes := s.lineLossDeclared_eq t line
    rw [if_pos up] at completes
    generalize s.lanesTick t = v at completes ⊢
    obtain ⟨steps, lanes⟩ := State.eachLane_lanes (s := { v.lineLost with pwr.orderly := true })
      (fun _ l k => (Lane.running l = true → k.com.state = .stopping ∨ k.com.state = .stopped) ∧
        (l.running = false → l.gate.waiting = true → k.gate.waiting = false) ∧ (l.running = false → l.gate.waiting = false → k = l))
      (State.lineStop t) fun r n _ => ⟨LaneStep.lineStop n t r, r.lineStop_spec n t⟩
    generalize State.eachLane _ _ = u at completes steps lanes
    exact ⟨u, completes, steps.rest, lanes⟩
  · have completes := s.lineLossDeclared_eq t line
    rw [if_neg (by simp [up])] at completes
    have joined : (s.lanesTick t).atJoined = true := by simpa using joined
    have dev : (s.lanesTick t).dev = s.dev := by simp
    have bell : (s.lanesTick t).bell = s.bell := by simp
    have now : (s.lanesTick t).now = max s.now t := by simp
    have orderly : (s.lanesTick t).pwr.orderly = s.pwr.orderly := by simp
    rw [completes, ← now, ← dev, ← bell, ← orderly]
    rw [← dev] at fresh
    generalize s.lanesTick t = v at *
    obtain ⟨closing, lanes⟩ := v.lineLost.declareCause_spec (c := 2) t none joined fresh
    obtain ⟨arisen, reopen, first⟩ := v.lineLost.recorded_spec 2
    refine ⟨_, rfl, closing.pwr, closing.ring, closing.now, ?_, ?_, ?_, v.lineLost.declareCause_lineCollapse t joined fresh⟩
    · rw [closing.dev]
      change bit (v.lineLost.recorded 2).arisen 1 = true
      rw [arisen]
      simp [bit]
    · rw [closing.dev]
      exact reopen
    · rw [closing.dev]
      exact first
  · have completes := s.lineLossDeclared_eq t line
    rw [if_neg (by simp [up]), lost, State.lanesTick_pwr] at completes
    have same : (s.lanesTick t).atJoined = s.atJoined ∧ (s.lanesTick t).dev = s.dev := by simp
    rw [completes]
    generalize s.lanesTick t = v at same ⊢
    obtain ⟨joined, dev⟩ := same
    rw [State.declareCause_of_arisen t none]
    intro h
    exact dev.symm ▸ arisen (joined ▸ h)

/-! ### An aborted holdup and an over-voltage stop -/

/-- What an aborted holdup does to lane `n`: a STOPPING lane goes to its safe levels (R69, R70). -/
def State.abortStop (t : Ticks) (s : State) (n : LaneIx) : State :=
  if (s.ln n).com.state = .stopping then s.forceSafe n t 4 fun s => s.modLn n Lane.lineForced else s

theorem LaneStep.abortStop (n : LaneIx) (t : Ticks) (s : State) : LaneStep n s (s.abortStop t n) := by
  unfold State.abortStop
  split
  · exact (LaneStep.refl n s).forceSafe t 4 _ fun r h => h.modLn _
  · exact .refl n s

/-- A running lane that line loss forces to its safe levels reports so to its owner (R70). -/
theorem State.forceSafe_lineLoss (s : State) (n : LaneIx) (t : Ticks) (o : Word) {p : Pitch} (owner : s.laneOwner n = some p)
    (running : (s.ln n).running = true) :
    ⟨p, s.eventEntry 0x01 n.val 0x01 1 0 0 0⟩ ∈ (s.forceSafe n t o fun s => s.modLn n Lane.lineForced).q.events := by
  unfold State.forceSafe
  dsimp only
  generalize hv : ((s.endStart n o).modLn n Lane.lineForced).modLn n (Lane.force (s.forced n) t) = v
  have lane : v.ln n = (Lane.lineForced { s.ln n with ops.start := none }).force (s.forced n) t := by
    rw [← hv]
    simp
  have step : LaneStep n s v := hv ▸ (((LaneStep.refl n s).endStart o).modLn _).modLn _
  have runs : (v.ln n).running = true := lane ▸ running
  rw [if_pos runs, ← step.lanes.eventEntry]
  exact v.toStopped_lineLoss n t ((step.lanes.laneOwner n).trans owner) (by rw [lane]; rfl) (by rw [lane]; rfl)

theorem State.abortStop_stopping (s : State) (n : LaneIx) (t : Ticks) (stopping : (s.ln n).com.state = .stopping) :
    ((s.abortStop t n).ln n).com.state = .stopped ∧ ((s.abortStop t n).ln n).latch.safeLine = true ∧
    ∀ p : Pitch, s.laneOwner n = some p → ⟨p, s.eventEntry 0x01 n.val 0x01 1 0 0 0⟩ ∈ (s.abortStop t n).q.events := by
  unfold State.abortStop
  rw [if_pos stopping]
  obtain ⟨state, latch⟩ := s.forceSafe_spec n t 4 Lane.lineForced
  exact ⟨state, by rw [latch]; rfl, fun p owner => s.forceSafe_lineLoss n t 4 owner (by simp [Lane.running, stopping])⟩

/-- What an over-voltage stop does to lane `n`: it latches a running lane (R48). -/
def State.voltageStop (t : Ticks) (s : State) (n : LaneIx) : State := if (s.ln n).running then s.setLatch n 0x60 t else s

theorem LaneStep.voltageStop (n : LaneIx) (t : Ticks) (s : State) : LaneStep n s (s.voltageStop t n) := by
  unfold State.voltageStop
  split
  · exact (LaneStep.refl n s).setLatch ..
  · exact .refl n s

theorem State.holdupAbort_eq (s : State) (t : Ticks) (orderly : s.pwr.orderly = true) :
    exec (.holdupAbort t) s = .next (((s.lanesTick t).pwrEventSet 0x0008).eachLane (State.abortStop t)) := by
  change execHoldupAbort t s = _
  have here : (s.lanesTick t).pwr.orderly = true := by simpa using orderly
  unfold execHoldupAbort
  generalize s.lanesTick t = v at here ⊢
  exact if_pos here

theorem State.lineOvStop_eq (s : State) (t : Ticks) (alive : s.alive = true) : exec (.lineOvStop t) s =
    .next (State.eachLane { s.lanesTick t with pwr.ovStop := true, pwr.buckOn := false } (State.voltageStop t)) := by
  change execLineOvStop t s = _
  have here : (s.lanesTick t).alive = true := by simpa using alive
  unfold execLineOvStop
  generalize s.lanesTick t = v at here ⊢
  exact if_pos here

/-- Settles O7: a holdup aborted in each lane by `abortStop`, an over-voltage stop by `voltageStop`. -/
theorem holdupAbortAndOverVoltageStopLanes : Obligations.HoldupAbortAndOverVoltageStopLanes := by
  unfold Obligations.HoldupAbortAndOverVoltageStopLanes
  refine ⟨fun s t orderly => ?_, fun s t alive => ?_⟩
  · have completes := s.holdupAbort_eq t orderly
    have now : (s.lanesTick t).now = max s.now t := by simp
    have pwr : (s.lanesTick t).pwr = s.pwr := by simp
    have owner (n : LaneIx) : (s.lanesTick t).laneOwner n = s.laneOwner n := by simp
    have entry (n : LaneIx) : s.eventEntry 0x01 n.val 0x01 1 0 0 0 = (s.lanesTick t).eventEntry 0x01 n.val 0x01 1 0 0 0 := by
      rw [State.eventEntry, State.eventEntry, State.lanesTick_bell]
    simp only [entry, ← owner, ← now, ← pwr]
    generalize s.lanesTick t = v at completes ⊢
    have step (r : State) (n : LaneIx) (_ : LanesStep (v.pwrEventSet 0x0008) r) := LaneStep.abortStop n t r
    have frame := LanesStep.eachLane step
    have lanes := fun n => State.eachLane_at step n
    generalize State.eachLane _ _ = u at completes frame lanes
    refine ⟨u, completes, frame.rest, fun n => ?_⟩
    obtain ⟨w, before, same, after, final⟩ := lanes n
    change w.ln n = v.ln n at same
    split
    · rename_i stopping
      obtain ⟨state, safe, told⟩ := w.abortStop_stopping n t (by rw [same]; exact stopping)
      rw [final]
      refine ⟨state, safe, fun p own => after.events.subset ?_⟩
      have entry := before.eventEntry 0x01 n.val 0x01 1 0 0 0
      change _ = v.eventEntry _ _ _ _ _ _ _ at entry
      exact entry ▸ told p ((before.laneOwner n).trans own)
    · rename_i other
      rw [final, State.abortStop, if_neg (by rw [same]; exact other), same]
  · have completes := s.lineOvStop_eq t alive
    have pwr : (s.lanesTick t).pwr = s.pwr := by simp
    simp only [← pwr]
    generalize s.lanesTick t = v at completes ⊢
    obtain ⟨frame, lanes⟩ := State.eachLane_lanes (s := { v with pwr.ovStop := true, pwr.buckOn := false })
      (fun _ l k => if l.running then k.latch.latched = true ∧ (l.latch.latched = false → k.latch.src = 0x60 ∧ k.com.state = .stopped)
        else k = l) (State.voltageStop t) fun r n _ => ⟨LaneStep.voltageStop n t r, by
          unfold State.voltageStop
          split
          · exact r.setLatch_spec n 0x60 t
          · rfl⟩
    generalize State.eachLane _ _ = u at completes frame lanes
    exact ⟨u, completes, frame.rest, lanes⟩

end Sys2Proof.Machine
end


section
/-! SUPPORT. The root of the clock tree: what its failure and its recovery do, and the rows of its references. -/

namespace Sys2Proof.Machine

set_option Elab.async false

variable {s : State}

/-! ### Root failure -/

/-- The clocks and the trace port as the root fails at `t`. -/
def State.rootLost (s : State) (t : Ticks) : State :=
  { ({ s with clk := { s.clk with rootOk := false, pllLock := false, runThrough := true, watchAt := t } }).clkEventSet 0x0001 with
    obs := s.obs.discard }

/-- What a root failure does to lane `n`: its counters take WATCH, or it takes its safe levels (R95 to R97). -/
def State.rootLane (t : Ticks) (s : State) (n : LaneIx) : State :=
  if runThroughPolicy (s.ln n).car.policy then s.modLn n fun l => { l with car := { l.car with runThrough := true, watchAt := t } }
  else s.forceSafe n t 3 fun s => s.modLn n fun l => { l with latch.safeClock := true }

theorem LaneStep.rootLane (n : LaneIx) (t : Ticks) (s : State) : LaneStep n s (s.rootLane t n) := by
  unfold State.rootLane
  split
  · exact (LaneStep.refl n s).modLn _
  · exact (LaneStep.refl n s).forceSafe t 3 _ fun r h => h.modLn _

theorem State.rootLane_spec (s : State) (n : LaneIx) (t : Ticks) :
    (runThroughPolicy (s.ln n).car.policy = false →
      ((s.rootLane t n).ln n).com.state = .stopped ∧ ((s.rootLane t n).ln n).latch.safeClock = true) ∧
    (runThroughPolicy (s.ln n).car.policy = true → ((s.rootLane t n).ln n).car.runThrough = true ∧
      ((s.rootLane t n).ln n).car.watchAt = t ∧ ((s.rootLane t n).ln n).com = (s.ln n).com) := by
  unfold State.rootLane
  cases policy : runThroughPolicy (s.ln n).car.policy
  · obtain ⟨state, latch⟩ := s.forceSafe_spec n t 3 fun l => { l with latch.safeClock := true }
    exact ⟨fun _ => ⟨state, by rw [if_neg nofun, latch]; rfl⟩, nofun⟩
  · refine ⟨nofun, fun _ => ?_⟩
    rw [if_pos rfl, State.ln_modLn]
    exact ⟨rfl, rfl, rfl⟩

theorem State.rootFailure_eq (s : State) (t : Ticks) (ok : s.clk.rootOk = true) : s.rootFailure t =
    (if s.safeLaneAssigned then (s.rootLost t).declareCause 3 t none else s.rootLost t).eachLane (State.rootLane t) := by
  unfold State.rootFailure
  exact if_pos ok

/-- Whether the loss of the root is declared as a cause or not, what it leaves of the device and of each lane before the lanes act on it. -/
theorem State.rootLost_declared (s : State) (t : Ticks) {r : State}
    (hr : (if s.safeLaneAssigned then (s.rootLost t).declareCause 3 t none else s.rootLost t) = r) :
    (∃ d, Closing { s.rootLost t with dev := d } r) ∧ (s.safeLaneAssigned = false → r.dev = s.dev) ∧
    (s.safeLaneAssigned = true → s.atJoined = true → s.dev.arisen = 0 → r.dev.closed = true ∧ r.dev.closeFirst = 3) ∧
    ∀ n, (r.ln n).car.policy = (s.ln n).car.policy ∧
      (s.dev.arisen = 0 → (s.ln n).running = true → (s.ln n).gate.waiting = false → runThroughPolicy (s.ln n).car.policy = true →
        (r.ln n).com = (s.ln n).com) := by
  by_cases assigned : s.safeLaneAssigned = true
  · rw [if_pos assigned] at hr
    by_cases news : s.atJoined = true ∧ bit s.dev.arisen 2 = false
    · obtain ⟨joined, fresh⟩ := news
      obtain ⟨closing, lanes⟩ := (s.rootLost t).declareCause_spec (c := 3) t none joined fresh
      obtain ⟨arisen, -, first⟩ := (s.rootLost t).recorded_spec 3
      rw [hr] at closing lanes
      refine ⟨⟨_, closing⟩, fun h => absurd assigned (by simp [h]), fun _ _ none => ?_, fun n => ⟨(lanes n).policy, ?_⟩⟩
      · obtain ⟨closed, code, -⟩ := first none
        rw [closing.dev]
        exact ⟨closed, code⟩
      · intro none running free policy
        refine (lanes n).keeps running ⟨arisen.trans ?_, policy, .inr free⟩
        rw [show (s.rootLost t).dev.arisen = 0 from none]
        rfl
    · have old : (s.rootLost t).declareCause 3 t none = s.rootLost t := State.declareCause_of_arisen t none fun joined => by
        have arisen : bit s.dev.arisen 2 = true := by simpa using (not_and.1 news) joined
        exact arisen
      rw [old] at hr
      subst hr
      refine ⟨⟨_, .refl _⟩, fun _ => rfl, fun _ joined none => absurd ⟨joined, ?_⟩ news, fun n => ⟨rfl, fun _ _ _ _ => rfl⟩⟩
      rw [none]
      decide
  · rw [if_neg assigned] at hr
    subst hr
    exact ⟨⟨_, .refl _⟩, fun _ => rfl, fun h => absurd h assigned, fun n => ⟨rfl, fun _ _ _ _ => rfl⟩⟩

/-! ### Recovery of the root -/

/-- The clocks once the root is good again. -/
def State.rootBack (s : State) : State :=
  ({ s with clk := { s.clk with rootOk := true, pllLock := true, runThrough := false } }).clkEventSet 0x0008

theorem State.rootRecover_eq (s : State) (t : Ticks) (settled : s.atSettled = true) (lost : s.clk.rootOk = false) :
    exec (.rootRecover t) s = .next ((s.lanesTick t).rootBack.eachLane fun s n =>
      if (s.ln n).latch.safeClock then s.releaseSafe n t fun s => s.modLn n fun l => { l with latch.safeClock := false } else s) := by
  change execRootRecover t s = _
  have here : (s.lanesTick t).atSettled = true ∧ (!(s.lanesTick t).clk.rootOk) = true := by simpa using ⟨settled, lost⟩
  unfold execRootRecover
  generalize s.lanesTick t = v at here ⊢
  exact if_pos here

theorem State.rootFail_eq (s : State) (t : Ticks) (why : RootFault) : exec (.rootFail t why) s =
    .next (match why with | .windows w => (s.lanesTick t).judgeWindows t w | _ => (s.lanesTick t).rootFailure t) := by
  cases why <;> rfl

theorem State.watchCheckReset_eq (s : State) (t : Ticks) (w : ClockWindows) (alive : s.alive = true) :
    exec (.watchCheckReset t w) s = .next ((s.lanesTick t).judgeWindows t w) := if_pos alive

/-- Settles O14: the lanes act by `rootLane` on what `rootLost_declared` leaves; the recovery releases what the failure held. -/
theorem rootFailureActsByLanePolicy : Obligations.RootFailureActsByLanePolicy := by
  unfold Obligations.RootFailureActsByLanePolicy
  intro rootBad xtalGood confirmed fails
  have judged (s : State) (t : Ticks) (w : ClockWindows) (ok : s.clk.rootOk = true) (h : confirmed s w) :
      (s.lanesTick t).judgeWindows t w = (s.lanesTick t).rootFailure t := by
    obtain ⟨root1, root2, xtal, near1, near2⟩ := h
    refine State.judgeWindows_of_confirmed t (by simpa using ok) ?_
    simp [(rootOff_iff w).2 ⟨root1, root2⟩, (xtalNear_iff w).2 ⟨near1, near2⟩, xtal]
  refine ⟨fun s t ok => ?_, fun s t why ok cause => ?_, fun s t w ok alive h => ?_, fun s t settled lost => ?_⟩
  · have whole := s.rootFailure_eq t ok
    generalize hr : (if s.safeLaneAssigned then _ else _ : State) = r at whole
    obtain ⟨⟨d, closing⟩, free, closes, before⟩ := s.rootLost_declared t hr
    obtain ⟨steps, lanes⟩ := State.eachLane_lanes (s := r) (fun _ l k =>
        (runThroughPolicy l.car.policy = false → k.com.state = .stopped ∧ k.latch.safeClock = true) ∧
        (runThroughPolicy l.car.policy = true → k.car.runThrough = true ∧ k.car.watchAt = t ∧ k.com = l.com))
      (State.rootLane t) fun r n _ => ⟨LaneStep.rootLane n t r, r.rootLane_spec n t⟩
    rw [← whole] at steps lanes
    refine ⟨steps.now.trans closing.now, steps.clk.trans closing.clk, steps.bell.trans closing.bell, steps.ring.trans closing.ring,
      steps.pit.trans closing.pit, steps.host.trans closing.host, steps.pwr.trans closing.pwr, steps.heat.trans closing.heat, ?_,
      fun h => steps.dev.trans (free h), fun h joined none => steps.dev ▸ closes h joined none, fun n => ⟨fun policy => ?_, fun policy => ?_⟩⟩
    · rw [steps.watch]
      exact closing.sent
    · exact (lanes n).1 ((before n).1 ▸ policy)
    · obtain ⟨through, since, com⟩ := (lanes n).2 ((before n).1 ▸ policy)
      exact ⟨through, since, fun none running gate => com.trans ((before n).2 none running gate policy)⟩
  · rw [s.rootFail_eq]
    obtain rfl | rfl | ⟨w, rfl, h⟩ := cause
    · rfl
    · rfl
    · exact congrArg _ (judged s t w ok h)
  · rw [s.watchCheckReset_eq t w alive, judged s t w ok h]
  · have completes := s.rootRecover_eq t settled lost
    have clk : (s.lanesTick t).clk = s.clk := by simp
    have now : (s.lanesTick t).now = max s.now t := by simp
    rw [← clk, ← now]
    generalize s.lanesTick t = v at completes ⊢
    generalize hu : State.eachLane _ _ = u at completes
    obtain ⟨rest, lanes⟩ := State.eachLane_releaseSafe v.rootBack t (·.safeClock) (fun x => { x with safeClock := false })
      (fun x h => by rw [← h]) hu
    refine ⟨u, completes, rest, fun n => ?_⟩
    obtain ⟨latch, com, -, -, -, same⟩ := lanes n
    exact ⟨latch, com, same⟩

end Sys2Proof.Machine
end


section
/-! SUPPORT. Host loss and leases stop the lanes of their pitch; the rows of the clock references. -/

namespace Sys2Proof.Machine

set_option Elab.async false

variable {s r u : State} {n : LaneIx}

/-! ### Stops of a pitch's lanes -/

/-- What a host stop of pitch `p` does to lane `n` (R188, R190). -/
def State.hostStopLane (p : Pitch) (all : Bool) (word4 : Word) (s : State) (n : LaneIx) : State :=
  if s.laneOwner n = some p ∧ (s.ln n).running = true ∧ (all = true ∨ bit (s.ln n).car.policy 2 = false) then
    if (s.ln n).keepsStop s.now .ramp false then s.beginStop n s.now .ramp false none 4 false
    else (s.beginStop n s.now .ramp false none 4 false).laneEvent n 0x02 word4 0 0 0
  else s

theorem State.hostStop_eq (s : State) (p : Pitch) (all : Bool) (word4 : Word) :
    s.hostStop p all word4 = s.eachLane (State.hostStopLane p all word4) := rfl

theorem LaneStep.hostStopLane (p : Pitch) (all : Bool) (word4 : Word) (s : State) (n : LaneIx) :
    LaneStep n s (s.hostStopLane p all word4 n) := by
  unfold State.hostStopLane
  repeat' split
  · exact (LaneStep.refl n s).beginStop ..
  · exact ((LaneStep.refl n s).beginStop ..).laneEvent ..
  · exact .refl n s

/-- A lane that a host stop of pitch `p` acts on ends STOPPING or STOPPED. -/
theorem State.hostStopLane_stops (s : State) (n : LaneIx) {p : Pitch} {all : Bool} (word4 : Word)
    (h : s.laneOwner n = some p ∧ (s.ln n).running = true ∧ (all = true ∨ bit (s.ln n).car.policy 2 = false)) :
    ((s.hostStopLane p all word4 n).ln n).com.state = .stopping ∨ ((s.hostStopLane p all word4 n).ln n).com.state = .stopped := by
  unfold State.hostStopLane
  rw [if_pos h]
  split
  · exact s.beginStop_state n s.now .ramp false none 4 false h.2.1
  · rw [State.ln_laneEvent]
    exact s.beginStop_state n s.now .ramp false none 4 false h.2.1

/-- A host stop of pitch `p`, seen at every lane. -/
theorem State.hostStop_spec (s : State) (p : Pitch) (all : Bool) (word4 : Word) :
    LanesStep s (s.hostStop p all word4) ∧ ∀ n,
      ((s.laneOwner n = some p ∧ (s.ln n).running = true ∧ (all = true ∨ bit (s.ln n).car.policy 2 = false)) →
        ((s.hostStop p all word4).ln n).com.state = .stopping ∨ ((s.hostStop p all word4).ln n).com.state = .stopped) ∧
      (¬ (s.laneOwner n = some p ∧ (s.ln n).running = true ∧ (all = true ∨ bit (s.ln n).car.policy 2 = false)) →
        (s.hostStop p all word4).ln n = s.ln n) := by
  rw [State.hostStop_eq]
  refine State.eachLane_lanes (fun n l k => ((s.laneOwner n = some p ∧ l.running = true ∧ (all = true ∨ bit l.car.policy 2 = false)) →
    k.com.state = .stopping ∨ k.com.state = .stopped) ∧
    (¬ (s.laneOwner n = some p ∧ l.running = true ∧ (all = true ∨ bit l.car.policy 2 = false)) → k = l)) _ s fun r n h => ?_
  rw [← h.laneOwner]
  refine ⟨LaneStep.hostStopLane .., fun acts => r.hostStopLane_stops n word4 acts, fun rests => ?_⟩
  rw [State.hostStopLane, if_neg rests]

/-! ### Lease ends -/

/-- The device's record once a lease end is told (R186). -/
def State.leaseTold (s : State) : Device :=
  { s.dev with devEvent := s.dev.devEvent ||| 0x0008, fresh := s.dev.fresh.set s.now 0x0008 }

/-- A lease of pitch `p` that has run out acts. -/
def State.endLease (s : State) (p : Pitch) : State := (s.hostStop p true 2).devEventSet 0x0008

/-- From `s` to `t` leases have run out: only lanes, reports, tallies and trace changed, and the device's record tells them. -/
structure LeaseStep (s t : State) : Prop where
  rest : t = { s with dev := t.dev, lane := t.lane, q := t.q, obs := t.obs }
  told : t.dev = s.dev ∨ t.dev = s.leaseTold

theorem Fresh.set_twice (f : Fresh) (t : Ticks) (m : Word) : (f.set t m).set t m = f.set t m := by
  by_cases same : f.at_ / 2 = t / 2
  · simp [Fresh.set, same, BitVec.or_assoc]
  · simp [Fresh.set, same]

theorem LeaseStep.tell (h : LeaseStep s r) : r.leaseTold = s.leaseTold := by
  have now : r.now = s.now := by rw [h.rest]
  unfold State.leaseTold
  rw [now]
  obtain same | told := h.told
  · rw [same]
  · rw [told, State.leaseTold, Fresh.set_twice]
    simp [BitVec.or_assoc]

theorem LeaseStep.laneOwner (h : LeaseStep s r) (n : LaneIx) : r.laneOwner n = s.laneOwner n := by
  rw [State.laneOwner, h.rest, State.laneOwner]

theorem LeaseStep.endLease (h : LeaseStep s r) (p : Pitch) : LeaseStep s (r.endLease p) ∧ (r.endLease p).dev = s.leaseTold ∧
    ∀ n, (s.laneOwner n = some p → (r.ln n).running = true →
        ((r.endLease p).ln n).com.state = .stopping ∨ ((r.endLease p).ln n).com.state = .stopped) ∧
      (s.laneOwner n ≠ some p → (r.endLease p).ln n = r.ln n) := by
  obtain ⟨steps, lanes⟩ := r.hostStop_spec p true 2
  unfold State.endLease
  generalize r.hostStop p true 2 = w at steps lanes ⊢
  have told : (w.devEventSet 0x0008).dev = s.leaseTold := by
    rw [← h.tell, State.leaseTold, ← steps.dev, ← steps.now]
    rfl
  refine ⟨⟨?_, .inr told⟩, told, fun n => ?_⟩
  · have rest : w = { s with dev := w.dev, lane := w.lane, q := w.q, obs := w.obs } := steps.rest.trans (by rw [steps.dev, h.rest])
    exact congrArg (fun x : State => { x with dev := (w.devEventSet 0x0008).dev }) rest
  · obtain ⟨acts, rests⟩ := lanes n
    rw [← h.laneOwner n]
    exact ⟨fun own running => acts ⟨own, running, .inl rfl⟩, fun other => rests fun k => other k.1⟩

theorem LeaseStep.foldl (l : List OldLease) (h : LeaseStep s r) : LeaseStep s (l.foldl (fun s o => s.endLease o.pitch) r) ∧
    ∀ n, (∀ o ∈ l, s.laneOwner n ≠ some o.pitch) → (l.foldl (fun s o => s.endLease o.pitch) r).ln n = r.ln n := by
  induction l generalizing r with
  | nil => exact ⟨h, fun _ _ => rfl⟩
  | cons o l ih =>
    obtain ⟨step, -, lanes⟩ := h.endLease o.pitch
    obtain ⟨rest, same⟩ := ih step
    rw [List.foldl_cons]
    refine ⟨rest, fun n other => ?_⟩
    exact (same n fun x hx => other x (List.mem_cons_of_mem _ hx)).trans ((lanes n).2 (other o List.mem_cons_self))

/-- What LEASE_EXPIRY leaves of the bells that leases still have: the last one is over. -/
def OldLease.due (o : OldLease) : OldLease := { o with left := if o.left ≤ 1 then 0 else o.left }

/-- The leases at a lease end. -/
def State.leasesDue (s : State) : State :=
  { s with host := { s.host with
    leaseLeft := if s.host.leaseOn then (if s.host.leaseLeft ≤ 1 then 0 else s.host.leaseLeft) else s.host.leaseLeft
    oldLeases := s.host.oldLeases.map OldLease.due } }

theorem State.leasesDue_eq (s : State) (on : s.host.leaseOn = true) (left : s.host.leaseLeft ≤ 1) :
    s.leasesDue = { s with host := { s.host with leaseLeft := 0, oldLeases := s.host.oldLeases.map OldLease.due } } := by
  rw [State.leasesDue, if_pos on, if_pos left]

theorem State.leaseExpiry_eq (s : State) (t : Ticks) : exec (.leaseExpiry t) s = .next (s.lanesTick t).leasesDue.leaseEnds := rfl

/-- Old leases that have run out act. -/
def State.oldLeasesEnd (s : State) : State :=
  (s.host.oldLeases.filter fun o => o.left == 0).foldl (fun s o => s.endLease o.pitch)
    { s with host.oldLeases := s.host.oldLeases.filter fun o => o.left != 0 }

theorem State.oldLeasesEnd_spec (s : State) :
    LeaseStep { s with host.oldLeases := s.host.oldLeases.filter fun o => o.left != 0 } s.oldLeasesEnd ∧
    ∀ n, (∀ o ∈ s.host.oldLeases, o.left = 0 → s.laneOwner n ≠ some o.pitch) → s.oldLeasesEnd.ln n = s.ln n := by
  obtain ⟨step, same⟩ := LeaseStep.foldl (s.host.oldLeases.filter fun o => o.left == 0)
    (s := { s with host.oldLeases := s.host.oldLeases.filter fun o => o.left != 0 }) ⟨rfl, .inl rfl⟩
  refine ⟨step, fun n other => same n fun o ho => ?_⟩
  obtain ⟨mem, left⟩ := List.mem_filter.1 ho
  exact other o mem (by simpa using left)

theorem State.leaseEnds_if (s : State) : s.leaseEnds =
    if s.oldLeasesEnd.host.leaseOn && s.oldLeasesEnd.host.leaseLeft == 0 && !s.oldLeasesEnd.host.leaseOut then
      ({ s.oldLeasesEnd.hostStop s.oldLeasesEnd.pit.hostPitch true 2 with host.leaseOut := true }).devEventSet 0x0008
    else s.oldLeasesEnd := by
  unfold State.leaseEnds State.oldLeasesEnd State.endLease
  dsimp only

/-- The host pitch's lease runs out: the old leases that end act first, then it. -/
theorem State.leaseEnds_eq (s : State) (on : s.host.leaseOn = true) (left : s.host.leaseLeft = 0) (out : s.host.leaseOut = false) :
    s.leaseEnds = ({ s.oldLeasesEnd.hostStop s.oldLeasesEnd.pit.hostPitch true 2 with host.leaseOut := true }).devEventSet 0x0008 := by
  obtain ⟨step, -⟩ := s.oldLeasesEnd_spec
  have host : s.oldLeasesEnd.host.leaseOn = true ∧ s.oldLeasesEnd.host.leaseLeft = 0 ∧ s.oldLeasesEnd.host.leaseOut = false := by
    rw [step.rest]
    exact ⟨on, left, out⟩
  obtain ⟨on, left, out⟩ := host
  rw [s.leaseEnds_if, if_pos (by simp [on, left, out])]

/-- Settles O16: `leaseEnds` is the old leases' ends and then the host pitch's, each a stop of its pitch's lanes. -/
theorem leaseAndSessionExpireOnce : Obligations.LeaseAndSessionExpireOnce := by
  unfold Obligations.LeaseAndSessionExpireOnce
  refine ⟨fun s t on left out => ?_, fun s p x holds age => ?_⟩
  · have completes := s.leaseExpiry_eq t
    have host : (s.lanesTick t).host = s.host := by simp
    have dev : (s.lanesTick t).dev = s.dev := by simp
    have now : (s.lanesTick t).now = max s.now t := by simp
    have pit : (s.lanesTick t).pit = s.pit := by simp
    have owner (n : LaneIx) : (s.lanesTick t).laneOwner n = s.laneOwner n := by simp
    simp only [← host, ← dev, ← now, ← pit, ← owner] at on left out ⊢
    generalize s.lanesTick t = v at *
    rw [v.leasesDue_eq on left] at completes
    generalize hz : ({ v with host := { v.host with leaseLeft := 0, oldLeases := v.host.oldLeases.map OldLease.due } } : State) = z at *
    rw [z.leaseEnds_eq (by rw [← hz]; exact on) (by rw [← hz]) (by rw [← hz]; exact out)] at completes
    obtain ⟨old, others⟩ := z.oldLeasesEnd_spec
    generalize z.oldLeasesEnd = w at *
    have hostPitch : w.pit.hostPitch = v.pit.hostPitch := by rw [old.rest, ← hz]
    have owner (n : LaneIx) : w.laneOwner n = v.laneOwner n := by rw [old.laneOwner, ← hz]; rfl
    obtain ⟨-, told, -⟩ := old.endLease v.pit.hostPitch
    obtain ⟨steps, stops⟩ := w.hostStop_spec v.pit.hostPitch true 2
    rw [State.endLease] at told
    rw [hostPitch] at completes
    generalize w.hostStop v.pit.hostPitch true 2 = x at *
    refine ⟨_, completes, ?_, fun n => ⟨fun own running => ?_, fun other kept => ?_⟩⟩
    · have rest : x = { z with host := { z.host with oldLeases := x.host.oldLeases }, dev := x.dev, lane := x.lane, q := x.q, obs := x.obs } := by
        rw [steps.rest, old.rest]
      have told : (x.devEventSet 0x0008).dev = v.leaseTold := told.trans (by rw [← hz]; rfl)
      rw [← hz] at rest
      have whole := congrArg (fun y : State => { y with host.leaseOut := true, dev := (x.devEventSet 0x0008).dev }) rest
      rw [told] at whole
      refine Eq.trans ?_ whole
      rw [← told]
      rfl
    · change (x.ln n).com.state = _ ∨ (x.ln n).com.state = _
      cases runs : (w.ln n).running
      · rw [(stops n).2 (by simp [runs])]
        exact .inr (by simpa [Lane.running] using runs)
      · exact (stops n).1 ⟨(owner n).trans own, runs, .inl rfl⟩
    · change x.ln n = v.ln n
      rw [(stops n).2 fun k => other ((owner n).symm.trans k.1), others n fun o ho ended => ?_, ← hz]
      · rfl
      · rw [← hz] at ho ⊢
        obtain ⟨old, mem, rfl⟩ := List.mem_map.1 ho
        intro own
        have left := kept old mem own
        simp only [OldLease.due] at ended
        split at ended <;> omega
  · change execSessionExpiry p s = _
    unfold execSessionExpiry
    rw [holds]
    exact if_pos age

end Sys2Proof.Machine
end


section
/-! SUPPORT. When an access of the host port or a write of P0 acts, and the rows of the clock references. -/

namespace Sys2Proof.Machine

set_option Elab.async false

/-! ### Accesses and boundaries (R640) -/

/-- Once the accesses that waited have acted. -/
def State.served (s : State) (t : Ticks) : State := s.serveWaiting.lanesTick t

theorem State.accessAt_open {s : State} {t : Ticks} (x : HostAccess) (h : s.boundaryOpen (sameCycle t) = true) :
    s.accessAt t x = { s with host := { s.host with waiting := s.host.waiting ++ [x] } } := if_pos h

theorem State.accessAt_closed {s : State} {t : Ticks} (x : HostAccess) (h : s.boundaryOpen (sameCycle t) = false) :
    s.accessAt t x = (s.served t).serve x := by
  rw [State.accessAt, if_neg (by simp [h]), State.served]

theorem State.access_up {s : State} (t : Ticks) (x : HostAccess) (h : s.hostUp = true) : s.access t x = .next (s.accessAt t x) :=
  if_pos h

theorem State.p0Write_settled {s : State} (t : Ticks) (page : BitVec 4) (a : BitVec 7) (d : Word) (h : s.atSettled = true) :
    s.p0Write t page a d = .next (s.accessAt t (.ofP0 page a d)) := if_pos h

/-! ### Clock references -/

theorem State.revert_of_good (s : State) (t : Ticks) (good : s.clk.xtalOk = true) : s.revert t = { s with clk.refRing := false } :=
  if_pos good

theorem State.revert_of_failed (s : State) (t : Ticks) (failed : s.clk.xtalOk = false) :
    s.revert t = ({ s with clk.refRing := false } : State).rootFailure t := by
  unfold State.revert
  exact if_neg (by simp [failed])

/-- A reading of the recovered clock is lost. -/
def State.ringRefLost (s : State) : State := { s with clk := { s.clk with ringRefOk := false, syntonyRun := 0 } }

theorem State.syntonyLoss_eq (s : State) (t : Ticks) (why : RefLoss) : exec (.syntonyLoss t why) s =
    if why = .drift ∧ s.clk.xtalOk = false then .next (s.lanesTick t)
    else if s.clk.refRing then .next (((s.lanesTick t).ringRefLost.clkEventSet 0x0004).revert t)
    else .next (s.lanesTick t).ringRefLost := by
  have clk : (s.lanesTick t).clk = s.clk := by simp
  change execSyntonyLoss t why s = _
  unfold execSyntonyLoss
  rw [← clk]
  generalize s.lanesTick t = v
  simp only [Bool.not_eq_true']
  rfl

theorem State.xtalFail_eq (s : State) (t : Ticks) (alive : s.alive = true) : exec (.xtalFail t) s =
    .next (if s.clk.refRing then ({ s.lanesTick t with clk.xtalOk := false }).clkEventSet 0x0002
      else (({ s.lanesTick t with clk.xtalOk := false }).clkEventSet 0x0002).rootFailure t) := by
  have here : (s.lanesTick t).alive = true := by simpa using alive
  have clk : (s.lanesTick t).clk = s.clk := by simp
  change execXtalFail t s = _
  unfold execXtalFail
  rw [← clk]
  generalize s.lanesTick t = v at here ⊢
  exact if_pos here

/-- A write of CLK_CTRL by P0 acts on the clocks alone. -/
theorem State.serve_clkCtrl (s : State) (d : Word) : s.serve (.ofP0 1 0x22 d) = s.clkCtrl d := rfl

theorem State.clkCtrl_reverts {s : State} {d : Word} (ref : s.clk.refRing = true) (off : bit d 0 = false) :
    s.clkCtrl d = ({ s with clk.syntonyEn := false } : State).revert s.now := by
  simp [State.clkCtrl, ref, off]

theorem State.clkCtrl_keeps {s : State} {d : Word} (h : ¬ (s.clk.refRing = true ∧ bit d 0 = false)) :
    s.clkCtrl d = { s with clk.syntonyEn := bit d 0 } := by
  unfold State.clkCtrl
  exact if_neg (by simpa using h)

/-- Settles O13: each row once its condition holds; a reversion to a failed crystal is a root failure. -/
theorem clockReferencesSwitchAndFail : Obligations.ClockReferencesSwitchAndFail := by
  unfold Obligations.ClockReferencesSwitchAndFail
  intro event
  refine ⟨fun s settled enabled run => if_pos ⟨settled, enabled, run⟩, fun s t failed => ?_, fun s t why judged => ?_,
    fun s t d settled closed => ?_, fun s t d settled open_ => ?_, fun s t alive => ?_, fun s alive => if_pos alive⟩
  · rw [s.syntonyLoss_eq, if_pos ⟨rfl, failed⟩]
  · have row := s.syntonyLoss_eq t why
    rw [if_neg (by rintro ⟨rfl, failed⟩; simp [failed] at judged)] at row
    have clk : (s.lanesTick t).clk = s.clk := by simp
    have now : (s.lanesTick t).now = max s.now t := by simp
    simp only [← clk, ← now] at row ⊢
    generalize s.lanesTick t = v at *
    refine ⟨fun ref => ?_, fun ref => ⟨fun good => ?_, fun failed => ?_⟩⟩
    · rw [row, if_neg (by simp [ref])]
      rfl
    · rw [row, if_pos ref, State.revert_of_good (v.ringRefLost.clkEventSet 0x0004) t good]
      rfl
    · rw [row, if_pos ref, State.revert_of_failed (v.ringRefLost.clkEventSet 0x0004) t failed]
      rfl
  · have row : exec (.clkCtrlWrite t d) s = .next ((s.served t).clkCtrl d) := by
      rw [← State.serve_clkCtrl, ← State.accessAt_closed _ closed, ← State.p0Write_settled t 1 0x22 d settled]
      rfl
    rw [row]
    change _ ∧ _
    rw [← State.served]
    generalize s.served t = v
    refine ⟨fun keeps => ?_, fun ref off failed => ?_⟩
    · by_cases h : v.clk.refRing = true ∧ bit d 0 = false
      · obtain ⟨ref, off⟩ := h
        rw [State.clkCtrl_reverts ref off, State.revert_of_good _ _ (by simpa [ref, off] using keeps)]
        simp [off]
      · rw [State.clkCtrl_keeps h]
        have same : (v.clk.refRing && bit d 0) = v.clk.refRing := by
          revert h
          cases v.clk.refRing <;> simp
        rw [same]
    · rw [State.clkCtrl_reverts ref off, State.revert_of_failed { v with clk.syntonyEn := false } v.now failed]
      simp [off]
  · exact (State.p0Write_settled t 1 0x22 d settled).trans (congrArg _ (State.accessAt_open _ open_))
  · have row := s.xtalFail_eq t alive
    have clk : (s.lanesTick t).clk = s.clk := by simp
    have now : (s.lanesTick t).now = max s.now t := by simp
    simp only [← clk, ← now] at row ⊢
    generalize s.lanesTick t = v at *
    refine ⟨fun ref => ?_, fun ref => ?_⟩
    · rw [row, if_pos ref]
      rfl
    · rw [row, if_neg (by simp [ref])]
      rfl

end Sys2Proof.Machine
end


section
/-! SUPPORT. Frames of the ring port: the CRC through a change of bits, how a slot is counted, passed on and taken; and the fold, the
carrier and the addresses. -/

namespace Sys2Proof.Machine

set_option Elab.async false

variable {s : State} {slot : Fin 36} {f : Frame}

/-! ### The CRC of a frame -/

theorem frameOk_iff (f : Frame) : frameOk f = true ↔ f.crc = crc32 (frameBytes f.header f.payload.toList f.tag) := by
  simp [frameOk]

/-- A change of a good frame's bits leaves a good frame (R207). -/
theorem frameChanged_of_ok (ok : frameOk f = true) (h : BitVec 48) (p : Vector Byte 40) :
    frameChanged f h p = sealFrame h p f.tag := by
  rw [frameChanged, (frameOk_iff f).1 ok, BitVec.xor_self, BitVec.zero_xor, sealFrame]

/-- A change of a corrupt frame's bits leaves a corrupt frame (R207). -/
theorem frameOk_frameChanged (f : Frame) (h : BitVec 48) (p : Vector Byte 40) : frameOk (frameChanged f h p) = frameOk f := by
  rw [Bool.eq_iff_iff, frameOk_iff, frameOk_iff]
  simp only [frameChanged]
  generalize crc32 (frameBytes h p.toList f.tag) = new
  generalize crc32 (frameBytes f.header f.payload.toList f.tag) = old
  constructor
  · intro h
    have := congrArg (· ^^^ new ^^^ old) h
    simpa [BitVec.xor_assoc, BitVec.xor_comm] using this
  · rintro h
    rw [h, BitVec.xor_self, BitVec.zero_xor]

theorem frameTaken_of_ok (ok : frameOk f = true) : frameTaken f = sealFrame (f.header ||| 0x10000000) f.payload f.tag :=
  frameChanged_of_ok ok ..

/-! ### A slot is counted and passed on -/

theorem State.countCrc_of_ok (s : State) (p : Pair) (ok : frameOk f = true) : s.countCrc p f = s := by
  simp [State.countCrc, ok]

theorem State.countCrc_a (s : State) (f : Frame) : s.countCrc .a f =
    { s with ring.crcA := if frameOk f = true ∨ s.atSettled = false then s.ring.crcA else satInc s.ring.crcA } := by
  unfold State.countCrc
  by_cases h : frameOk f = true ∨ s.atSettled = false
  · rw [if_pos (by simpa using h), if_pos h]
  · rw [if_neg (by simpa using h), if_neg h]

theorem State.countCrc_b (s : State) (f : Frame) : s.countCrc .b f =
    { s with ring.crcB := if frameOk f = true ∨ s.atSettled = false then s.ring.crcB else satInc s.ring.crcB } := by
  unfold State.countCrc
  by_cases h : frameOk f = true ∨ s.atSettled = false
  · rw [if_pos (by simpa using h), if_pos h]
  · rw [if_neg (by simpa using h), if_neg h]

/-- The ring port of an inserted node after a slot left on pair A. -/
def RingPort.sends (r : RingPort) (ridge : Bool) (slot : Fin 36) (f : Frame) : RingPort :=
  let out : Option Sent := if ridge then none else some { slot := slot.val, frame := f }
  { r with aOut := out, bOut := if r.folded then out else r.bOut }

theorem State.passA_inserted (inserted : s.ring.inserted = true) (slot : Fin 36) (f : Frame) :
    s.passA slot f = { s with ring := s.ring.sends s.bell.ridge slot f } := if_pos inserted

theorem State.passA_outside (outside : s.ring.inserted = false) (slot : Fin 36) (f : Frame) : s.passA slot f = s :=
  if_neg (by simp [outside])

theorem State.passB_inserted (inserted : s.ring.inserted = true) (slot : Fin 36) (f : Frame) : s.passB slot f =
    { s with ring.bOut := if s.ring.folded then s.ring.bOut else some { slot := slot.val, frame := f } } := by
  unfold State.passB
  cases folded : s.ring.folded
  · rw [if_pos (by simp [inserted]), if_neg nofun]
  · rw [if_neg (by simp), if_pos rfl]

/-! ### A slot is taken -/

theorem State.takesSlots_of_addressed (h : s.addressed f = true) : s.takesSlots = true := by
  simp only [State.addressed, Bool.and_eq_true] at h
  exact h.1.1.1

theorem State.inserted_of_takesSlots (h : s.takesSlots = true) : s.ring.inserted = true := by
  simp only [State.takesSlots, Bool.and_eq_true] at h
  exact h.1.1

theorem State.inserted_of_addressed (h : s.addressed f = true) : s.ring.inserted = true :=
  State.inserted_of_takesSlots (State.takesSlots_of_addressed h)

/-- The ring port once a slot to this node has gone on and awaits its answer. -/
def State.slotTaken (s : State) (slot : Fin 36) (g : Frame) : State :=
  { s with ring := { s.ring.sends s.bell.ridge slot g with replies := s.ring.replies.filter fun r => r.slot != slot } }

/-- A good slot to this node leaves with TAKEN set, and acts. -/
theorem State.takeSlot_ok (addressed : s.addressed f = true) (ok : frameOk f = true) (act : State → State) :
    s.takeSlot slot f act = act (s.slotTaken slot (sealFrame (f.header ||| 0x10000000) f.payload f.tag)) := by
  unfold State.takeSlot
  rw [s.countCrc_of_ok .a ok]
  dsimp only
  rw [if_neg (by simp [addressed]), if_pos ok, State.passA_inserted (State.inserted_of_addressed addressed), frameTaken_of_ok ok]
  rfl

theorem State.addressed_countCrc_a (s : State) (f g : Frame) : (s.countCrc .a f).addressed g = s.addressed g := by
  rw [State.countCrc_a]
  rfl

/-- A corrupt slot to this node leaves with TAKEN set, and does not act. -/
theorem State.takeSlot_corrupt (addressed : s.addressed f = true) (corrupt : frameOk f = false) (act : State → State) :
    s.takeSlot slot f act = (s.countCrc .a f).slotTaken slot (frameTaken f) := by
  have here := (s.addressed_countCrc_a f f).trans addressed
  unfold State.takeSlot
  generalize s.countCrc .a f = r at here ⊢
  dsimp only
  rw [if_neg (by simp [here]), if_neg (by simp [corrupt]), State.passA_inserted (State.inserted_of_addressed here)]
  rfl

/-- Any other slot passes on unchanged. -/
theorem State.takeSlot_other (other : s.addressed f = false) (act : State → State) :
    s.takeSlot slot f act = (s.countCrc .a f).passA slot f := by
  have here := (s.addressed_countCrc_a f f).trans other
  unfold State.takeSlot
  generalize s.countCrc .a f = r at here ⊢
  dsimp only
  rw [if_pos (by simp [here])]

/-! ### The fold and the carrier -/

theorem State.foldTaken_eq (s : State) (f : Frame) : s.foldTaken f =
    { s with ring.unfoldAt := if f.byte 0 = 1 then some (BitVec.ofNat 32 (f.field 1 4)) else s.ring.unfoldAt } := by
  unfold State.foldTaken
  split <;> rfl

/-- Settles O10: each row once its condition holds; a FOLD frame is a slot taken. -/
theorem foldAndForwardFollowTheLink : Obligations.FoldAndForwardFollowTheLink := by
  unfold Obligations.FoldAndForwardFollowTheLink
  intro event
  refine ⟨fun s t inserted open_ silent => ?_, fun s slot f addressed type ok => ?_, fun s t folded due carrier => ?_,
    fun s t folded due silent => ?_, fun s carrier => if_pos carrier, fun s carrier => if_pos carrier, fun s settled => if_pos settled,
    fun s settled => if_pos settled, fun s settled => if_pos settled, fun s slot f inserted settled => ?_,
    fun s slot f inserted settled => ?_, fun s f inserted settled => ?_, fun s f inserted => ?_⟩
  · exact if_pos ⟨inserted, by simpa using open_, by simpa using silent⟩
  · have taken : exec (.foldFrame slot f) s = .next (s.takeSlot slot f fun s => s.foldTaken f) := if_pos type
    rw [taken, State.takeSlot_ok addressed ok, State.foldTaken_eq]
    rfl
  · exact (if_pos ⟨folded, due⟩).trans (if_pos carrier)
  · exact (if_pos ⟨folded, due⟩).trans (if_neg (by simpa using silent))
  · have row : exec (.frameForward .a (.slot slot f)) s = .next ((s.countCrc .a f).passA slot f) := rfl
    rw [row, State.countCrc_a, State.passA_inserted (by exact inserted)]
    simp [settled, RingPort.sends]
  · have row : exec (.frameForward .b (.slot slot f)) s = .next ((s.countCrc .b f).passB slot f) := rfl
    rw [row, State.countCrc_b, State.passB_inserted (by exact inserted)]
    simp [settled]
  · change Host.Outcome.next (State.passBell (if s.atSettled && !bellOk f then _ else _) f) = _
    cases ok : bellOk f <;> simp [settled, State.passBell, inserted]
  · change (if s.ring.inserted && !s.ring.folded then _ else _) = _
    cases folded : s.ring.folded
    · rw [if_pos (by simp [inserted]), if_neg nofun]
    · rw [if_neg (by simp), if_pos rfl]

end Sys2Proof.Machine
end


section
/-! SUPPORT. Addresses, insertion and bells: what each row of the ring port leaves. -/

namespace Sys2Proof.Machine

set_option Elab.async false

variable {s : State} {slot : Fin 36} {f : Frame}

/-! ### Addresses (R231 to R235) -/

theorem State.delayTaken_eq (s : State) (f : Frame) : s.delayTaken f = { s with bell := { s.bell with
    bellDelay := word (f.field 2 2), alignHeld := false, alignFail := decide (1880 < (word (f.field 2 2)).toNat)
    aligned := s.bell.aligned && decide ((word (f.field 2 2)).toNat ≤ 1880) } } := by
  have near : (!decide (1880 < (word (f.field 2 2)).toNat)) = decide ((word (f.field 2 2)).toNat ≤ 1880) := by
    by_cases h : (word (f.field 2 2)).toNat ≤ 1880 <;> simp [h]; omega
  rw [← near]
  rfl

/-- A good ROLL below hop count 64 gives the address one above it. -/
theorem State.enumRoll_takes (slot : Fin 36) (t : Ticks) (inserted : s.ring.inserted = true) (ok : frameOk f = true)
    (body : frameNobody f = false) (roll : isRoll f = true) (hop : (f.byte 1).toNat < 64) :
    exec (.enumRoll slot t f) s = .next (
      let r := { s.ring.sends s.bell.ridge slot (rollOn f (f.byte 1 + 1)) with
        addrValid := true, ringAddr := (f.byte 1 + 1).setWidth 7, ringGen := word (f.field 2 2) }
      if (f.byte 1 + 1).setWidth 7 = s.ring.ringAddr then ({ s.tick t with ring := r } : State).ringEventSet 0x0001
      else ({ s.tick t with ring := r, bell := { s.bell with alignHeld := true, aligned := false } } : State).ringEventSet 0x0003) := by
  change execEnumRoll slot t f s = _
  unfold execEnumRoll
  rw [State.countCrc_of_ok _ _ ok]
  dsimp only
  rw [if_neg (by simp [State.tick, inserted, ok, body, roll]), if_neg (by omega), State.passA_inserted (by exact inserted)]
  by_cases same : (f.byte 1 + 1).setWidth 7 = s.ring.ringAddr
  · rw [if_pos same, if_neg (by simpa [State.tick, RingPort.sends] using same)]
    rfl
  · rw [if_neg same, if_pos (by simpa [State.tick, RingPort.sends] using same)]
    rfl

theorem State.enumRoll_ends (slot : Fin 36) (t : Ticks) (inserted : s.ring.inserted = true) (ok : frameOk f = true)
    (body : frameNobody f = false) (roll : isRoll f = true) (hop : 64 ≤ (f.byte 1).toNat) :
    exec (.enumRoll slot t f) s = .next (({ s.tick t with
      ring := { s.ring.sends s.bell.ridge slot f with addrValid := false, ringAddr := 0 } } : State).ringEventSet 0x0021) := by
  change execEnumRoll slot t f s = _
  unfold execEnumRoll
  rw [State.countCrc_of_ok _ _ ok]
  dsimp only
  rw [if_neg (by simp [State.tick, inserted, ok, body, roll]), if_pos hop, State.passA_inserted (by exact inserted)]
  rfl

/-- Settles O11: a ROLL gives an address or takes it away, a SET_DELAY is a slot taken. -/
theorem setDelayWritesBellDelay : Obligations.SetDelayWritesBellDelay := by
  unfold Obligations.SetDelayWritesBellDelay
  intro leaves roll
  refine ⟨fun s slot t f inserted h hop => ?_, fun s slot t f inserted h hop => ?_, fun s units inserted => if_pos inserted,
    fun s slot f addressed ok type kind => ?_⟩
  · obtain ⟨ok, body, type, kind⟩ := h
    rw [State.enumRoll_takes slot t inserted ok body (by simp [isRoll, type, kind]) hop, rollOn, frameChanged_of_ok ok]
    rfl
  · obtain ⟨ok, body, type, kind⟩ := h
    rw [State.enumRoll_ends slot t inserted ok body (by simp [isRoll, type, kind]) hop]
    rfl
  · have taken : exec (.setDelay slot f) s = .next (s.takeSlot slot f fun s => s.delayTaken f) :=
      if_pos (by simp [isSetDelay, type, kind])
    rw [taken, State.takeSlot_ok addressed ok, State.delayTaken_eq]
    rfl

/-! ### Insertion (R220 to R225) -/

/-- The sensor supplies change trackers and WS_DENIED alone. -/
theorem State.wsTryAll_eq (s : State) :
    s.wsTryAll = { s with trk := s.wsTryAll.trk, pwr := { s.pwr with wsDenied := s.wsTryAll.pwr.wsDenied } } :=
  List.foldlRecOn _ _ (motive := fun r : State => r = { s with trk := r.trk, pwr := { s.pwr with wsDenied := r.pwr.wsDenied } }) rfl
    fun r h n _ => ((SupplyStep.refl n r).wsTry false).rest.trans (by rw [h])

theorem State.recorded_power (s : State) (c : Nat) : (s.recorded c).devEvent = s.dev.devEvent ∧
    (s.dev.power ≠ Power.market → (s.recorded c).power = s.dev.power) := by
  have record : (s.dev.recordCause c s.bell.epoch).devEvent = s.dev.devEvent ∧
      (s.dev.recordCause c s.bell.epoch).power = s.dev.power := by
    unfold Device.recordCause
    dsimp only
    repeat' split
    all_goals exact ⟨rfl, rfl⟩
  obtain ⟨event, power⟩ := record
  unfold State.recorded
  dsimp only
  split
  · exact ⟨event, fun _ => power⟩
  · exact ⟨event, fun h => by rw [power, if_neg h]⟩

/-- The device has joined, before a failed critical word is judged. -/
def State.joined (s : State) (cls : BitVec 2) : State :=
  (({ s with
      dev.power := .joined
      pwr.granted := cls
      host := { s.host with leaseOn := true, leaseOut := false, leaseLeft := s.host.leaseLen.toNat } } : State).devEventSet
    0x0001).wsTryAll.enterSeeded

theorem State.join_eq (s : State) (cls : BitVec 2) (t : Ticks) :
    s.join cls t = if (s.joined cls).fuse.critFail then (s.joined cls).declareCause 4 t none else s.joined cls := rfl

/-- What a device that has joined in class `cls` holds, from what it held before. -/
structure State.Joined (s : State) (cls : BitVec 2) (u : State) : Prop where
  ring : u.ring = s.ring
  now : u.now = s.now
  granted : u.pwr.granted = cls
  event : u.dev.devEvent = s.dev.devEvent ||| 0x0001
  power : u.dev.power = if s.pit.drbgHealthy = true ∧ s.fuse.keysDone = true then .seeded else .joined
  bell : u.bell = s.bell
  pit : u.pit = { s.pit with
    seededOnce := s.pit.seededOnce || decide (s.pit.drbgHealthy = true ∧ s.fuse.keysDone = true) }
  host : u.host = { s.host with leaseOn := true, leaseOut := false, leaseLeft := s.host.leaseLen.toNat }
  pending : u.pending = s.pending

theorem State.joined_spec (s : State) (cls : BitVec 2) : s.Joined cls (s.joined cls) ∧
    (s.joined cls).dev.closed = s.dev.closed ∧ (s.joined cls).dev.arisen = s.dev.arisen ∧ (s.joined cls).fuse = s.fuse := by
  rw [State.joined, State.enterSeeded_eq, State.wsTryAll_eq]
  refine ⟨⟨rfl, rfl, rfl, rfl, ?_, rfl, ?_, rfl, rfl⟩, rfl, rfl, rfl⟩
  · simp only [State.devEventSet, true_and]
  · simp only [State.devEventSet, true_and]

theorem State.Joined.closing {u w : State} {cls : BitVec 2} {d : Device} (h : s.Joined cls u) (k : Closing { u with dev := d } w)
    (event : d.devEvent = u.dev.devEvent) (power : d.power = u.dev.power) : s.Joined cls w where
  ring := k.ring.trans h.ring
  now := k.now.trans h.now
  granted := by rw [k.pwr]; exact h.granted
  event := by rw [k.dev]; exact event.trans h.event
  power := by rw [k.dev]; exact power.trans h.power
  bell := k.bell.trans h.bell
  pit := k.pit.trans h.pit
  host := k.host.trans h.host
  pending := k.pending.trans h.pending

/-- The device joins; a failed critical word then closes the market. -/
theorem State.join_spec (s : State) (cls : BitVec 2) (t : Ticks) : s.Joined cls (s.join cls t) ∧
    (s.dev.arisen = 0 → (s.join cls t).dev.closed = (s.dev.closed || s.fuse.critFail)) := by
  obtain ⟨joined, closed, arisen, fuse⟩ := s.joined_spec cls
  rw [State.join_eq, fuse]
  generalize s.joined cls = u at *
  cases failed : s.fuse.critFail
  · exact ⟨joined, fun _ => by simpa using closed⟩
  · rw [if_pos rfl]
    have up : u.atJoined = true ∧ u.dev.power ≠ Power.market := by
      rw [State.atJoined, joined.power]
      split <;> exact ⟨rfl, nofun⟩
    cases fresh : bit u.dev.arisen 3
    · obtain ⟨closing, -⟩ := u.declareCause_spec (c := 4) t none up.1 fresh
      obtain ⟨event, power⟩ := u.recorded_power 4
      obtain ⟨-, -, first⟩ := u.recorded_spec 4
      refine ⟨joined.closing closing event (power up.2), fun none => ?_⟩
      obtain ⟨shut, -⟩ := first (arisen.trans none)
      rw [closing.dev, Bool.or_true]
      exact shut
    · rw [State.declareCause_of_arisen t none fun _ => fresh]
      refine ⟨joined, fun none => ?_⟩
      rw [arisen, none] at fresh
      exact absurd fresh (by decide)

theorem State.flashingOpenA_eq (s : State) (t : Ticks) {g : Grant} (grant : s.ring.grant = some g) (candidate : s.candidate = true)
    (open_ : s.ring.aOpen = false) (epoch : s.bell.latest = g.epoch) : exec (.flashingOpenA t) s =
    if s.ring.beyondFold then .next (s.inserts g true t) else .next { s.tick t with ring.aOpen := true } := by
  change execFlashingOpenA t s = _
  unfold execFlashingOpenA
  rw [grant]
  exact if_pos ⟨candidate, by simpa using open_, epoch⟩

/-- Settles O9: either opening inserts the node, which then joins. -/
theorem flashingOpensAndDeviceJoins : Obligations.FlashingOpensAndDeviceJoins := by
  unfold Obligations.FlashingOpensAndDeviceJoins
  intro joined
  have inserts (s : State) (g : Grant) (folded : Bool) (t : Ticks) : joined s (s.inserts g folded t) g folded t := by
    have join : s.inserts g folded t = State.join { s.tick t with ring := { s.ring with
      aOpen := true, bOpen := true, inserted := true, folded := folded, beyondFold := false, addrValid := false, ringAddr := 0,
      insertPending := false, answered := none, grant := none } } g.cls t := rfl
    obtain ⟨h, closed⟩ := State.join_spec { s.tick t with ring := { s.ring with
      aOpen := true, bOpen := true, inserted := true, folded := folded, beyondFold := false, addrValid := false, ringAddr := 0,
      insertPending := false, answered := none, grant := none } } g.cls t
    rw [join]
    exact ⟨h.ring, by rw [h.ring]; rfl, h.now, h.granted, h.event, h.power, closed, h.bell, h.pit, h.host, h.pending⟩
  refine ⟨fun s t g grant candidate open_ epoch before => ?_, fun s t g grant candidate open_ epoch beyond => ?_,
    fun s t g grant candidate open_ => ?_, fun s t other => ?_⟩
  · rw [s.flashingOpenA_eq t grant candidate open_ epoch, if_neg (by simp [before])]
    rfl
  · exact ⟨_, (s.flashingOpenA_eq t grant candidate open_ epoch).trans (if_pos beyond), inserts s g true t⟩
  · have row : exec (.flashingOpenB t) s = .next (s.inserts g false t) := by
      change execFlashingOpenB t s = _
      unfold execFlashingOpenB
      rw [grant]
      exact if_pos ⟨candidate, open_⟩
    exact ⟨_, row, inserts s g false t⟩
  · change execFlashingOpenB t s = _
    unfold execFlashingOpenB
    split
    · exact if_neg (by simp [other])
    · rfl

end Sys2Proof.Machine
end


section
/-! SUPPORT. Bells: a frame received or begun, and what it leaves to come. -/

namespace Sys2Proof.Machine

set_option Elab.async false

variable {s : State} {f : BellFrame}

theorem bellOk_iff (f : BellFrame) : bellOk f = true ↔ f.crc = crc32 (bytesOf 6 f.header.toNat ++ bytesOf 8 f.payload.toNat) := by
  simp [bellOk, bellCrc]

theorem State.passBell_eq (s : State) (f : BellFrame) : s.passBell f = { s with ring := { s.ring with
    bellA := if s.ring.inserted then some f else s.ring.bellA
    bellB := if s.ring.inserted && s.ring.folded then some f else s.ring.bellB } } := by
  unfold State.passBell
  cases inserted : s.ring.inserted
  · rw [if_neg nofun]
    rfl
  · rw [if_pos rfl]
    rfl

/-- The answers that wait as a bell cycle opens. -/
def RingPort.cycleReplies (r : RingPort) (island : Bool) : List Reply :=
  if island then [] else (r.replies.filter fun x => !x.old).map fun x => { x with old := true }

/-- The ring port at a received bell. -/
def RingPort.hears (r : RingPort) (bellNo : Nat) (island : Bool) : RingPort :=
  { r with
    islandCycle := island, replies := r.cycleReplies island, rxA := Config.rxLevel 0 bellNo, rxB := Config.rxLevel 1 bellNo }

/-- A received bell, its island timing apart. -/
theorem State.bellReceived_eq (s : State) (e : DWord) (k : BellKind) (off : Word) : s.bellReceived e k off = { s with
    bell := { s.bell with
      bellOk := true, flyRun := 0, ridge := false, jump := s.bell.jump || s.bell.jumps e, next := some (e, k)
      bellEvent := if s.bell.jumps e then s.bell.bellEvent ||| 0x0002 else s.bell.bellEvent
      fresh := if s.bell.jumps e then s.bell.fresh.set s.now 0x0002 else s.bell.fresh }
    clk := { s.clk with
      syntonyRun := if syntonic off then min 8 (s.clk.syntonyRun + 1) else 0, ringRefOk := syntonic off, refOffset := off }
    ring := if s.atJoined then s.ring.hears s.bell.bellNo (decide (k = .island))
      else (s.ring.hears s.bell.bellNo (decide (k = .island))).candidateBell e } := by
  unfold State.bellReceived State.atJoined
  dsimp only
  generalize s.bell.jumps e = jumps
  generalize decide (4 ≤ s.dev.power.rank) = joined
  cases jumps <;> cases joined <;> rfl

theorem State.enterIsland_eq (s : State) : s.enterIsland = { s with bell := { s.bell with
    island := true, aligned := false
    bellEvent := s.bell.bellEvent ||| if !s.bell.island then 0x0004 else 0
    fresh := if !s.bell.island then s.bell.fresh.set s.now 0x0004 else s.bell.fresh } } := by
  unfold State.enterIsland
  cases was : s.bell.island
  · rfl
  · simp

theorem State.enterIsland_ridge (s : State) : s.enterIsland.bellEventSet 0x000C = { s with bell := { s.bell with
    island := true, aligned := false, bellEvent := s.bell.bellEvent ||| 0x000C
    fresh := (s.enterIsland.bellEventSet 0x000C).bell.fresh } } := by
  have told : (s.enterIsland.bellEventSet 0x000C).bell.bellEvent = s.bell.bellEvent ||| 0x000C := by
    rw [State.enterIsland_eq, State.bellEventSet]
    cases s.bell.island
    · exact BitVec.or_assoc ..
    · exact BitVec.or_assoc ..
  rw [← told, State.enterIsland_eq]
  rfl

theorem State.emitIsland_eq (s : State) : s.emitIsland =
    ({ s with bell.next := some (s.bell.epoch + 1, .own), ring := { s.ring with islandCycle := true, replies := [] } } : State).passBell
      (sealBell (s.bell.epoch + 1) true (s.ring.ringAddr.setWidth 8) s.ring.ringGen) := rfl

/-- A good head bell, at its instant. -/
theorem State.bellArrives_head (s : State) (off : Word) (settled : s.atSettled = true) (ok : bellOk f = true)
    (head : bellIsland f = false) :
    s.bellArrives f off = { (s.passBell f).bellReceived (bellEpoch f) .head off with bell.island := false } := by
  simp [State.bellArrives, settled, ok, head]

/-- A good ISLAND bell that is followed. -/
theorem State.bellArrives_island (s : State) (off : Word) (settled : s.atSettled = true) (ok : bellOk f = true)
    (isle : bellIsland f = true) (follows : s.ignoresIsland f = false) :
    s.bellArrives f off = ((s.passBell f).bellReceived (bellEpoch f) .island off).enterIsland := by
  simp [State.bellArrives, settled, ok, isle, follows]

/-- A corrupt bell. -/
theorem State.bellArrives_corrupt (s : State) (off : Word) (settled : s.atSettled = true) (corrupt : bellOk f = false) :
    s.bellArrives f off = (({ s with ring.crcA := satInc s.ring.crcA } : State).passBell f).bellLost := by
  simp [State.bellArrives, settled, corrupt]

/-- Settles O12: a bell received or begun is passed on, and stands ready for its boundary. -/
theorem bellsReceivedAwaitTheirBoundary : Obligations.BellsReceivedAwaitTheirBoundary := by
  unfold Obligations.BellsReceivedAwaitTheirBoundary
  intro passed good epochOf heard at_ island
  have unset (x : BitVec 16) : x ||| 0 = x := BitVec.or_zero
  have arrives (s : State) (t : Ticks) (f : BellFrame) (off : Word) :
      exec (.bellFrame t f off) s = .next ((at_ s t).bellArrives f off) := rfl
  refine ⟨fun s t f off settled ok head => ?_, fun s t f off settled corrupt => ?_, fun s t f off settled ok isle follows => ?_,
    fun s t inserted ridge runs next => ?_, fun s ridge next => ?_⟩
  · rw [arrives, (at_ s t).bellArrives_head off settled ((bellOk_iff f).2 ok) head, State.bellReceived_eq, State.passBell_eq]
    simp only [heard, Bool.not_false, Bool.and_true, Bool.false_and, Bool.false_eq_true, if_false, unset]
    rfl
  · rw [arrives, (at_ s t).bellArrives_corrupt off settled (by simpa [good, ← bellOk_iff] using corrupt), State.passBell_eq]
    rfl
  · have follows : (at_ s t).ignoresIsland f = false := by
      rw [State.ignoresIsland, Bool.and_eq_false_iff, decide_eq_false_iff_not, not_le]
      exact follows
    have whole : (at_ s t).bellArrives f off = heard (at_ s t) f off true := by
      rw [(at_ s t).bellArrives_island off settled ((bellOk_iff f).2 ok) isle follows, State.enterIsland_eq, State.bellReceived_eq,
        State.passBell_eq]
      simp only [heard, Bool.not_true, Bool.and_false, Bool.true_and, if_true]
      rfl
    rw [arrives, whole]
    exact ⟨(if_pos isle).trans (congrArg _ whole), rfl⟩
  · have row : exec (.ridgeTimeout t) s = .next ({ ((s.tick t).enterIsland).bellEventSet 0x000C with bell.ridge := true } : State).emitIsland :=
      if_pos ⟨inserted, by simpa using ridge, runs, next⟩
    refine ⟨((s.tick t).enterIsland.bellEventSet 0x000C).bell.fresh, row.trans ?_⟩
    rw [State.enterIsland_ridge, State.emitIsland_eq, State.passBell, if_pos (by exact inserted)]
    rfl
  · have row : exec .islandBellEmit s = .next s.emitIsland := if_pos ⟨ridge, next⟩
    rw [row, State.emitIsland_eq, State.passBell_eq]
    rfl

end Sys2Proof.Machine
end


section
/-! SUPPORT. Requests of the ring: how a submission is judged and held, what a request leaves of the port, and the answer in its slot. -/

namespace Sys2Proof.Machine

set_option Elab.async false

variable {s r u : State} {slot : Fin 36} {f : Frame} {p : Pitch}

/-! ### Submissions (R301 to R304) -/

theorem State.trace_eq (s : State) (c : Nat) (p : Pitch) (l : List Word) : s.trace c p l = { s with obs := (s.trace c p l).obs } := by
  unfold State.trace
  dsimp only
  repeat' split
  all_goals rfl

theorem State.count_eq (s : State) (c i : Nat) (w : Option Pitch) : s.count c i w = { s with obs := (s.count c i w).obs } := rfl

/-- The command that an accepted submission leaves waiting. -/
def State.submitted (s : State) (p : Pitch) (door : Door) (q : QueueIx) (d : Desc) : Cmd :=
  { pitch := p, door := door, queue := q, epoch := s.bell.epoch + BitVec.ofNat 32 (s.judge301 p q d).2, desc := d }

/-- A submission joins the accepted ones where the checks pass, and changes only what observes it besides. -/
theorem State.submit_eq (s : State) (p : Pitch) (door : Door) (q : QueueIx) (d : Desc) : ∃ o : Observe,
    s.submit p door q d = ({ s with
        q := if (s.judge301 p q d).1 = stOk then (s.accept (s.submitted p door q d)).q else s.q
        obs := o },
      { status := (s.judge301 p q d).1, epoch := if (s.judge301 p q d).1 = stOk
          then s.bell.epoch + BitVec.ofNat 32 (s.judge301 p q d).2 else 0 }) := by
  unfold State.submit State.submitted
  generalize s.judge301 p q d = y
  obtain ⟨st, ahead⟩ := y
  dsimp only
  split
  · rw [State.traceSubmit, State.trace_eq, State.count_eq]
    generalize State.obs (State.trace ..) = o
    exact ⟨o, rfl⟩
  · rw [State.traceSubmit, State.trace_eq, State.count_eq]
    generalize State.obs (State.trace ..) = o
    exact ⟨o, rfl⟩

/-! ### The ring frontage (R240) -/

/-- The state after a request of pitch `p` was counted. -/
def State.requestCounted (s : State) (p : Pitch) : State := (s.countRequest p).1

theorem State.countRequest_eq (s : State) (p : Pitch) :
    s.countRequest p = (s.requestCounted p, decide (s.ring.counted[p] + 1 ≤ s.pit.front.ring[p])) := rfl

theorem State.requestCounted_eq (s : State) (p : Pitch) : s.requestCounted p = { s with
    ring := { s.ring with
      counted := vset s.ring.counted p (s.ring.counted[p] + 1)
      frontRefused := if decide (s.ring.counted[p] + 1 ≤ s.pit.front.ring[p]) then s.ring.frontRefused
        else vmod s.ring.frontRefused p satInc }
    obs := (s.count 0x33 0 (some p)).obs } := by
  unfold State.requestCounted State.countRequest
  rw [State.count_eq]

theorem State.requestCounted_within (s : State) (h : s.ring.counted[p] < s.pit.front.ring[p]) : s.requestCounted p = { s with
    ring.counted := vset s.ring.counted p (s.ring.counted[p] + 1), obs := (s.count 0x33 0 (some p)).obs } := by
  rw [State.requestCounted_eq, if_pos (decide_eq_true (Nat.succ_le_of_lt h))]

theorem State.requestCounted_beyond (s : State) (h : s.pit.front.ring[p] ≤ s.ring.counted[p]) : s.requestCounted p = { s with
    ring := { s.ring with
      counted := vset s.ring.counted p (s.ring.counted[p] + 1), frontRefused := vmod s.ring.frontRefused p satInc }
    obs := (s.count 0x33 0 (some p)).obs } := by
  rw [State.requestCounted_eq, if_neg (by simpa using h)]

/-! ### What a request leaves of the port -/

/-- What pair A and the slots that await answers show. -/
structure PortKept (s u : State) : Prop where
  aOut : u.ring.aOut = s.ring.aOut
  bOut : u.ring.bOut = s.ring.bOut
  crcA : u.ring.crcA = s.ring.crcA
  replies : u.ring.replies = s.ring.replies

theorem PortKept.of_ring (h : u.ring = s.ring) : PortKept s u := ⟨by rw [h], by rw [h], by rw [h], by rw [h]⟩

theorem PortKept.trans (h : PortKept s r) (k : PortKept r u) : PortKept s u :=
  ⟨k.aOut.trans h.aOut, k.bOut.trans h.bOut, k.crcA.trans h.crcA, k.replies.trans h.replies⟩

theorem State.submit_ring (s : State) (p : Pitch) (door : Door) (q : QueueIx) (d : Desc) : (s.submit p door q d).1.ring = s.ring := by
  obtain ⟨o, e⟩ := s.submit_eq p door q d
  rw [e]

theorem State.dataSubmit_ring (s : State) (p : Pitch) (q : Byte) (d : Desc) : (s.dataSubmit p q d).1.ring = s.ring := by
  unfold State.dataSubmit
  split
  · exact s.submit_ring ..
  · rfl

theorem State.dataCollect_ring (s : State) (p : Pitch) (q h : Byte) : (s.dataCollect p q h).1.ring = s.ring := by
  unfold State.dataCollect
  dsimp only
  repeat' split
  all_goals rfl

theorem State.dataRequest_ring (s : State) (p : Pitch) (len : Nat) (bs : List Byte) : (s.dataRequest p len bs).1.ring = s.ring := by
  unfold State.dataRequest
  dsimp only
  repeat' split
  · exact s.dataSubmit_ring ..
  · exact s.dataCollect_ring ..
  · rfl

theorem State.requestCounted_port (s : State) (p : Pitch) : PortKept s (s.requestCounted p) := by
  rw [State.requestCounted_eq]
  exact ⟨rfl, rfl, rfl, rfl⟩

/-- From `s` to `u` an answer was left for the slot, and pair A stays. -/
def Answers (slot : Fin 36) (s u : State) : Prop := ∃ r g, PortKept s r ∧ u = r.reply slot g

theorem Answers.of_port (k : PortKept s r) (g : Frame) : Answers slot s (r.reply slot g) := ⟨r, g, k, rfl⟩

theorem State.answerNobody_answers (s : State) (slot : Fin 36) (f : Frame) : Answers slot s (s.answerNobody slot f) :=
  ⟨{ s with ring.authFail := vmod s.ring.authFail f.pitch satInc }, _, ⟨rfl, rfl, rfl, rfl⟩, rfl⟩

theorem State.sealedRequest_answers (s : State) (slot : Fin 36) (f : Frame) : Answers slot s (s.sealedRequest slot f) := by
  unfold State.sealedRequest
  dsimp only
  rw [State.countRequest_eq]
  have counted := s.requestCounted_port f.pitch
  generalize s.requestCounted f.pitch = r at counted ⊢
  cases s.sessionOf f.pitch with
  | none => exact s.answerNobody_answers slot f
  | some x =>
    dsimp only
    split
    · exact s.answerNobody_answers slot f
    · cases decide (s.ring.counted[f.pitch] + 1 ≤ s.pit.front.ring[f.pitch])
      · exact .of_port counted _
      · dsimp only
        split
        · exact .of_port (counted.trans (.of_ring (r.dataRequest_ring ..))) _
        · exact .of_port counted _

theorem State.draw_ring (s : State) : s.draw.1.ring = s.ring := by
  unfold State.draw
  split <;> rfl

theorem State.sessionRequest_answers (s : State) (slot : Fin 36) (f : Frame) : Answers slot s (s.sessionRequest slot f) := by
  unfold State.sessionRequest
  dsimp only
  rw [State.countRequest_eq]
  have counted := s.requestCounted_port f.pitch
  generalize s.requestCounted f.pitch = r at counted ⊢
  split
  · exact .of_port ⟨rfl, rfl, rfl, rfl⟩ _
  · cases s.openKeyOf f.pitch with
    | none => exact s.answerNobody_answers slot f
    | some k =>
      dsimp only
      split
      · exact s.answerNobody_answers slot f
      · cases decide (s.ring.counted[f.pitch] + 1 ≤ s.pit.front.ring[f.pitch])
        · exact .of_port counted _
        · dsimp only
          split
          · exact .of_port counted _
          · have drawn : PortKept r r.draw.1 := .of_ring r.draw_ring
            refine ⟨_, _, ?_, rfl⟩
            exact counted.trans ⟨drawn.aOut, drawn.bOut, drawn.crcA, drawn.replies⟩

theorem State.foldTaken_port (s : State) (f : Frame) : PortKept s (s.foldTaken f) := by
  rw [State.foldTaken_eq]
  exact ⟨rfl, rfl, rfl, rfl⟩

/-- A request of type 5 or above leaves an answer; any leaves pair A as it is. -/
theorem State.request_answers (s : State) (slot : Fin 36) (f : Frame) (h : 5 ≤ (Frame.type f).toNat) :
    Answers slot s (s.request slot f) := by
  unfold State.request
  split
  · omega
  · omega
  · exact .of_port ⟨rfl, rfl, rfl, rfl⟩ _
  · exact s.sessionRequest_answers slot f
  · exact s.sealedRequest_answers slot f

theorem State.request_pairs (s : State) (slot : Fin 36) (f : Frame) : (s.request slot f).ring.aOut = s.ring.aOut ∧
    (s.request slot f).ring.bOut = s.ring.bOut ∧ (s.request slot f).ring.crcA = s.ring.crcA := by
  have of (u : State) (h : Answers slot s u) : u.ring.aOut = s.ring.aOut ∧ u.ring.bOut = s.ring.bOut ∧ u.ring.crcA = s.ring.crcA := by
    obtain ⟨r, g, k, rfl⟩ := h
    exact ⟨k.aOut, k.bOut, k.crcA⟩
  unfold State.request
  split
  · exact ⟨rfl, rfl, rfl⟩
  · exact ⟨(s.foldTaken_port f).aOut, (s.foldTaken_port f).bOut, (s.foldTaken_port f).crcA⟩
  · exact ⟨rfl, rfl, rfl⟩
  · exact of _ (s.sessionRequest_answers slot f)
  · exact of _ (s.sealedRequest_answers slot f)

/-! ### Slots on pair B -/

theorem State.slotResponseB_answered (s : State) (slot : Fin 36) (f : Frame) {r : Reply}
    (waits : (s.ring.replies.find? fun r => r.slot == slot) = some r) : exec (.slotResponseB slot f) s =
    .next { s.countCrc .b f with ring := { (s.countCrc .b f).ring with
      replies := s.ring.replies.filter fun r => r.slot != slot, bOut := some { slot := slot.val, frame := r.frame } } } := by
  change execSlotResponseB slot f s = _
  unfold execSlotResponseB
  rw [State.countCrc_b]
  dsimp only
  rw [waits]

theorem State.slotResponseB_none (s : State) (slot : Fin 36) (f : Frame) (none : (s.ring.replies.find? fun r => r.slot == slot) = none) :
    exec (.slotResponseB slot f) s = .next ((s.countCrc .b f).passB slot f) := by
  change execSlotResponseB slot f s = _
  unfold execSlotResponseB
  rw [State.countCrc_b]
  dsimp only
  rw [none]

theorem State.slotRequestA_eq (s : State) (slot : Fin 36) (f : Frame) :
    exec (.slotRequestA slot f) s = .next (s.takeSlot slot f fun s => s.request slot f) := rfl

theorem State.slotRequestA_as (s : State) {act : State → State} (h : ∀ r : State, r.request slot f = act r) :
    exec (.slotRequestA slot f) s = .next (s.takeSlot slot f act) := by
  rw [State.slotRequestA_eq, funext h]

section
variable (s : State) (slot : Fin 36) (f : Frame)

theorem State.request_delay (h : (Frame.type f).toNat = 2) : s.request slot f = s.delayTaken f := by
  simp only [State.request, h]

theorem State.request_fold (h : (Frame.type f).toNat = 4) : s.request slot f = s.foldTaken f := by
  simp only [State.request, h]

theorem State.request_ident (h : (Frame.type f).toNat = 5) :
    s.request slot f = s.answerPlain slot f (s.identData (Frame.pitch f)) := by
  simp only [State.request, h]

theorem State.request_session (h : (Frame.type f).toNat = 6) : s.request slot f = s.sessionRequest slot f := by
  simp only [State.request, h]

theorem State.request_data (h : (Frame.type f).toNat = 7) : s.request slot f = s.sealedRequest slot f := by
  simp only [State.request, h]

theorem State.request_traceGrant (h : (Frame.type f).toNat = 8) : s.request slot f = s.sealedRequest slot f := by
  simp only [State.request, h]

end

/-- Settles O17: a slot is another's, corrupt, or taken; a request answers in its slot. -/
theorem requestSlotsAreTakenAndAnswered : Obligations.RequestSlotsAreTakenAndAnswered := by
  unfold Obligations.RequestSlotsAreTakenAndAnswered
  intro counted passed others
  have filtered (s : State) (slot : Fin 36) : (others s slot).filter (fun r => r.slot != slot) = others s slot := by
    simp only [others, List.filter_filter, Bool.and_self]
  refine ⟨fun s slot f inserted other => ?_, fun s slot f addressed corrupt => ?_, fun s slot f addressed ok => ?_,
    fun s slot f r waits => ?_, fun s slot f inserted none => ?_, fun s slot f => ⟨fun h => ?_, fun h => ?_, fun h => ?_, fun h k => ?_,
      fun h => ?_⟩⟩
  · rw [State.slotRequestA_eq, State.takeSlot_other other, State.countCrc_a, State.passA_inserted (by exact inserted)]
    rfl
  · refine ⟨(frameTaken f).crc, (frameOk_frameChanged ..).trans corrupt, ?_⟩
    rw [State.slotRequestA_eq, State.takeSlot_corrupt addressed corrupt, State.countCrc_a]
    rfl
  · rw [State.slotRequestA_eq, State.takeSlot_ok addressed ok]
    generalize hv : s.slotTaken slot (sealFrame (f.header ||| 0x10000000) f.payload f.tag) = v
    have crc : counted s f s.ring.crcA = s.ring.crcA := if_pos (.inl ok)
    have taken : v = { s with ring := { passed s slot f (sealFrame (f.header ||| 0x10000000) f.payload f.tag) with
        replies := others s slot } } := by
      rw [← hv]
      simp only [passed, crc]
      rfl
    obtain ⟨a, b, c⟩ := v.request_pairs slot f
    refine ⟨_, rfl, ?_, ?_, ?_, fun type => ?_, fun type => ?_⟩
    · rw [a, taken]
    · rw [b, taken]
    · rw [c, taken]
      exact crc
    · obtain ⟨r, g, k, e⟩ := v.request_answers slot f type
      refine ⟨g, ?_⟩
      rw [e]
      change r.ring.replies.filter _ ++ _ = _
      rw [k.replies, taken]
      exact congrArg (· ++ _) (filtered s slot)
    · rw [State.request_ident _ _ _ type, taken, State.answerPlain, State.reply]
      simp only [filtered s slot]
      rfl
  · rw [s.slotResponseB_answered slot f waits, State.countCrc_b]
  · rw [s.slotResponseB_none slot f none, State.countCrc_b, State.passB_inserted (by exact inserted)]
  · exact (if_pos h).trans (s.slotRequestA_as fun r => r.request_ident slot f h).symm
  · exact (if_pos h).trans (s.slotRequestA_as fun r => r.request_session slot f h).symm
  · exact (if_pos h).trans (s.slotRequestA_as fun r => r.request_traceGrant slot f h).symm
  · exact (if_pos (by simp [isSetDelay, h, k])).trans (s.slotRequestA_as fun r => r.request_delay slot f h).symm
  · exact (if_pos h).trans (s.slotRequestA_as fun r => r.request_fold slot f h).symm

end Sys2Proof.Machine
end


section
/-! SUPPORT. DATA requests, the doorbell and the pops: what is held, what is answered. -/

namespace Sys2Proof.Machine

set_option Elab.async false

variable {s : State} {slot : Fin 36} {f : Frame} {p : Pitch}

/-! ### The rows of DATA requests -/

theorem State.dataRow_closed (closed : s.takesSlots = false) (act : State → State) : s.dataRow p act = s := by
  simp [State.dataRow, closed]

theorem State.dataRow_nobody (takes : s.takesSlots = true) (none : s.sessionOf p = none) (act : State → State) :
    s.dataRow p act = { s with ring.authFail := vmod s.ring.authFail p satInc } := by
  simp [State.dataRow, takes, none]

theorem State.dataRow_session (takes : s.takesSlots = true) (session : (s.sessionOf p).isSome = true) (act : State → State) :
    s.dataRow p act = if s.ring.counted[p] < s.pit.front.ring[p] then act (s.requestCounted p) else s.requestCounted p := by
  unfold State.dataRow
  rw [State.countRequest_eq, if_neg (by simp [takes]), if_neg (by simpa [Option.isSome_iff_ne_none] using session)]
  by_cases h : s.ring.counted[p] < s.pit.front.ring[p]
  · rw [if_pos h, decide_eq_true (Nat.succ_le_of_lt h)]
  · rw [if_neg h, decide_eq_false (by omega)]

theorem State.dataSubmit_of_queue (s : State) (p : Pitch) (q : QueueIx) (d : Desc) :
    (s.dataSubmit p (BitVec.ofNat 8 q.val) d).1 = (s.submit p .ring q d).1 := by
  have small : (BitVec.ofNat 8 q.val).toNat = q.val := by simp; omega
  unfold State.dataSubmit
  simp only [small, q.isLt, dite_true]

theorem State.dataCollect_of_queue (s : State) (p : Pitch) (q : QueueIx) (head : Byte) (own : s.ownsQueue p q = true) :
    s.dataCollect p (BitVec.ofNat 8 q.val) head =
      ({ s with q.cq := vset s.q.cq q { s.q.cq[q] with
          pops := popsFor s.q.cq[q].head head s.q.cq[q].entries.length s.q.cq[q].pops } },
        collectData (BitVec.ofNat 8 q.val) s.q.cq[q].head s.q.cq[q].entries) := by
  have small : (BitVec.ofNat 8 q.val).toNat = q.val := by simp; omega
  unfold State.dataCollect
  simp only [small, q.isLt, dite_true, own, if_true]

/-! ### The doorbell and the pops -/

/-- The descriptor staged at the host port. -/
def State.staged (s : State) : Desc :=
  let x := s.host.desc
  ⟨x[0], x[1], x[2], x[3], x[4], x[5], x[6], x[7]⟩

/-- The queue that a doorbell names. -/
def doorbellQueue (d : Word) : QueueIx := ⟨bits d 0 6, by unfold bits; omega⟩

/-- The verdict of a submission recorded at the host port, with the DATA that answers it. -/
def verdictRecorded (x : State × Verdict) : State × Word :=
  ({ x.1 with host := { x.1.host with
    subResult := x.2.status, subEpoch := if x.2.status = stOk then lo16 x.2.epoch else x.1.host.subEpoch } }, word x.2.status.toNat)

theorem State.doorbell_eq (s : State) (d : Word) :
    s.doorbell d = verdictRecorded (s.submit s.pit.hostPitch .host (doorbellQueue d) s.staged) := rfl

/-- The access of a register goes out with the response before it. -/
theorem State.serve_register (s : State) (page : BitVec 4) (a : BitVec 7) (d : Word) : s.serve (.register page a d) =
    ((({ s with host.sdo := some s.host.response } : State).hostWrite page.toNat a.toNat d).1.answer a.toNat
      (({ s with host.sdo := some s.host.response } : State).hostWrite page.toNat a.toNat d).2) := rfl

/-- A doorbell served: a submission of the staged descriptor, its verdict recorded and answered. -/
theorem State.serve_doorbell (s : State) (d : Word) :
    let y := s.judge301 s.pit.hostPitch (doorbellQueue d) s.staged
    ∃ o : Observe, s.serve (.register 4 0x20 d) = { s with
      q := if y.1 = stOk then (s.accept (s.submitted s.pit.hostPitch .host (doorbellQueue d) s.staged)).q else s.q
      obs := o
      host := { s.host with
        sdo := some s.host.response
        subResult := y.1
        subEpoch := if y.1 = stOk then lo16 (s.bell.epoch + BitVec.ofNat 32 y.2) else s.host.subEpoch
        response := respond false 0x20 (word y.1.toNat) } } := by
  intro y
  obtain ⟨o, e⟩ := ({ s with host.sdo := some s.host.response } : State).submit_eq s.pit.hostPitch .host (doorbellQueue d) s.staged
  refine ⟨o, ?_⟩
  have rung : ({ s with host.sdo := some s.host.response } : State).hostWrite 4 0x20 d =
      ({ s with host.sdo := some s.host.response } : State).doorbell d := rfl
  have queue : s.staged = ({ s with host.sdo := some s.host.response } : State).staged := rfl
  rw [State.serve_register]
  change (State.hostWrite _ 4 0x20 d).1.answer 0x20 (State.hostWrite _ 4 0x20 d).2 = _
  rw [rung, State.doorbell_eq]
  change (verdictRecorded (State.submit _ s.pit.hostPitch .host (doorbellQueue d) s.staged)).1.answer 0x20
    (verdictRecorded (State.submit _ s.pit.hostPitch .host (doorbellQueue d) s.staged)).2 = _
  rw [e]
  have late (x z : DWord) (o : Word) : (if y.1 = stOk then lo16 (if y.1 = stOk then x else z) else o) = if y.1 = stOk then lo16 x else o := by
    split <;> rfl
  rw [← late _ 0]
  rfl

/-! ### Settlements -/

/-- Settles O18: a DATA row and a doorbell hold what `submit` leaves held. -/
theorem refusedSubmissionsHoldNothing : Obligations.RefusedSubmissionsHoldNothing := by
  unfold Obligations.RefusedSubmissionsHoldNothing
  intro staged named waits
  have holds (s u : State) (p : Pitch) (door : Door) (q : QueueIx) (d : Desc)
      (h : u.q = if (s.judge301 p q d).1 = stOk then (s.accept (s.submitted p door q d)).q else s.q) : waits s u p door q d := by
    simp only [waits]
    rw [h]
    split
    · exact ⟨rfl, rfl, rfl, rfl⟩
    · exact ⟨rfl, rfl, rfl, rfl⟩
  have row (s : State) (p : Pitch) (q : Byte) (d : Desc) :
      exec (.dataSubmit p q d) s = .next (s.dataRow p fun s => (s.dataSubmit p q d).1) := rfl
  refine ⟨fun s p q d takes session within => ?_, fun s p q d takes session beyond => ?_, fun s p q d takes none => ?_,
    fun s p q head d closed => ⟨?_, ?_⟩, fun s t d up closed => ?_⟩
  · rw [row, State.dataRow_session takes session, if_pos within, State.dataSubmit_of_queue, State.requestCounted_within _ within]
    generalize (s.count 0x33 0 (some p)).obs = x
    obtain ⟨o, e⟩ := State.submit_eq ({ s with
      ring.counted := vset s.ring.counted p (s.ring.counted[p] + 1), obs := x } : State) p .ring q d
    rw [e]
    exact ⟨_, rfl, holds s _ p .ring q d rfl, rfl, rfl⟩
  · rw [row, State.dataRow_session takes session, if_neg (by omega), State.requestCounted_beyond _ beyond]
    generalize (s.count 0x33 0 (some p)).obs = x
    exact ⟨_, rfl, rfl, rfl⟩
  · rw [row, State.dataRow_nobody takes none]
  · rw [row, State.dataRow_closed closed]
  · exact congrArg Host.Outcome.next (State.dataRow_closed closed _)
  · have completes : exec (.doorbell t d) s = .next ((s.served t).serve (.register 4 0x20 d)) := by
      rw [← State.accessAt_closed _ closed, ← State.access_up t _ up]
      rfl
    intro v
    have same : s.served t = v := rfl
    clear_value v
    rw [completes, same]
    obtain ⟨o, e⟩ := v.serve_doorbell d
    rw [e]
    exact ⟨_, rfl, holds v _ v.pit.hostPitch .host (doorbellQueue d) v.staged rfl⟩

theorem State.serve_cqPop (s : State) (d : Word) : s.serve (.register 4 0x10 d) =
    let q := s.q.sel[s.pit.hostPitch].queue
    let mine := s.ownsQueue s.pit.hostPitch q
    { s with
      q.cq := if mine && bit d 0 then vmod s.q.cq q Ring.pop else s.q.cq
      host := { s.host with
        sdo := some s.host.response, noObject := s.host.noObject || !mine, response := respond false 0x10 0 } } := by
  have popped : s.serve (.register 4 0x10 d) =
      (({ s with host.sdo := some s.host.response } : State).cqPop d).answer 0x10 0 := rfl
  rw [popped]
  unfold State.cqPop
  dsimp only
  change (if s.ownsQueue s.pit.hostPitch _ = true then _ else _ : State).answer 0x10 0 = _
  cases own : s.ownsQueue s.pit.hostPitch s.q.sel[s.pit.hostPitch].queue
  · rw [if_neg nofun]
    simp [State.noObject, State.answer]
  · rw [if_pos rfl]
    cases pop : bit d 0
    · simp [State.answer]
    · simp [State.answer]

theorem State.serve_evqPop (s : State) (d : Word) : s.serve (.register 4 0x38 d) = { s with
    q.evq := if bit d 0 then vmod s.q.evq s.pit.hostPitch EventFifo.pop else s.q.evq
    host := { s.host with sdo := some s.host.response, response := respond false 0x38 0 } } := by
  have popped : s.serve (.register 4 0x38 d) =
      (({ s with host.sdo := some s.host.response } : State).evqPop d).answer 0x38 0 := rfl
  rw [popped, State.evqPop]
  cases bit d 0
  · rfl
  · rfl

/-- Settles O19: the doorbell and the pops as served, and COLLECT as a DATA row. -/
theorem doorbellAndCollectionAnswer : Obligations.DoorbellAndCollectionAnswer := by
  unfold Obligations.DoorbellAndCollectionAnswer
  intro staged chosen named
  have collects (s : State) (p : Pitch) (q head : Byte) :
      exec (.dataCollect p q head) s = .next (s.dataRow p fun s => (s.dataCollect p q head).1) := rfl
  have served (s : State) (t : Ticks) (a : BitVec 7) (d : Word) (up : s.hostUp = true) (closed : s.boundaryOpen (sameCycle t) = false) :
      s.access t (.register 4 a d) = .next ((s.served t).serve (.register 4 a d)) := by
    rw [State.access_up t _ up, State.accessAt_closed _ closed]
  refine ⟨fun s t d up closed => ?_, fun s p q head takes session within own => ?_, fun s p head takes session within => ?_,
    fun s t d up closed => ?_, fun s t d up closed => ?_⟩
  · have completes : exec (.doorbell t d) s = _ := served s t 0x20 d up closed
    intro v
    have same : s.served t = v := rfl
    clear_value v
    rw [completes, same]
    obtain ⟨o, e⟩ := v.serve_doorbell d
    rw [e]
    exact ⟨_, rfl, rfl⟩
  · rw [collects, State.dataRow_session takes session, if_pos within, State.requestCounted_within _ within]
    generalize (s.count 0x33 0 (some p)).obs = x
    rw [State.dataCollect_of_queue _ p q head (by exact own)]
    exact ⟨_, rfl, rfl, rfl⟩
  · rw [collects, State.dataRow_session takes session, if_pos within, State.requestCounted_within _ within]
    generalize (s.count 0x33 0 (some p)).obs = x
    exact ⟨_, rfl, rfl, rfl⟩
  · have completes : exec (.cqPop t d) s = _ := served s t 0x10 d up closed
    rw [completes, State.serve_cqPop, State.served]
  · have completes : exec (.evqPop t d) s = _ := served s t 0x38 d up closed
    rw [completes, State.serve_evqPop, State.served]

end Sys2Proof.Machine
end


section
/-! SUPPORT. SESSION, DATA and TRACE-GRANT requests that pass their tag: what each draws, asks for and answers. -/

namespace Sys2Proof.Machine

set_option Elab.async false

variable {s : State} {slot : Fin 36} {f : Frame} {p : Pitch}

/-- The session key that a SESSION request prepares. -/
def State.sessionKeyFor (s : State) (f : Frame) (k : Fin 8) (key : BitVec 256) (nonce : BitVec 128) : BitVec 256 :=
  sessionKey key s.serial (Frame.pitch f).val k.val s.bell.epoch ((f.payload.toList.drop 1).take 16) (bytesOf 16 nonce.toNat)

/-- A SESSION request that passes its checks draws its nonce, prepares the key and leaves its answer. -/
theorem State.sessionRequest_passes {k : Fin 8} {key ko : BitVec 256} {d : Drbg} (seeded : s.atSeeded = true)
    (open_ : s.openKeyOf (Frame.pitch f) = some (k, key, ko)) (drbg : s.pit.drbg = some d)
    (tag : f.tag = sessionTag ko s.bell.epoch slot false f.header f.payload.toList)
    (within : s.ring.counted[Frame.pitch f] < s.pit.front.ring[Frame.pitch f]) (len : Frame.len f = 18)
    (op : f.payload.toList.getD 0 0 = 0x50) (zero : f.payload.toList.getD 17 0 = 0) :
    ∃ r g, s.sessionRequest slot f = State.reply r slot g ∧ r = { s.requestCounted (Frame.pitch f) with
      pit := { s.pit with
        drbg := some d.generate.1
        sessionNext := vset s.pit.sessionNext (Frame.pitch f) (some (s.sessionKeyFor f k key d.generate.2)) } } := by
  have fits : decide (s.ring.counted[Frame.pitch f] + 1 ≤ s.pit.front.ring[Frame.pitch f]) = true :=
    decide_eq_true (Nat.succ_le_of_lt within)
  have draw : (s.requestCounted (Frame.pitch f)).draw =
      ({ s.requestCounted (Frame.pitch f) with pit := { s.pit with drbg := some d.generate.1 } }, d.generate.2) := by
    rw [State.requestCounted_eq, State.draw]
    dsimp only
    rw [drbg]
  unfold State.sessionRequest
  dsimp only
  rw [if_neg (by simp [seeded]), open_]
  dsimp only
  rw [if_neg (by simp [tag]), State.countRequest_eq, fits]
  dsimp only
  rw [if_neg (by rw [len, op, zero]; decide), draw]
  refine ⟨_, _, rfl, ?_⟩
  rw [State.requestCounted_eq]
  rfl

/-- A DATA or TRACE-GRANT request of a session that passes its tag within the frontage. -/
theorem State.sealedRequest_passes {x : Session} (session : s.sessionOf (Frame.pitch f) = some x)
    (tag : f.tag = gcmFrameTag x.key (ringIv s.bell.epoch slot false (Frame.seq f)) f.header f.payload.toList)
    (within : s.ring.counted[Frame.pitch f] < s.pit.front.ring[Frame.pitch f]) :
    s.sealedRequest slot f =
      let bs := gcmCrypt (keyBytes x.key) (ringIv s.bell.epoch slot false (Frame.seq f)) f.payload.toList
      let r := s.requestCounted (Frame.pitch f)
      if (Frame.type f).toNat = 7 then
        (r.dataRequest (Frame.pitch f) (Frame.len f) bs).1.answerSealed slot f x.key
          (r.dataRequest (Frame.pitch f) (Frame.len f) bs).2
      else r.answerSealed slot f x.key (r.traceData (Frame.pitch f) (Frame.len f) bs) := by
  have fits : decide (s.ring.counted[Frame.pitch f] + 1 ≤ s.pit.front.ring[Frame.pitch f]) = true :=
    decide_eq_true (Nat.succ_le_of_lt within)
  unfold State.sealedRequest
  dsimp only
  rw [session]
  dsimp only
  rw [if_neg (by simp [tag]), State.countRequest_eq, fits]

/-- The verdict of a submission depends on neither the ring port nor the observation. -/
theorem State.dataSubmit_verdict (s : State) (r : RingPort) (o : Observe) (p : Pitch) (q : Byte) (d : Desc) :
    (State.dataSubmit { s with ring := r, obs := o } p q d).2 = (s.dataSubmit p q d).2 := by
  unfold State.dataSubmit
  split
  · rename_i h
    obtain ⟨_, e⟩ := s.submit_eq p .ring ⟨q.toNat, h⟩ d
    obtain ⟨_, e'⟩ := State.submit_eq { s with ring := r, obs := o } p .ring ⟨q.toNat, h⟩ d
    rw [e, e']
    rfl
  · rfl

theorem State.dataCollect_answer (s : State) (r : RingPort) (o : Observe) (p : Pitch) (q h : Byte) :
    (State.dataCollect { s with ring := r, obs := o } p q h).2 = (s.dataCollect p q h).2 := by
  have own (q : QueueIx) : State.ownsQueue { s with ring := r, obs := o } p q = s.ownsQueue p q := rfl
  unfold State.dataCollect
  simp only [own]
  repeat' split
  all_goals rfl

/-- A slot to this node that is taken, its frame sent on with TAKEN set. -/
def State.slotAwaits (s : State) (slot : Fin 36) (f : Frame) : State :=
  s.slotTaken slot (sealFrame (f.header ||| 0x10000000) f.payload f.tag)

theorem State.slotRequestA_ok (s : State) (addressed : s.addressed f = true) (ok : frameOk f = true) :
    exec (.slotRequestA slot f) s = .next ((s.slotAwaits slot f).request slot f) := by
  rw [State.slotRequestA_eq, State.takeSlot_ok addressed ok, State.slotAwaits]

theorem State.dataRequest_submit (s : State) (p : Pitch) {len : Nat} {bs : List Byte} (kind : bs.getD 0 0 = 1) (h : len = 18) :
    s.dataRequest p len bs = s.dataSubmit p (bs.getD 1 0) (descOf ((List.range 8).map fun k => wordAt bs (2 + 2 * k))) :=
  if_pos ⟨kind, h⟩

theorem State.dataRequest_collect (s : State) (p : Pitch) {len : Nat} {bs : List Byte} (kind : bs.getD 0 0 = 2) (h : len = 3) :
    s.dataRequest p len bs = s.dataCollect p (bs.getD 1 0) (bs.getD 2 0) := by
  unfold State.dataRequest
  dsimp only
  rw [if_neg (by rw [kind, h]; decide), if_pos ⟨kind, h⟩]

theorem State.traceData_requestCounted (s : State) (p q : Pitch) (len : Nat) (bs : List Byte) :
    (s.requestCounted q).traceData p len bs = s.traceData p len bs := by
  have obs : (s.count 0x33 0 (some q)).obs = { s.obs with tally := (s.count 0x33 0 (some q)).obs.tally } := rfl
  rw [State.requestCounted_eq, obs]
  generalize (s.count 0x33 0 (some q)).obs.tally = x
  rfl

/-- Settles O20: a SESSION frame is a slot taken that passes its checks, a DATA frame the row that it carries. -/
theorem sessionAndTraceGrantAnswered : Obligations.SessionAndTraceGrantAnswered := by
  unfold Obligations.SessionAndTraceGrantAnswered
  intro taken sealed plain
  have filtered (s : State) (slot : Fin 36) : (s.ring.replies.filter fun r => r.slot != slot).filter (fun r => r.slot != slot) =
      s.ring.replies.filter fun r => r.slot != slot := by
    simp only [List.filter_filter, Bool.and_self]
  have rows (s : State) (slot : Fin 36) (f : Frame) (x : Session) (addressed : s.addressed f = true)
      (session : s.sessionOf (Frame.pitch f) = some x) (within : s.ring.counted[Frame.pitch f] < s.pit.front.ring[Frame.pitch f])
      (act : State → State) :
      (s.slotAwaits slot f).dataRow (Frame.pitch f) act = act ((s.slotAwaits slot f).requestCounted (Frame.pitch f)) := by
    have row := State.dataRow_session (s := s.slotAwaits slot f) (State.takesSlots_of_addressed addressed)
      (Option.isSome_of_eq_some session) act
    rwa [if_pos (by exact within)] at row
  refine ⟨fun s slot f k key ko d addressed type ok seeded open_ drbg tag within len op zero => ?_,
    fun s slot f x h type => ?_, fun s slot f x h type => ?_⟩
  · have row : exec (.sessionOpen slot f) s = .next (s.takeSlot slot f fun s => s.sessionRequest slot f) := if_pos type
    rw [row, State.takeSlot_ok addressed ok]
    obtain ⟨r, g, e, hr⟩ := State.sessionRequest_passes (s := s.slotAwaits slot f) (slot := slot) seeded open_ drbg tag within len op zero
    rw [(s.slotAwaits slot f).requestCounted_within within] at hr
    generalize (State.count (s.slotAwaits slot f) 0x33 0 _).obs = o at hr
    subst hr
    refine ⟨_, congrArg _ e, rfl, rfl, vset_self .., g, ?_⟩
    exact congrArg (· ++ [{ slot := slot, frame := g }]) (filtered s slot)
  · obtain ⟨addressed, ok, session, tag, within⟩ := h
    rw [show taken s slot f = s.slotAwaits slot f from rfl]
    have row (act : State → State) : (s.slotAwaits slot f).dataRow (Frame.pitch f) act = act ((s.slotAwaits slot f).requestCounted (Frame.pitch f)) :=
      rows s slot f x addressed session within act
    have answered := State.sealedRequest_passes (s := s.slotAwaits slot f) (slot := slot) session tag within
    rw [if_pos type] at answered
    rw [State.slotRequestA_ok s addressed ok, State.request_data _ _ _ type, answered]
    have counted := (s.slotAwaits slot f).requestCounted_within within
    have submits (q : Byte) (d : Desc) :
        exec (.dataSubmit (Frame.pitch f) q d) (s.slotAwaits slot f) = .next (State.dataSubmit _ (Frame.pitch f) q d).1 := congrArg _ (row _)
    have collects (q h : Byte) :
        exec (.dataCollect (Frame.pitch f) q h) (s.slotAwaits slot f) = .next (State.dataCollect _ (Frame.pitch f) q h).1 := congrArg _ (row _)
    refine ⟨fun kind len => ⟨_, submits .., ?_⟩, fun kind len => ⟨_, collects .., ?_⟩⟩
    · have request := State.dataRequest_submit ((s.slotAwaits slot f).requestCounted (Frame.pitch f)) (Frame.pitch f) kind len
      refine congrArg Host.Outcome.next ?_
      change State.answerSealed (State.dataRequest _ _ _ (plain s slot f x)).1 slot f x.key (State.dataRequest _ _ _ (plain s slot f x)).2 = _
      rw [request, counted, State.dataSubmit_verdict]
      exact congrArg (State.answerSealed _ slot f x.key) (s.dataSubmit_verdict (s.slotAwaits slot f).ring s.obs ..)
    · have request := State.dataRequest_collect ((s.slotAwaits slot f).requestCounted (Frame.pitch f)) (Frame.pitch f) kind len
      refine congrArg Host.Outcome.next ?_
      change State.answerSealed (State.dataRequest _ _ _ (plain s slot f x)).1 slot f x.key (State.dataRequest _ _ _ (plain s slot f x)).2 = _
      rw [request, counted, State.dataCollect_answer]
      exact congrArg (State.answerSealed _ slot f x.key) (s.dataCollect_answer (s.slotAwaits slot f).ring s.obs ..)
  · obtain ⟨addressed, ok, session, tag, within⟩ := h
    have answered := State.sealedRequest_passes (s := s.slotAwaits slot f) (slot := slot) session tag within
    rw [if_neg (by omega)] at answered
    have row : exec (.traceGrant slot f) s = exec (.slotRequestA slot f) s := 
      (if_pos type).trans (s.slotRequestA_as fun r => r.request_traceGrant slot f type).symm
    rw [row, State.slotRequestA_ok s addressed ok, State.request_traceGrant _ _ _ type, answered]
    rw [State.traceData_requestCounted]
    refine ⟨_, rfl, ?_⟩
    rw [(s.slotAwaits slot f).requestCounted_within within]
    rfl

end Sys2Proof.Machine
end


section
/-! SUPPORT. The bytes of a frame's payload, the REQUEST of a candidate, and the steps of the INSERT handshake. -/

namespace Sys2Proof.Machine

set_option Elab.async false

variable {s : State} {slot : Fin 36} {f : Frame}

/-! ### Bytes -/

@[simp] theorem length_bytesOf (k x : Nat) : (bytesOf k x).length = k := by
  induction k with
  | zero => rfl
  | succ k ih => simp [bytesOf, ih]

/-- The bytes of a number spell it. -/
theorem foldl_bytesOf (k x a : Nat) : (bytesOf k x).foldl (fun a b => 256 * a + b.toNat) a = a * 256 ^ k + x % 256 ^ k := by
  induction k generalizing a with
  | zero => simp [bytesOf, Nat.mod_one]
  | succ k ih =>
    have split : x % (256 ^ k * 256) = x % 256 ^ k + 256 ^ k * (x / 256 ^ k % 256) := Nat.mod_mul
    rw [bytesOf, List.foldl_cons, ih, BitVec.toNat_ofNat, Nat.pow_succ 256, split, show (2 : Nat) ^ 8 = 256 from rfl]
    ring

theorem toList_payloadOf {bs : List Byte} (h : bs.length ≤ 40) : (payloadOf bs).toList = bs ++ List.replicate (40 - bs.length) 0 := by
  apply List.ext_getElem
  · simp
    omega
  · intro i _ _
    simp only [payloadOf, Vector.getElem_toList, Vector.getElem_ofFn, List.getElem_append, List.getElem_replicate]
    split
    · rename_i small
      simp [small]
    · rename_i large
      simp [large]

/-! ### The REQUEST (R216, R217) -/

/-- The bits of a REQUEST's header from 16 to 38 are fixed: TYPE 3, LEN 14, TAKEN and RESP. -/
theorem extract_requestHeader (slot : Fin 36) : (requestHeader slot).extractLsb' 16 23 = 0x19D800 := by
  have mask : (0xFF800000FFFF : BitVec 48).extractLsb' 16 23 = 0 := by decide
  have rest : (BitVec.ofNat 48 (3 * 2 ^ 35 + 14 * 2 ^ 29)).extractLsb' 16 23 = 0x19C000 := by decide
  have marks : (0x18000000 : BitVec 48).extractLsb' 16 23 = 0x1800 := by decide
  rw [requestHeader, BitVec.extractLsb'_or, BitVec.extractLsb'_or, BitVec.extractLsb'_and, mask, rest, marks, show (Config.requestHeader slot.val).extractLsb' 16 23 &&& 0 = 0 from BitVec.and_zero]
  rfl

theorem requestHeader_toNat (slot : Fin 36) : (requestHeader slot).toNat / 2 ^ 16 % 2 ^ 23 = 0x19D800 := by
  have h := congrArg BitVec.toNat (extract_requestHeader slot)
  rwa [BitVec.extractLsb'_toNat, Nat.shiftRight_eq_div_pow] at h

theorem bits_requestHeader (slot : Fin 36) : bits (requestHeader slot) 35 4 = 3 ∧ bits (requestHeader slot) 29 6 = 14 ∧
    bits (requestHeader slot) 16 11 = 0 := by
  have h := requestHeader_toNat slot
  simp only [bits]
  omega

theorem bit_requestHeader (slot : Fin 36) : bit (requestHeader slot) 28 = true ∧ bit (requestHeader slot) 27 = true := by
  have bitOf (k : Nat) (h : k < 23) : bit (requestHeader slot) (16 + k) = ((0x19D800 : BitVec 23)).getLsbD k := by
    rw [← extract_requestHeader slot, BitVec.getLsbD_extractLsb', decide_eq_true h, Bool.true_and, bit]
  exact ⟨(bitOf 12 (by decide)).trans (by decide), (bitOf 11 (by decide)).trans (by decide)⟩

/-- The payload of a REQUEST. -/
def State.requestPayload (s : State) : List Byte :=
  [0x02] ++ bytesOf 8 s.serial.toNat ++ [if s.pwr.request = 0 then 1 else s.pwr.request.setWidth 8] ++ bytesOf 4 s.member.toNat

theorem State.requestFrame_eq (s : State) (slot : Fin 36) :
    s.requestFrame slot = sealFrame (requestHeader slot) (payloadOf s.requestPayload) 0 := rfl

theorem State.bytes_requestFrame (s : State) (slot : Fin 36) :
    (s.requestFrame slot).bytes = s.requestPayload ++ List.replicate 26 0 := by
  have length : s.requestPayload.length = 14 := by simp [State.requestPayload]
  rw [State.requestFrame_eq, Frame.bytes, sealFrame, toList_payloadOf (by omega), length]

theorem State.requestFrame_serial (s : State) (slot : Fin 36) : (s.requestFrame slot).field 1 8 = s.serial.toNat := by
  have taken : ((s.requestFrame slot).bytes.drop 1).take 8 = bytesOf 8 s.serial.toNat := by
    rw [State.bytes_requestFrame, State.requestPayload, List.append_assoc, List.append_assoc, List.append_assoc]
    rw [show (1 : Nat) = ([2] : List Byte).length from rfl, List.drop_left, List.take_left' (length_bytesOf ..)]
  rw [Frame.field, taken, foldl_bytesOf, Nat.zero_mul, Nat.zero_add]
  exact Nat.mod_eq_of_lt s.serial.isLt

theorem State.requestFrame_member (s : State) (slot : Fin 36) : (s.requestFrame slot).field 10 4 = s.member.toNat := by
  have taken : ((s.requestFrame slot).bytes.drop 10).take 4 = bytesOf 4 s.member.toNat := by
    rw [State.bytes_requestFrame, State.requestPayload, List.append_assoc _ (bytesOf 4 _)]
    rw [List.drop_left' (by simp), List.take_left' (length_bytesOf ..)]
  rw [Frame.field, taken, foldl_bytesOf, Nat.zero_mul, Nat.zero_add]
  exact Nat.mod_eq_of_lt s.member.isLt

theorem State.requestFrame_byte (s : State) (slot : Fin 36) : (s.requestFrame slot).byte 0 = 2 ∧
    (s.requestFrame slot).byte 9 = if s.pwr.request = 0 then 1 else s.pwr.request.setWidth 8 := by
  rw [Frame.byte, Frame.byte, State.bytes_requestFrame, State.requestPayload]
  simp [bytesOf]

/-- The REQUEST is a good INSERT frame of kind 2 and 14 bytes. -/
theorem State.requestFrame_good (s : State) (slot : Fin 36) : frameOk (s.requestFrame slot) = true ∧
    frameNobody (s.requestFrame slot) = false ∧ (Frame.type (s.requestFrame slot)).toNat = 3 ∧
    Frame.len (s.requestFrame slot) = 14 ∧ Frame.reserved (s.requestFrame slot) = 0 ∧ Frame.taken (s.requestFrame slot) = true ∧
    Frame.resp (s.requestFrame slot) = true := by
  obtain ⟨type, len, reserved⟩ := bits_requestHeader slot
  obtain ⟨taken, resp⟩ := bit_requestHeader slot
  have type : (Frame.type (s.requestFrame slot)).toNat = 3 := by
    change (BitVec.ofNat 4 (bits (requestHeader slot) 35 4)).toNat = 3
    rw [type]
    rfl
  refine ⟨(frameOk_iff _).2 rfl, ?_, type, len, reserved, taken, resp⟩
  have len : Frame.len (s.requestFrame slot) = 14 := len
  have reserved : Frame.reserved (s.requestFrame slot) = 0 := reserved
  simp [frameNobody, type, len, reserved]

/-! ### The handshake (R215 to R224) -/

theorem State.atSettled_of_candidate (h : s.candidate = true) : s.atSettled = true ∧ s.ring.inserted = false := by
  simp only [State.candidate, Bool.and_eq_true, decide_eq_true_eq, Bool.not_eq_true'] at h
  obtain ⟨⟨⟨⟨power, outside⟩, -⟩, -⟩, -⟩ := h
  exact ⟨by rw [State.atSettled, power]; rfl, outside⟩

theorem isInsert_of_type {kind : Byte} (type : (Frame.type f).toNat = 3) (h : f.byte 0 = kind) : isInsert kind f = true := by
  simp [isInsert, type, h]

section
variable {offer back : Frame} (here : slot.val ≠ 0 ∧ slot.val ≠ 35) (ok : frameOk offer = true) (body : frameNobody offer = false)
  (insert : isInsert 1 offer = true)
include here ok body insert

theorem State.insertOffer_candidate (outside : s.ring.inserted = false) (answers : s.answersOffer = true) :
    exec (.insertOffer slot offer back) s = .next (
      if s.ring.beyondFold then s.requests slot
      else if back.resp then { s.countCrc .b back with ring.bOut := some { slot := slot.val, frame := back } }
      else (s.countCrc .b back).requests slot) := by
  change execInsertOffer slot offer back s = _
  unfold execInsertOffer
  rw [State.countCrc_of_ok _ _ ok, State.passA_outside outside]
  dsimp only
  rw [if_neg (by rw [ok, body, insert]; simpa using here), if_neg (by simp [outside]), if_neg (by simp [answers])]
  split
  · rfl
  · split <;> rfl

theorem State.insertOffer_fold (inserted : s.ring.inserted = true) (folded : s.ring.folded = true) :
    exec (.insertOffer slot offer back) s = .next { s with ring := { s.ring.sends s.bell.ridge slot offer with
      foldOffer := if s.bell.ridge then s.ring.foldOffer else some slot } } := by
  change execInsertOffer slot offer back s = _
  unfold execInsertOffer
  rw [State.countCrc_of_ok _ _ ok, State.passA_inserted inserted]
  dsimp only
  rw [if_neg (by rw [ok, body, insert]; simpa using here), if_pos (by exact inserted)]
  cases ridge : s.bell.ridge
  · rw [if_pos ⟨folded, rfl⟩]
    rfl
  · rw [if_neg (by simp)]
    rfl

end

theorem State.insertOffer_silent (slot : Fin 36) {offer : Frame} (back : Frame) (ok : frameOk offer = true)
    (outside : s.ring.inserted = false) (silent : s.answersOffer = false) : exec (.insertOffer slot offer back) s = .next s := by
  change execInsertOffer slot offer back s = _
  unfold execInsertOffer
  rw [State.countCrc_of_ok _ _ ok, State.passA_outside outside]
  dsimp only
  split
  · rfl
  · rw [if_neg (by simp [outside]), if_pos (by simp [silent])]

theorem State.insertForMe_of {kind : Byte} (candidate : s.candidate = true) (ok : frameOk f = true) (body : frameNobody f = false)
    (insert : isInsert kind f = true) (serial : f.field 1 8 = s.serial.toNat) : s.insertForMe kind f = true := by
  simp [State.insertForMe, candidate, ok, body, insert, serial]

theorem State.abandonInsert_outside (outside : s.ring.inserted = false) : s.abandonInsert = { s with
    ring := { s.ring with insertPending := false, answered := none, grant := none, aOpen := false } } := by
  rw [State.abandonInsert, outside, Bool.and_false]

/-- Settles O8: each step of the handshake once its condition holds. -/
theorem insertHandshakeTakesItsSteps : Obligations.InsertHandshakeTakesItsSteps := by
  unfold Obligations.InsertHandshakeTakesItsSteps
  intro good open_ waits
  have answers (s : State) (h : waits s) (cycle : s.ring.islandCycle = false)
      (carrier : s.ring.beyondFold = true ∨ s.ring.carrierB = true) : s.answersOffer = true := by
    obtain ⟨candidate, answered, grant⟩ := h
    simp [State.answersOffer, candidate, answered, grant, cycle, carrier]
  refine ⟨fun s slot offer back here h outside waiting cycle carrier => ?_,
    fun s slot offer back here h outside waiting cycle before carrier resp backOk => ?_,
    fun s slot offer back ok outside cycle => ?_, fun s slot => ?_, fun s slot offer back here h inserted folded => ?_,
    fun s slot f nanos folded listens early => ?_, fun s slot f candidate h serial ahead near => ?_,
    fun s slot t f candidate h serial => ?_, fun s h => if_pos h, fun s k answered late none => ?_,
    fun s settled outside silent => if_pos ⟨settled, by simpa using outside, by simpa using silent⟩⟩
  · obtain ⟨ok, body, type, kind⟩ := h
    obtain ⟨settled, -⟩ := State.atSettled_of_candidate waiting.1
    have answers := answers s waiting cycle (carrier.imp_right fun h => h.1)
    rw [State.insertOffer_candidate here ok body (isInsert_of_type type kind) outside answers, State.countCrc_b]
    by_cases beyond : s.ring.beyondFold = true
    · rw [if_pos beyond, if_pos (.inl beyond)]
      rfl
    · have resp : back.resp = false := (carrier.resolve_left beyond).2
      rw [if_neg beyond, if_neg (by simp [resp])]
      have counts : (frameOk back = true ∨ s.atSettled = false) = (s.ring.beyondFold = true ∨ frameOk back = true) := by
        simp [settled, beyond]
      simp only [counts]
      rfl
  · obtain ⟨ok, body, type, kind⟩ := h
    have answers := answers s waiting cycle (.inr carrier)
    rw [State.insertOffer_candidate here ok body (isInsert_of_type type kind) outside answers, State.countCrc_of_ok _ _ backOk,
      if_neg (by simp [before]), if_pos resp]
  · exact State.insertOffer_silent slot back ok outside (by simp [State.answersOffer, cycle])
  · obtain ⟨ok, body, type, len, reserved, taken, resp⟩ := s.requestFrame_good slot
    obtain ⟨kind, cls⟩ := s.requestFrame_byte slot
    refine ⟨⟨ok, body, type, kind⟩, len, reserved, taken, resp, s.requestFrame_serial slot, s.requestFrame_member slot, ?_⟩
    rw [cls]
    split
    · rfl
    · simp
      omega
  · obtain ⟨ok, body, type, kind⟩ := h
    rw [State.insertOffer_fold here ok body (isInsert_of_type type kind) inserted folded]
    simp [RingPort.sends, folded]
  · change execInsertRequestAtFold slot f nanos s = _
    unfold execInsertRequestAtFold
    rw [State.countCrc_b]
    cases ridge : s.bell.ridge
    · exact if_pos ⟨folded, by simp [ridge], listens, early⟩
    · exact if_neg (by simp [ridge])
  · obtain ⟨ok, body, type, kind⟩ := h
    obtain ⟨-, outside⟩ := State.atSettled_of_candidate candidate
    change execInsertGrant slot f s = _
    unfold execInsertGrant
    rw [State.countCrc_of_ok _ _ ok, State.passA_outside outside]
    exact if_pos ⟨State.insertForMe_of candidate ok body (isInsert_of_type type kind) serial, ahead, near⟩
  · obtain ⟨ok, body, type, kind⟩ := h
    obtain ⟨-, outside⟩ := State.atSettled_of_candidate candidate
    change execInsertRefuse slot t f s = _
    unfold execInsertRefuse
    rw [State.countCrc_of_ok _ _ ok, State.passA_outside (by exact outside)]
    refine (if_pos (State.insertForMe_of (s := s.tick t) candidate ok body (isInsert_of_type type kind) serial)).trans ?_
    rw [State.abandonInsert_outside (by exact outside)]
    rfl
  · change execGrantWaitExpiry s = _
    unfold execGrantWaitExpiry
    rw [answered, none]
    exact if_pos late

end Sys2Proof.Machine
end


section
/-! SUPPORT. Reads and writes of the host port: latched reads, register-path writes and the rows of single registers. -/

namespace Sys2Proof.Machine

set_option Elab.async false

variable {s : State} {t : Ticks}

/-- The response to the frame before has gone out. -/
def State.sends (s : State) : State := { s with host.sdo := some s.host.response }

theorem State.serveFrame_read (s : State) (a : BitVec 7) : s.serveFrame (.read a) =
    (s.sends.hostRead a.toNat).1.answer a.toNat (s.sends.hostRead a.toNat).2 := by
  unfold State.serveFrame State.sends; dsimp only

theorem State.serve_read (s : State) (a : BitVec 7) (lo : isLo s.host.pageSel.toNat a.toNat = true) : s.serve (.read a) =
    (s.sends.hostRead a.toNat).1.answer a.toNat (s.sends.hostRead a.toNat).2 := by
  unfold State.serve; dsimp only
  rw [if_pos lo, State.serveFrame_read]
theorem State.serve_read_other (s : State) (a : BitVec 7) (other : isLo s.host.pageSel.toNat a.toNat = false) :
    s.serve (.read a) = s := by
  unfold State.serve; dsimp only
  rw [if_neg (by simp [other])]
theorem State.access_alone (up : s.hostUp = true) (closed : s.boundaryOpen (sameCycle t) = false) (x : HostAccess) :
    s.access t x = .next ((s.served t).serve x) := by
  rw [State.access_up t _ up, State.accessAt_closed _ closed]
theorem State.hostRead_of_readReg {page a : Nat} {v : Word} (sel : s.host.pageSel.toNat = page) (register : a ≠ 0x7F)
    (value : s.readReg true s.pit.hostPitch s.q.sel[s.pit.hostPitch] page a = some v) :
    s.hostRead a = (s.readLatch page a, (s.latched page a).getD v) := by
  subst sel
  unfold State.hostRead
  dsimp only
  rw [if_neg register, value]

/-! ### Latched reads (R642) -/

theorem State.readReg_epochLo (s : State) (p : Pitch) (x : Selectors) :
    s.readReg true p x 0x1 0x24 = some (lo16 s.bell.epoch) := by
  unfold State.readReg State.page1; rfl

theorem State.readReg_closeEpochLo (s : State) (p : Pitch) (x : Selectors) :
    s.readReg true p x 0x0 0x0A = some (lo16 s.dev.closeEpoch) := by
  unfold State.readReg State.page0; rfl

theorem State.readReg_rdataLo (s : State) (p : Pitch) (x : Selectors) :
    s.readReg true p x 0xE 0x05 = some (lo16 s.fuse.rdata) := by
  unfold State.readReg State.fusePage; rfl

theorem State.readReg_tallyLo (s : State) (p : Pitch) (x : Selectors) (own : s.pit.own.tally[x.tally] = some p) :
    s.readReg true p x 0xF 0x02 = some (lo16 s.obs.tally[x.tally].value) := by
  unfold State.readReg State.observePage; exact if_pos own

theorem trkIx_cases (n : TrkIx) : n = 0 ∨ n = 1 ∨ n = 2 ∨ n = 3 := by revert n; decide

/-- A tracker's PERIOD_LO as its owner reads it. -/
theorem State.readReg_periodLo (s : State) (p : Pitch) (x : Selectors) (n : TrkIx) (own : s.ownsTrk p n = true) :
    s.readReg true p x 0xC (16 * n.val + 9) = some ((s.tk n).period.setWidth 16) := by
  unfold State.readReg State.wheelPage
  dsimp only
  generalize x.viewed = vw
  rcases trkIx_cases n with rfl | rfl | rfl | rfl
  all_goals exact if_pos own

/-- PERIOD_LO latches its HI half and shows no latch of its own. -/
theorem State.readLatch_periodLo (s : State) (n : TrkIx) :
    s.readLatch 0xC (16 * n.val + 9) =
      { s with host.periodHi := vset s.host.periodHi n (some (word ((s.tk n).period.toNat / 65536))) } ∧
    s.latched 0xC (16 * n.val + 9) = none := by
  rcases trkIx_cases n with rfl | rfl | rfl | rfl
  all_goals exact ⟨rfl, rfl⟩

/-- A LO register that reads `v` and shows no latch of its own is answered so, once its HI half is latched. -/
theorem State.serve_read_of {page a : Nat} {v : Word} {x : BitVec 7} {u : State} (address : x.toNat = a)
    (sel : s.host.pageSel.toNat = page) (lo : isLo page a = true) (register : a ≠ 0x7F)
    (value : s.sends.readReg true s.pit.hostPitch s.q.sel[s.pit.hostPitch] page a = some v)
    (latch : s.sends.readLatch page a = u ∧ s.sends.latched page a = none) :
    s.serve (.read x) = u.answer a v := by
  subst address
  rw [State.serve_read s x (by rw [sel]; exact lo), State.hostRead_of_readReg (s := s.sends) sel register value, latch.1, latch.2]
  rfl

/-- Settles O22: a LO register on its page is read, and latches its HI half. -/
theorem latchedReadsGiveOneValue : Obligations.LatchedReadsGiveOneValue := by
  unfold Obligations.LatchedReadsGiveOneValue
  intro alone out sent answered tally owned value tallied period
  have reads (s : State) (t : Ticks) (a : BitVec 7) (h : alone s t) :
      exec (.loLatchRead t a) s = .next ((s.served t).serve (.read a)) := State.access_alone h.1 h.2 _
  refine ⟨fun s t h => ?_, fun s t n h => ?_, fun s t a h other => ?_⟩
  · intro v
    have same : v = (s.served t).sends := rfl
    clear_value v
    refine ⟨fun page => ?_, fun page => ?_, fun page => ?_, fun page own => ?_⟩
    all_goals
      rw [reads s t _ h]
      subst same
      generalize s.served t = w at *
    · rw [State.serve_read_of (s := w) (x := 0x24) (a := 0x24) (by decide) (congrArg BitVec.toNat page) rfl (by decide) (State.readReg_epochLo _ _ _) ⟨rfl, rfl⟩]
      rfl
    · rw [State.serve_read_of (s := w) (x := 0x0A) (a := 0x0A) (by decide) (congrArg BitVec.toNat page) rfl (by decide) (State.readReg_closeEpochLo _ _ _) ⟨rfl, rfl⟩]
      rfl
    · rw [State.serve_read_of (s := w) (x := 0x05) (a := 0x05) (by decide) (congrArg BitVec.toNat page) rfl (by decide) (State.readReg_rdataLo _ _ _) ⟨rfl, rfl⟩]
      rfl
    · rw [State.serve_read_of (s := w) (x := 0x02) (a := 0x02) (by decide) (congrArg BitVec.toNat page) rfl (by decide) (State.readReg_tallyLo _ _ _ own) ⟨rfl, rfl⟩]
      rfl
  · intro v page own
    have same : v = (s.served t).sends := rfl
    clear_value v
    rw [reads s t _ h]
    subst same
    generalize s.served t = w at *
    have address : (BitVec.ofNat 7 (16 * n.val + 9)).toNat = 16 * n.val + 9 := by
      rw [BitVec.toNat_ofNat]; omega
    have lo : isLo 12 (16 * n.val + 9) = true := by
      rcases trkIx_cases n with rfl | rfl | rfl | rfl <;> rfl
    rw [State.serve_read_of (s := w) address (congrArg BitVec.toNat page) lo (by omega) (State.readReg_periodLo _ _ _ n own)
      (State.readLatch_periodLo _ n)]
    rfl
  · rw [reads s t _ h, State.serve_read_other _ _ (by exact other), State.served]

end Sys2Proof.Machine
end


section
/-! SUPPORT. The register paths of the host port: FUSE_CMD and BATTEN_COMMIT (R160, R360), and the rows of single registers. -/

namespace Sys2Proof.Machine

set_option Elab.async false

variable {s : State} {t : Ticks}

/-! ### A register-path command (R657) -/

/-- A register-path command of the host pitch waits for its boundary. -/
def State.registerWaits (s : State) (d : Desc) : State :=
  { s with q.accepted := s.q.accepted ++
    [{ pitch := s.pit.hostPitch, door := .register, queue := 0, epoch := s.bell.epoch + 2, desc := d }] }

theorem State.submitRegister_passed {d : Desc} (pass : s.check4 s.pit.hostPitch (Desc.opcode d) = true) :
    s.submitRegister d = (s.registerWaits d, stOk) := if_pos pass

theorem State.submitRegister_refused {d : Desc} (fail : s.check4 s.pit.hostPitch (Desc.opcode d) = false) :
    s.submitRegister d = (s, stClosed) := if_neg (by rw [fail]; decide)

/-- The first word of a register-path descriptor names its opcode. -/
theorem opcode_of_first (o : Opcode) : BitVec.ofNat 8 (bits (o.code ++ (0 : Byte)) 8 8) = o.code := by
  cases o <;> rfl

theorem State.opcode_fuseDesc (s : State) (o : Opcode) : Desc.opcode (s.fuseDesc o) = o.code := opcode_of_first o

/-! ### FUSE_CMD (R160, R162) -/

theorem fuseCmdOp_program {d : Word} (guarded : bits d 8 8 = 0xA6) (named : bits d 0 2 = 2) :
    fuseCmdOp d = some .fuseProgramWord := by
  rw [fuseCmdOp, if_pos guarded, named]; rfl

theorem fuseCmdOp_read {d : Word} (guarded : bits d 8 8 = 0xA6) (named : bits d 0 2 = 1) : fuseCmdOp d = some .fuseRead := by
  rw [fuseCmdOp, if_pos guarded, named]; rfl

theorem fuseCmdOp_names {d : Word} {o : Opcode} (h : fuseCmdOp d = some o) :
    bits d 8 8 = 0xA6 ∧ (o = .fuseRead ∧ bits d 0 2 = 1 ∨ o = .fuseProgramWord ∧ bits d 0 2 = 2) := by
  unfold fuseCmdOp at h
  split at h
  · next guarded =>
    split at h
    · next named => exact ⟨guarded, .inl ⟨(Option.some.inj h).symm, named⟩⟩
    · next named => exact ⟨guarded, .inr ⟨(Option.some.inj h).symm, named⟩⟩
    · cases h
  · cases h

theorem fuseRowData_of {o : Opcode} {d : Word} (h : fuseCmdOp d = some o) : fuseRowData o d = d := if_pos h

theorem fuseRowData_other {o : Opcode} {d : Word} (h : fuseCmdOp d ≠ some o) : fuseCmdOp (fuseRowData o d) = none := by
  rw [fuseRowData, if_neg h]; rfl

theorem State.fuseCmd_ignored {d : Word} (h : s.fuse.busy[s.pit.hostPitch] = true ∨ fuseCmdOp d = none) : s.fuseCmd d = s := by
  unfold State.fuseCmd
  have none : (if s.fuse.busy[s.pit.hostPitch] = true then none else fuseCmdOp d) = none := by
    split
    · rfl
    · next idle => exact h.resolve_left idle
  rw [none]

/-- The outcome of a FUSE_CMD write that starts an operation. -/
def State.fuseStarts (s : State) (o : Opcode) : State :=
  if s.check4 s.pit.hostPitch o.code then
    { s.registerWaits (s.fuseDesc o) with fuse := { s.fuse with busy := vset s.fuse.busy s.pit.hostPitch true } }
  else { s with fuse := { s.fuse with result := stClosed, done := true, fresh := s.fuse.fresh.set s.now 2 } }

theorem State.fuseCmd_starts {d : Word} {o : Opcode} (idle : s.fuse.busy[s.pit.hostPitch] = false) (named : fuseCmdOp d = some o) :
    s.fuseCmd d = s.fuseStarts o := by
  unfold State.fuseCmd State.fuseStarts
  rw [if_neg (by rw [idle]; decide), named]
  dsimp only
  cases pass : s.check4 s.pit.hostPitch o.code with
  | true =>
    rw [State.submitRegister_passed (by rw [State.opcode_fuseDesc]; exact pass)]
    rfl
  | false =>
    rw [State.submitRegister_refused (by rw [State.opcode_fuseDesc]; exact pass)]
    rfl

theorem State.serve_fuseCmd (s : State) (d : Word) : s.serve (.register 14 0x03 d) = (s.sends.fuseCmd d).answer 0x03 0 := by
  rw [State.serve_register]; rfl

/-- A write of FUSE_CMD on its own page, as REGISTER_WRITE. -/
theorem State.serve_write_fuseCmd (d : Word) (page : s.host.pageSel = 14) :
    s.serve (.write 0x03 d) = (s.sends.fuseCmd d).answer 0x03 0 := by
  have writes : s.serve (.write 0x03 d) =
      (s.sends.hostWrite s.host.pageSel.toNat 3 d).1.answer 3 (s.sends.hostWrite s.host.pageSel.toNat 3 d).2 := rfl
  rw [writes, page]
  rfl

/-! ### BATTEN_COMMIT (R358, R360) -/

theorem laneIx_cases (n : LaneIx) : n = 0 ∨ n = 1 ∨ n = 2 ∨ n = 3 ∨ n = 4 ∨ n = 5 := by revert n; decide

theorem State.serve_battenCommit (s : State) (n : LaneIx) (d : Word) :
    s.serve (.register (5 + BitVec.ofNat 4 n.val) 0x09 d) = (s.sends.battenCommit n d).answer 0x09 0 := by
  rw [State.serve_register]
  rcases laneIx_cases n with rfl | rfl | rfl | rfl | rfl | rfl
  all_goals rfl

/-- The descriptor of a BATTEN_COMMIT write. -/
def battenDesc (n : LaneIx) (d : Word) : Desc :=
  { w0 := Opcode.commitBatten.code ++ (0 : Byte), w1 := 0, w2 := 0xFFFF
    w3 := word ((5 + n.val) * 4096 + bits d 0 2), w4 := 0, w5 := 0, w6 := 0, w7 := 0 }

theorem opcode_battenDesc (n : LaneIx) (d : Word) : Desc.opcode (battenDesc n d) = Opcode.commitBatten.code :=
  opcode_of_first .commitBatten

theorem State.battenCommit_foreign {n : LaneIx} (d : Word) (own : s.ownsLane s.pit.hostPitch n = false) :
    s.battenCommit n d = s.noObject := if_pos (by rw [own]; rfl)

theorem State.battenCommit_ignored {n : LaneIx} {d : Word} (own : s.ownsLane s.pit.hostPitch n = true)
    (h : (s.ln n).car.battenBusy = true ∨ bits d 0 2 = 0) : s.battenCommit n d = s := by
  unfold State.battenCommit
  rw [if_neg (by rw [own]; decide), if_pos (by simpa using h)]

/-- The outcome of a BATTEN_COMMIT write that starts a check. -/
def State.battenStarts (s : State) (n : LaneIx) (d : Word) : State :=
  if s.check4 s.pit.hostPitch Opcode.commitBatten.code then
    (s.registerWaits (battenDesc n d)).modLn n fun l => { l with car := { l.car with battenBusy := true } }
  else s.modLn n fun l => { l with car := { l.car with
    battenResult := stClosed, battenDone := true, fresh := l.car.fresh.set s.now 2 } }

theorem State.battenCommit_starts {n : LaneIx} {d : Word} (own : s.ownsLane s.pit.hostPitch n = true)
    (idle : (s.ln n).car.battenBusy = false) (some : bits d 0 2 ≠ 0) : s.battenCommit n d = s.battenStarts n d := by
  unfold State.battenCommit State.battenStarts
  rw [if_neg (by rw [own]; decide), if_neg (by simp [idle, some])]
  dsimp only
  cases pass : s.check4 s.pit.hostPitch Opcode.commitBatten.code with
  | true =>
    rw [State.submitRegister_passed (by rw [← battenDesc, opcode_battenDesc]; exact pass)]
    rfl
  | false =>
    rw [State.submitRegister_refused (by rw [← battenDesc, opcode_battenDesc]; exact pass)]
    rfl

/-- Settles O23: each row is the register access of its page, and an ignored one only answers. -/
theorem busyIgnoresRegisterPathCommands : Obligations.BusyIgnoresRegisterPathCommands := by
  unfold Obligations.BusyIgnoresRegisterPathCommands
  intro ready out sent answer busy waits acts desc commits
  have programs (s : State) (t : Ticks) (d : Word) (h : ready s t) : exec (.fuseCmdProgram t d) s =
      .next (((s.served t).sends.fuseCmd (fuseRowData .fuseProgramWord d)).answer 0x03 0) := by
    rw [← State.serve_fuseCmd]; exact State.access_alone h.1 h.2 _
  have readsFuse (s : State) (t : Ticks) (d : Word) (h : ready s t) : exec (.fuseCmdRead t d) s =
      .next (((s.served t).sends.fuseCmd (fuseRowData .fuseRead d)).answer 0x03 0) := by
    rw [← State.serve_fuseCmd]; exact State.access_alone h.1 h.2 _
  have writes (s : State) (t : Ticks) (d : Word) (h : ready s t) : exec (.registerWrite t 0x03 d) s =
      .next ((s.served t).serve (.write 0x03 d)) := State.access_alone h.1 h.2 _
  have batten (s : State) (n : LaneIx) (t : Ticks) (d : Word) (h : ready s t) : exec (.battenCommit n t d) s =
      .next (((s.served t).sends.battenCommit n d).answer 0x09 0) := by
    rw [← State.serve_battenCommit]; exact State.access_alone h.1 h.2 _
  refine ⟨fun s t d h => ?_, fun s n t d h => ?_⟩
  · intro v
    have same : v = (s.served t).sends := rfl
    clear_value v
    rw [programs s t d h, readsFuse s t d h, writes s t d h]
    subst same
    generalize s.served t = w at *
    refine ⟨fun idle guarded named => ?_, fun idle guarded named => ?_, fun still => ?_, fun still => ?_, fun still page => ?_⟩
    · have op := fuseCmdOp_program guarded named
      rw [fuseRowData_of op, State.fuseCmd_starts (by exact idle) op]
      rfl
    · have op := fuseCmdOp_read guarded named
      rw [fuseRowData_of op, State.fuseCmd_starts (by exact idle) op]
      rfl
    · rw [State.fuseCmd_ignored]
      · rfl
      · refine still.imp id fun unnamed => fuseRowData_other fun op => ?_
        obtain ⟨guarded, ⟨ne, -⟩ | ⟨-, named⟩⟩ := fuseCmdOp_names op
        · cases ne
        · exact unnamed.elim (· guarded) (· named)
    · rw [State.fuseCmd_ignored]
      · rfl
      · refine still.imp id fun unnamed => fuseRowData_other fun op => ?_
        obtain ⟨guarded, ⟨-, named⟩ | ⟨ne, -⟩⟩ := fuseCmdOp_names op
        · exact unnamed.elim (· guarded) (· named)
        · cases ne
    · rw [State.serve_write_fuseCmd d (by exact page), State.fuseCmd_ignored (.inl still)]
      rfl
  · intro v
    have same : v = (s.served t).sends := rfl
    clear_value v
    rw [batten s n t d h]
    subst same
    generalize s.served t = w at *
    refine ⟨fun own idle some => ?_, fun own still => ?_, fun foreign => ?_⟩
    · rw [State.battenCommit_starts own idle some]; rfl
    · rw [State.battenCommit_ignored own still]; rfl
    · rw [State.battenCommit_foreign d foreign]; rfl

/-! ### Rows of single registers -/

/-- A write of an address that the host pitch reads takes its effect. -/
theorem State.plainWrite_of {page a : Nat} {v : Word} (d : Word)
    (read : s.readReg true s.pit.hostPitch s.q.sel[s.pit.hostPitch] page a = some v) :
    s.plainWrite page a d = s.writeReg true s.pit.hostPitch s.q.sel[s.pit.hostPitch] page a d := by
  unfold State.plainWrite
  dsimp only
  rw [read]

theorem State.plainWrite_beyond {page a : Nat} (d : Word)
    (read : s.readReg true s.pit.hostPitch s.q.sel[s.pit.hostPitch] page a = none) : s.plainWrite page a d = s.noObject := by
  unfold State.plainWrite
  dsimp only
  rw [read]

theorem State.readReg_flashCtrl (s : State) (p : Pitch) (x : Selectors) :
    s.readReg true p x 1 0x0A = some (fields [flag s.pwr.insertEn 0]) := by
  unfold State.readReg State.page1; rfl

/-- A write of FLASH_CTRL: INSERT_EN before insertion (R77, R78). -/
def State.flashed (s : State) (d : Word) : State :=
  { s with pwr := { s.pwr with insertEn := if s.ring.inserted then s.pwr.insertEn else bit d 0 } }

theorem State.flashCtrl_eq (s : State) (d : Word) : s.flashCtrl d = s.flashed d := by
  unfold State.flashCtrl State.flashed
  split <;> rfl

theorem State.writeReg_flashCtrl (s : State) (p : Pitch) (x : Selectors) (d : Word) :
    s.writeReg true p x 1 0x0A d = s.flashed d := by
  have writes : s.writeReg true p x 1 0x0A d = if decide (p = 0) || true then s.flashCtrl d else s := rfl
  rw [writes, if_pos (Bool.or_true _), State.flashCtrl_eq]

theorem State.serve_flashCtrl (s : State) (d : Word) : s.serve (.register 1 0x0A d) = (s.sends.flashed d).answer 0x0A 0 := by
  rw [State.serve_register, ← State.writeReg_flashCtrl s.sends s.sends.pit.hostPitch s.sends.q.sel[s.sends.pit.hostPitch],
    ← State.plainWrite_of d (State.readReg_flashCtrl _ _ _)]
  rfl

/-- A write of TALLY_SRC: of the host pitch's own tally in TALLY_SEL (R613). -/
def State.tallySrc (s : State) (d : Word) : State :=
  if s.pit.own.tally[s.q.sel[s.pit.hostPitch].tally] = some s.pit.hostPitch then { s with obs := { s.obs with
    tally := vset s.obs.tally s.q.sel[s.pit.hostPitch].tally { value := 0, src := d }
    restarted := s.q.sel[s.pit.hostPitch].tally :: s.obs.restarted } }
  else s.noObject

theorem State.plainWrite_tallySrc (s : State) (d : Word) : s.plainWrite 15 0x01 d = s.tallySrc d := by
  have read : s.readReg true s.pit.hostPitch s.q.sel[s.pit.hostPitch] 15 0x01 =
      if s.pit.own.tally[s.q.sel[s.pit.hostPitch].tally] = some s.pit.hostPitch then
        some s.obs.tally[s.q.sel[s.pit.hostPitch].tally].src else none := by
    unfold State.readReg State.observePage; rfl
  unfold State.tallySrc
  by_cases own : s.pit.own.tally[s.q.sel[s.pit.hostPitch].tally] = some s.pit.hostPitch
  · rw [if_pos own, State.plainWrite_of d (read.trans (if_pos own))]; rfl
  · rw [if_neg own, State.plainWrite_beyond d (read.trans (if_neg own))]

theorem State.serve_tallySrc (s : State) (d : Word) : s.serve (.register 15 0x01 d) = (s.sends.tallySrc d).answer 0x01 0 := by
  rw [State.serve_register, ← State.plainWrite_tallySrc]; rfl

/-! ### Writes of P0 -/

/-- P0's write of a thermal limit (R559, R560). -/
theorem State.serve_limit (s : State) (a : BitVec 7) (d : Word) (limit : 0x30 ≤ a.toNat ∧ a.toNat ≤ 0x33) :
    s.serve (.ofP0 13 a d) = { s with heat := s.heat.limitWrite a.toNat d } := by
  have writes : s.serve (.ofP0 13 a d) = s.writeBlockPage 0 s.q.sel[(0 : Pitch)] 13 a.toNat d := rfl
  rw [writes, State.writeBlockPage]
  rw [dif_neg (by omega), if_pos rfl]

theorem bits_high_of_small {d : Word} (small : d.toNat < 8) : bits d 3 13 = 0 := by
  unfold bits; omega

theorem bits_high_of_large {d : Word} (large : 8 ≤ d.toNat) : bits d 3 13 ≠ 0 := by
  unfold bits
  have := d.isLt
  omega

theorem Thermal.limitWrite_dieWarn (h : Thermal) (d : Word) : h.limitWrite 0x30 d =
    if limitsFit (d.setWidth 8).toNat (h.dieStopNext.getD h.dieStop).toNat then { h with dieWarnNext := some (d.setWidth 8) } else h :=
  rfl

theorem Thermal.limitWrite_dieStop (h : Thermal) (d : Word) : h.limitWrite 0x31 d =
    if limitsFit (h.dieWarnNext.getD h.dieWarn).toNat (d.setWidth 8).toNat then { h with dieStopNext := some (d.setWidth 8) } else h :=
  rfl

theorem State.serve_hostPitch (s : State) (d : Word) : s.serve (.ofP0 3 0 d) =
    if bits d 3 13 = 0 then { s with pit.hostPitchNext := some ⟨bits d 0 3, by unfold bits; omega⟩ } else s := rfl

/-- Settles O24: each row is the write of its register. -/
theorem registerRowsTakeForceAsStated : Obligations.RegisterRowsTakeForceAsStated := by
  unfold Obligations.RegisterRowsTakeForceAsStated
  intro ready owner out sent answer flashed tally retallied fits heat
  refine ⟨fun s t d h => ?_, fun s t d h => ?_, fun s t a d other => if_neg ?_⟩
  · have flash : exec (.flashCtrlWrite t d) s = .next ((s.served t).serve (.register 1 0x0A d)) := State.access_alone h.1 h.2 _
    have tallied : exec (.tallySrcWrite t d) s = .next ((s.served t).serve (.register 15 0x01 d)) := State.access_alone h.1 h.2 _
    have same : sent s t = (s.served t).sends := rfl
    rw [flash, tallied, State.serve_flashCtrl, State.serve_tallySrc, same]
    generalize s.served t = w
    exact ⟨rfl, rfl⟩
  · intro v below
    have same : v = s.served t := rfl
    have p0 (page : BitVec 4) (a : BitVec 7) : s.p0Write t page a d = .next (v.serve (.ofP0 page a d)) := by
      rw [State.p0Write_settled t _ _ _ h.1, State.accessAt_closed _ h.2, same]
    clear_value v
    have hostPitch : exec (.hostPitchWrite t d) s = .next (v.serve (.ofP0 3 0 d)) := p0 3 0
    have limit (a : BitVec 7) (k : Nat) (address : a.toNat = k) (range : 0x30 ≤ a ∧ a ≤ 0x33) :
        exec (.thermalLimitWrite t a d) s = .next { v with heat := v.heat.limitWrite k d } := by
      rw [← address, ← State.serve_limit v a d range, ← p0 13 a]
      exact if_pos range
    have fits_iff (warn stop : Byte) : limitsFit warn.toNat stop.toNat = true ↔ fits warn stop := decide_eq_true_iff
    rw [hostPitch, State.serve_hostPitch, limit 0x30 0x30 rfl (by decide), limit 0x31 0x31 rfl (by decide), limit 0x32 0x32 rfl (by decide), limit 0x33 0x33 rfl (by decide)]
    refine ⟨fun p named => ?_, fun large => ?_, fun fit => ?_, fun fit => ?_, fun fit => ?_, fun fit => ?_, rfl, rfl⟩
    · have low : bits d 0 3 = p.val := by unfold bits; omega
      rw [if_pos (bits_high_of_small (by omega))]
      have same : (⟨bits d 0 3, by unfold bits; omega⟩ : Pitch) = p := Fin.ext low
      rw [same]
    · rw [if_neg (bits_high_of_large large)]
    · rw [Thermal.limitWrite_dieWarn, if_pos ((fits_iff _ _).2 fit)]
    · rw [Thermal.limitWrite_dieWarn, if_neg fun ok => fit ((fits_iff _ _).1 ok)]
    · rw [Thermal.limitWrite_dieStop, if_pos ((fits_iff _ _).2 fit)]
    · rw [Thermal.limitWrite_dieStop, if_neg fun ok => fit ((fits_iff _ _).1 ok)]
  · simp only [BitVec.le_def, BitVec.lt_def] at other ⊢
    omega

end Sys2Proof.Machine
end


section
/-! SUPPORT. Frames of the host port (R291 to R298), and the accesses that wait for a boundary's commands (R640). -/

namespace Sys2Proof.Machine

set_option Elab.async false

variable {s : State} {t : Ticks}

/-! ### No access leaves another one waiting -/

theorem State.host_rootFailure (s : State) (t : Ticks) : (s.rootFailure t).host = s.host := by
  by_cases ok : s.clk.rootOk = true
  · rw [State.rootFailure_eq s t ok]
    generalize hr : (if s.safeLaneAssigned then (s.rootLost t).declareCause 3 t none else s.rootLost t) = r
    obtain ⟨⟨d, closing⟩, -⟩ := s.rootLost_declared t hr
    obtain ⟨steps, -⟩ := State.eachLane_lanes (s := r) (fun _ _ _ => True) (State.rootLane t)
      fun u n _ => ⟨LaneStep.rootLane n t u, trivial⟩
    exact steps.host.trans closing.host
  · rw [State.rootFailure, if_neg ok]

theorem State.host_clkCtrl (s : State) (d : Word) : (s.clkCtrl d).host = s.host := by
  unfold State.clkCtrl
  dsimp only
  split
  · unfold State.revert
    dsimp only
    split
    · rfl
    · exact State.host_rootFailure _ _
  · rfl

theorem State.waiting_writeDevice (s : State) (host : Bool) (p : Pitch) (page a : Nat) (d : Word) :
    (s.writeDevice host p page a d).host.waiting = s.host.waiting := by
  unfold State.writeDevice
  dsimp only
  split
  all_goals repeat' split
  case h_7.isTrue => rw [State.flashCtrl_eq]; rfl
  case h_9.isTrue => rw [State.host_clkCtrl]
  all_goals rfl

theorem State.waiting_writeBlockPage (s : State) (p : Pitch) (x : Selectors) (page a : Nat) (d : Word) :
    (s.writeBlockPage p x page a d).host.waiting = s.host.waiting := by
  unfold State.writeBlockPage
  split
  all_goals repeat' split
  all_goals rfl

theorem State.waiting_writeReg (s : State) (host : Bool) (p : Pitch) (x : Selectors) (page a : Nat) (d : Word) :
    (s.writeReg host p x page a d).host.waiting = s.host.waiting := by
  unfold State.writeReg
  split
  · exact s.waiting_writeDevice ..
  · split
    · split <;> rfl
    · exact s.waiting_writeBlockPage ..

theorem State.waiting_plainWrite (s : State) (page a : Nat) (d : Word) : (s.plainWrite page a d).host.waiting = s.host.waiting := by
  unfold State.plainWrite
  dsimp only
  split
  · rfl
  · exact s.waiting_writeReg ..

theorem State.waiting_doorbell (s : State) (d : Word) : (s.doorbell d).1.host.waiting = s.host.waiting := by
  rw [State.doorbell_eq]
  obtain ⟨o, e⟩ := s.submit_eq s.pit.hostPitch .host (doorbellQueue d) s.staged
  rw [e]
  rfl

theorem State.waiting_submitRegister (s : State) (d : Desc) : (s.submitRegister d).1.host = s.host := by
  unfold State.submitRegister
  dsimp only
  split <;> rfl

theorem State.waiting_fuseCmd (s : State) (d : Word) : (s.fuseCmd d).host.waiting = s.host.waiting := by
  unfold State.fuseCmd
  split
  · rfl
  · next o _ =>
    have kept := s.waiting_submitRegister (s.fuseDesc o)
    generalize s.submitRegister (s.fuseDesc o) = x at kept ⊢
    dsimp only
    split <;> exact congrArg HostPort.waiting kept

theorem State.waiting_battenCommit (s : State) (n : LaneIx) (d : Word) : (s.battenCommit n d).host.waiting = s.host.waiting := by
  unfold State.battenCommit
  split
  · rfl
  · split
    · rfl
    · dsimp only
      have kept := s.waiting_submitRegister (battenDesc n d)
      rw [battenDesc] at kept
      generalize s.submitRegister _ = x at kept ⊢
      split <;> exact congrArg HostPort.waiting kept

theorem State.waiting_hostWrite (s : State) (page a : Nat) (d : Word) : (s.hostWrite page a d).1.host.waiting = s.host.waiting := by
  unfold State.hostWrite
  split
  · rfl
  · split
    · exact s.waiting_doorbell d
    · split
      · unfold State.cqPop; dsimp only; repeat' split
        all_goals rfl
      · split
        · unfold State.evqPop; split <;> rfl
        · split
          · exact s.waiting_fuseCmd d
          · split
            · exact s.waiting_battenCommit _ d
            · exact s.waiting_plainWrite page a d

theorem State.waiting_hostRead (s : State) (a : Nat) : (s.hostRead a).1.host.waiting = s.host.waiting := by
  unfold State.hostRead
  dsimp only
  split
  · rfl
  · split
    · rfl
    · unfold State.readLatch
      dsimp only
      split
      all_goals repeat' split
      all_goals rfl

theorem State.waiting_serveFrame (s : State) (x : HostAccess) : (s.serveFrame x).host.waiting = s.host.waiting := by
  cases x with
  | frame bits =>
    unfold State.serveFrame
    dsimp only
    split
    · rfl
    · split
      · exact s.sends.waiting_hostWrite ..
      · exact s.sends.waiting_hostRead _
  | write a d => exact s.sends.waiting_hostWrite ..
  | read a => exact s.sends.waiting_hostRead _
  | register page a d => exact s.sends.waiting_hostWrite ..
  | ofP0 page a d => rfl
  | abort => rfl

/-- An access that acts leaves the ones that wait as they are. -/
theorem State.waiting_serve (s : State) (x : HostAccess) : (s.serve x).host.waiting = s.host.waiting := by
  cases x with
  | frame bits => exact s.waiting_serveFrame _
  | write a d => exact s.waiting_serveFrame _
  | read a =>
    unfold State.serve
    dsimp only
    split
    · exact s.waiting_serveFrame _
    · rfl
  | register page a d => exact s.waiting_serveFrame _
  | ofP0 page a d => exact s.waiting_writeReg ..
  | abort => rfl

theorem State.waiting_serveWaiting (s : State) : s.serveWaiting.host.waiting = [] :=
  List.foldlRecOn s.host.waiting State.serve (motive := fun r : State => r.host.waiting = []) rfl
    fun _ h x _ => (State.waiting_serve _ x).trans h

theorem State.waiting_served (s : State) (t : Ticks) : (s.served t).host.waiting = [] := by
  rw [State.served, State.lanesTick_host]
  exact s.waiting_serveWaiting

/-- An access appended to those that wait, which act together, acts on a state that nothing waits in. -/
theorem State.serveWaiting_append (x : HostAccess) (none : s.host.waiting = []) :
    State.serveWaiting { s with host.waiting := s.host.waiting ++ [x] } = s.serve x := by
  have emptied : ({ s with host.waiting := [] } : State) = s := by rw [← none]
  unfold State.serveWaiting
  dsimp only
  rw [none]
  change State.serve ({ s with host.waiting := [] } : State) x = _
  rw [emptied]

/-! ### Frames (R291, R292) -/

theorem State.execHostFrame_alone (h : s.hostUp = true ∧ s.boundaryOpen (sameCycle t) = false) (x : DWord) :
    exec (.hostFrame t x) s = .next ((s.served t).serveFrame (.frame x)) := State.access_alone h.1 h.2 _

/-- Byte `k / 8` of a frame. -/
def frameByte (x : DWord) (k : Nat) : Byte := (x >>> k).setWidth 8

theorem State.serveFrame_frame (s : State) (x : DWord) : s.serveFrame (.frame x) =
    if crc8 [frameByte x 24, frameByte x 16, frameByte x 8] ≠ frameByte x 0 then
      { s.sends with host := { s.sends.host with crcErr := true, response := respond true ((frameByte x 24).toNat % 128) 0 } }
    else
      let r := if x.msb then s.sends.hostWrite s.host.pageSel.toNat ((frameByte x 24).toNat % 128) (frameByte x 16 ++ frameByte x 8)
        else s.sends.hostRead ((frameByte x 24).toNat % 128)
      r.1.answer ((frameByte x 24).toNat % 128) r.2 := rfl

theorem State.serve_write (s : State) (a : BitVec 7) (d : Word) : s.serve (.write a d) =
    (s.sends.hostWrite s.host.pageSel.toNat a.toNat d).1.answer a.toNat (s.sends.hostWrite s.host.pageSel.toNat a.toNat d).2 := rfl

theorem State.serveFrame_bad {x : DWord} (h : crc8 [frameByte x 24, frameByte x 16, frameByte x 8] ≠ frameByte x 0) :
    s.serveFrame (.frame x) = { s.sends with host := { s.sends.host with
      crcErr := true, response := respond true ((frameByte x 24).toNat % 128) 0 } } := by
  rw [State.serveFrame_frame, if_pos h]

theorem State.serveFrame_read_good {x : DWord} (h : crc8 [frameByte x 24, frameByte x 16, frameByte x 8] = frameByte x 0)
    (read : x.msb = false) : s.serveFrame (.frame x) = (s.sends.hostRead ((frameByte x 24).toNat % 128)).1.answer
      ((frameByte x 24).toNat % 128) (s.sends.hostRead ((frameByte x 24).toNat % 128)).2 := by
  rw [State.serveFrame_frame, if_neg (not_not.2 h), read]
  rfl

theorem State.serveFrame_write_good {x : DWord} (h : crc8 [frameByte x 24, frameByte x 16, frameByte x 8] = frameByte x 0)
    (write : x.msb = true) : s.serveFrame (.frame x) =
      s.serve (.write ((frameByte x 24).setWidth 7) (frameByte x 16 ++ frameByte x 8)) := by
  have address : ((frameByte x 24).setWidth 7).toNat = (frameByte x 24).toNat % 128 := BitVec.toNat_setWidth ..
  rw [State.serveFrame_frame, if_neg (not_not.2 h), write, State.serve_write, address]
  rfl

/-- PAGE_SEL answers from every page (R295). -/
theorem State.serve_pageSel (s : State) (d : Word) : s.serve (.write 0x7F d) =
    { s.sends with host := { s.sends.host with pageSel := d.setWidth 4, response := respond false 0x7F 0 } } := rfl

/-- A write to an address that is neither PAGE_SEL nor a command register is a plain one. -/
theorem State.hostWrite_plain {page : BitVec 4} {a : BitVec 7} (d : Word) (other : a ≠ 0x7F)
    (plain : ¬ ((page = 4 ∧ (a = 0x20 ∨ a = 0x10 ∨ a = 0x38)) ∨ (page = 14 ∧ a = 0x03) ∨
      (5 ≤ page.toNat ∧ page.toNat < 11 ∧ a = 0x09))) :
    s.hostWrite page.toNat a.toNat d = (s.plainWrite page.toNat a.toNat d, 0) := by
  simp only [ne_eq, ← BitVec.toNat_inj, BitVec.ofNat_eq_ofNat, BitVec.toNat_ofNat] at other plain
  unfold State.hostWrite
  rw [if_neg (by omega), if_neg (by omega), if_neg (by omega), if_neg (by omega), if_neg (by omega), dif_neg (by omega)]

theorem State.plainWrite_eq (s : State) (page a : Nat) (d : Word) : s.plainWrite page a d =
    if (s.readReg true s.pit.hostPitch s.q.sel[s.pit.hostPitch] page a).isSome then
      s.writeReg true s.pit.hostPitch s.q.sel[s.pit.hostPitch] page a d else s.noObject := by
  cases read : s.readReg true s.pit.hostPitch s.q.sel[s.pit.hostPitch] page a with
  | none => exact State.plainWrite_beyond d read
  | some v => exact State.plainWrite_of d read

/-! ### The rows of the port, and those of P0 -/

/-- The rows of the host port, each with the access that it makes. -/
def portRows (t : Ticks) (x : DWord) (a : BitVec 7) (n : LaneIx) (d : Word) : List (Instr × HostAccess) :=
  [(.hostFrame t x, .frame x), (.registerWrite t a d, .write a d), (.loLatchRead t a, .read a), (.pageSel t d, .write 0x7F d),
   (.doorbell t d, .register 4 0x20 d), (.cqPop t d, .register 4 0x10 d), (.evqPop t d, .register 4 0x38 d),
   (.fuseCmdProgram t d, .register 14 0x03 (fuseRowData .fuseProgramWord d)),
   (.fuseCmdRead t d, .register 14 0x03 (fuseRowData .fuseRead d)),
   (.battenCommit n t d, .register (5 + BitVec.ofNat 4 n.val) 0x09 d), (.flashCtrlWrite t d, .register 1 0x0A d),
   (.tallySrcWrite t d, .register 15 0x01 d)]

/-- The rows of P0's writes, each with its access. -/
def ownerRows (t : Ticks) (d : Word) : List (Instr × HostAccess) :=
  [(.clkCtrlWrite t d, .ofP0 1 0x22 d), (.hostPitchWrite t d, .ofP0 3 0 d), (.thermalLimitWrite t 0x30 d, .ofP0 13 0x30 d),
   (.thermalLimitWrite t 0x31 d, .ofP0 13 0x31 d), (.thermalLimitWrite t 0x32 d, .ofP0 13 0x32 d),
   (.thermalLimitWrite t 0x33 d, .ofP0 13 0x33 d)]

theorem portRows_access {x : DWord} {a : BitVec 7} {n : LaneIx} {d : Word} {r : Instr × HostAccess} (row : r ∈ portRows t x a n d) :
    exec r.1 s = s.access t r.2 := by
  simp only [portRows, List.mem_cons, List.not_mem_nil, or_false] at row
  rcases row with rfl | rfl | rfl | rfl | rfl | rfl | rfl | rfl | rfl | rfl | rfl | rfl
  all_goals rfl

theorem ownerRows_access {d : Word} {r : Instr × HostAccess} (row : r ∈ ownerRows t d) (settled : s.atSettled = true) :
    exec r.1 s = .next (s.accessAt t r.2) := by
  simp only [ownerRows, List.mem_cons, List.not_mem_nil, or_false] at row
  rcases row with rfl | rfl | rfl | rfl | rfl | rfl
  all_goals exact State.p0Write_settled t _ _ _ settled

theorem State.settled_of_hostUp (up : s.hostUp = true) : s.atSettled = true := (Bool.and_eq_true _ _ ▸ up : _ ∧ _).1

theorem State.access_low (low : s.host.rstLow = true) (x : HostAccess) : s.access t x = .next s :=
  if_neg (by simp [State.hostUp, low])

/-- Settles O21: every row of the port is an access, which acts at once or waits. -/
theorem hostFramesReachRegisters : Obligations.HostFramesReachRegisters := by
  unfold Obligations.HostFramesReachRegisters
  intro byte crcHolds alone out sent later paged written commandRegister port owner
  have sends (s : State) (t : Ticks) : sent s t = (s.served t).sends := rfl
  clear_value sent
  refine ⟨fun s t x h bad => ?_, fun s t x h good write => ?_, fun s t x h good read => ?_, fun s t d h => ?_,
    fun s t a d h other plain => ?_, fun s t x a n d waits => ⟨fun up r row => ?_, fun settled r row => ?_⟩,
    fun s t x a n d h r row => ?_, fun s up none => ?_, fun s up some => ?_, fun _ => rfl, fun s low settled => ?_,
    fun s low => if_pos low, fun s t x a n d low => ⟨?_, fun r row => ?_⟩⟩
  · rw [State.execHostFrame_alone h, State.serveFrame_bad bad, sends]
    rfl
  · have row : exec (.registerWrite t ((byte x 24).setWidth 7) (byte x 16 ++ byte x 8)) s = _ := State.access_alone h.1 h.2 _
    rw [State.execHostFrame_alone h, State.serveFrame_write_good good write, row]
    rfl
  · intro r
    rw [State.execHostFrame_alone h, State.serveFrame_read_good good read, ← sends]
    rfl
  · have row : exec (.registerWrite t 0x7F d) s = .next ((s.served t).serve (.write 0x7F d)) := State.access_alone h.1 h.2 _
    have sel : exec (.pageSel t d) s = .next ((s.served t).serve (.write 0x7F d)) := State.access_alone h.1 h.2 _
    rw [row, sel, State.serve_pageSel, ← sends]
    exact ⟨rfl, rfl⟩
  · have row : exec (.registerWrite t a d) s = .next ((s.served t).serve (.write a d)) := State.access_alone h.1 h.2 _
    rw [sends] at plain
    rw [row, State.serve_write, sends]
    generalize s.served t = v at *
    rw [State.hostWrite_plain d other (by exact plain), State.plainWrite_eq]
    rfl
  · rw [portRows_access row, State.access_up t _ up, State.accessAt_open _ waits]
  · rw [ownerRows_access row settled, State.accessAt_open _ waits]
  · have access : exec r.1 s = .next (s.accessAt t r.2) := by
      rcases List.mem_append.1 row with row | row
      · rw [portRows_access row, State.access_up t _ h.1]
      · exact ownerRows_access row (State.settled_of_hostUp h.1)
    rw [access, State.accessAt_closed _ h.2, ← State.serveWaiting_append r.2 (s.waiting_served t)]
    rfl
  · change execFrameAbort s = _
    rw [execFrameAbort, if_neg (by rw [up]; decide), if_pos none]
    rfl
  · change execFrameAbort s = _
    rw [execFrameAbort, if_neg (by rw [up]; decide), if_neg some]
  · exact if_pos (by rw [low, settled]; rfl)
  · change execFrameAbort s = _
    rw [execFrameAbort, if_pos (by simp [State.hostUp, low])]
  · rw [portRows_access row, State.access_low low]

end Sys2Proof.Machine
end


section
/-! SUPPORT. A command refused before its effect, and what a recorded answer leaves (R308, R310, R318). -/

namespace Sys2Proof.Machine

set_option Elab.async false

/-! ### What observes an answer -/

/-- Tallies and trace: what of `Observe` counting and tracing can change. -/
def Observe.Counted (x y : Observe) : Prop :=
  y = { x with tally := y.tally, queue := y.queue, lostSince := y.lostSince, lost := y.lost }

theorem Observe.Counted.trans {x y z : Observe} (h : x.Counted y) (k : y.Counted z) : x.Counted z := by
  rw [Observe.Counted] at *
  rw [k, h]

theorem Observe.counted_tally (x : Observe) (v : Vector Tally 64) : x.Counted { x with tally := v } := rfl

theorem State.counted_count (s : State) (c i : Nat) (w : Option Pitch) : s.obs.Counted (s.count c i w).obs := by
  unfold State.count
  exact Observe.counted_tally _ _

theorem State.counted_trace (s : State) (c : Nat) (p : Pitch) (l : List Word) : s.obs.Counted (s.trace c p l).obs := by
  unfold State.trace
  dsimp only
  repeat' split
  all_goals rfl

/-- What is counted and traced shows in tallies and trace alone. -/
theorem State.count_trace (s : State) (c i : Nat) (w : Option Pitch) (k : Nat) (p : Pitch) (l : List Word) :
    ∃ o : Observe, s.obs.Counted o ∧ (s.count c i w).trace k p l = { s with obs := o } := by
  have counted := (s.counted_count c i w).trans (State.counted_trace _ k p l)
  have traced := State.trace_eq (s.count c i w) k p l
  generalize ((s.count c i w).trace k p l).obs = o at counted traced
  exact ⟨o, counted, traced.trans (congrArg (fun x : State => { x with obs := o }) (s.count_eq c i w))⟩

/-! ### The ledger entry (R318, R319) -/

/-- The ledger entry of a command applied in the present epoch. -/
def State.ledgerEntry (s : State) (a : Applied) (st : Byte) : LedgerEntry :=
  ⟨lo16 s.bell.epoch, hi16 s.bell.epoch, word ((Desc.opcode a.cmd.desc).toNat % 128 * 2 ^ 9 + (Cmd.tag a.cmd).toNat),
    word (st.toNat % 128 * 2 ^ 9 + a.order % 512)⟩

/-- A pitch's ledger with one entry more. -/
def Ledger.push (e : LedgerEntry) (l : Ledger) : Ledger := { newest := (e :: l.newest).take 256, written := l.written + 1 }

theorem State.ledgerWrite_eq (s : State) (a : Applied) (st : Byte) : ∃ o : Observe, s.obs.Counted o ∧ s.ledgerWrite a st =
    { s with q.ledger := vmod s.q.ledger a.cmd.pitch (Ledger.push (s.ledgerEntry a st)), obs := o } := by
  unfold State.ledgerWrite
  dsimp only
  obtain ⟨o, counted, e⟩ := State.count_trace { s with q.ledger := vmod s.q.ledger a.cmd.pitch (Ledger.push (s.ledgerEntry a st)) }
    0x32 0 (some a.cmd.pitch) 1 a.cmd.pitch
    [(s.ledgerEntry a st).w0, (s.ledgerEntry a st).w1, (s.ledgerEntry a st).w2, (s.ledgerEntry a st).w3]
  exact ⟨o, counted, e⟩

theorem State.answered_eq (u : State) (a : Applied) (st : Byte) (r0 r1 r2 r3 : Word) : ∃ o : Observe, u.obs.Counted o ∧
    u.answered a st r0 r1 r2 r3 = { u with
      q := { u.q with
        outcomes := u.q.outcomes ++ [⟨a, st, r0, r1, r2, r3, u.bell.bellNo + 1⟩]
        ledger := vmod u.q.ledger a.cmd.pitch (Ledger.push (u.ledgerEntry a st)) }
      obs := o } := State.ledgerWrite_eq (u.finish a st r0 r1 r2 r3) a st

/-- Settles O26: `commandRow_of_refusal` for each row, and the parts of `answered_eq`. -/
theorem refusedCommandsAnswerAndAreLedgered : Obligations.RefusedCommandsAnswerAndAreLedgered := by
  unfold Obligations.RefusedCommandsAnswerAndAreLedgered
  intro rows
  refine ⟨fun r row s x st => ?_, fun u a st r0 r1 r2 r3 => ?_⟩
  · have applies : ∃ f, exec (r.1 x) s = s.commandRow r.2.1 (r.2.2 x) f := by
      simp only [rows, List.mem_cons, List.not_mem_nil, or_false] at row
      rcases row with rfl | rfl | rfl | rfl | rfl | rfl | rfl | rfl | rfl | rfl | rfl | rfl | rfl | rfl | rfl | rfl | rfl | rfl | rfl |
        rfl | rfl | rfl | rfl | rfl | rfl | rfl | rfl | rfl | rfl | rfl
      all_goals exact ⟨_, rfl⟩
    obtain ⟨f, e⟩ := applies
    intro o c refused
    rw [e]
    exact State.commandRow_of_refusal refused
  · intro t c e
    obtain ⟨o, counted, answered⟩ := u.answered_eq a st r0 r1 r2 r3
    have same : t = _ := answered
    clear_value t
    subst same
    refine ⟨rfl, counted, rfl, vmod_self _ _ _, fun p other => vmod_ne _ _ _ _ (Ne.symm other)⟩

end Sys2Proof.Machine
end


section
/-! SUPPORT. REOPEN, and the market that opens at the next boundary (R592 to R594). -/

namespace Sys2Proof.Machine

set_option Elab.async false

variable {s r : State} {c : Cmd}

/-! ### REOPEN at its application -/

theorem State.issuerRefusal_reopen (s : State) (c : Cmd) :
    s.issuerRefusal c .reopen = if c.pitch = 0 then none else some stNoObject := by
  simp only [State.issuerRefusal, decide_eq_true_eq]

/-- The critical-word fault is looked at again where it closed the market (R592). -/
def State.resensed (s : State) : State :=
  if bit s.dev.arisen 3 = true ∧ senseFails s.fuse.array = false then { s with fuse := { s.fuse with critFail := false } } else s

theorem Desc.tail4_of_restZero {d : Desc} (rest : restZero d 0 = true) : d.w3 = 0 ∧ d.tail4.any (· != 0) = false := by
  simp only [restZero, List.drop_zero, List.all_cons, List.all_nil, Bool.and_true, Bool.and_eq_true, beq_iff_eq] at rest
  obtain ⟨h3, h4, h5, h6, h7⟩ := rest
  exact ⟨h3, by simp [Desc.tail4, h4, h5, h6, h7]⟩

theorem State.resensed_dev (s : State) : s.resensed.dev = s.dev := by
  unfold State.resensed
  split <;> rfl

/-- REOPEN of P0 with nothing but zero in its argument words. -/
theorem State.reopenCommand_eq (s : State) {d : Desc} (rest : restZero d 0 = true) : s.reopenCommand 0 d =
    if s.dev.closed = false then (s, { status := stOk })
    else if s.resensed.present = 0 then
      ({ s.resensed with dev.reopenNext := true }, { status := stOk, r0 := word s.dev.arisen.toNat })
    else (s.resensed, { status := stClosed, r0 := word s.resensed.present.toNat }) := by
  obtain ⟨first, tail⟩ := Desc.tail4_of_restZero rest
  have sensed : s.resensed = if bit s.dev.arisen 3 ∧ !senseFails s.fuse.array then { s with fuse.critFail := false } else s := by
    unfold State.resensed
    simp only [Bool.not_eq_true']
  unfold State.reopenCommand
  rw [if_neg (by decide), if_neg (by rw [first, tail]; decide), ← sensed]
  cases s.dev.closed with
  | false => rfl
  | true =>
    dsimp only
    rw [if_neg (show ¬ (true = false) by decide)]
    by_cases none : s.resensed.present = 0
    · rw [if_neg (not_not.2 none), if_pos none]
      exact congrArg (fun w : BitVec 4 => (({ s.resensed with dev.reopenNext := true } : State),
        ({ status := stOk, r0 := word w.toNat } : Result))) (congrArg Device.arisen s.resensed_dev)
    · rw [if_pos none, if_neg none]
      rfl

/-! ### What a boundary leaves of the closure's record -/

/-- The closure's record: closed, the causes arisen, the first of them, and a REOPEN that has passed. -/
def Device.closure (d : Device) : Bool × BitVec 4 × BitVec 3 × Bool := (d.closed, d.arisen, d.closeFirst, d.reopenNext)

/-- Operations in a row that leave the device's record. -/
theorem State.dev_foldl {α : Type} (l : List α) (f : State → α → State) (hf : ∀ s a, (f s a).dev = s.dev) : (l.foldl f s).dev = s.dev :=
  List.foldlRecOn l f (motive := fun r : State => r.dev = s.dev) rfl fun _ h x _ => (hf _ x).trans h

theorem State.dev_eachLane (s : State) (f : State → LaneIx → State) (hf : ∀ s n, (f s n).dev = s.dev) : (s.eachLane f).dev = s.dev :=
  State.dev_foldl _ f hf

theorem State.dev_moveLane (s : State) (n : LaneIx) (new : Option Pitch) : (s.moveLane n new).dev = s.dev := by
  unfold State.moveLane
  dsimp only
  have a : ((s.ln n).opsOpen.foldl State.endForeign (s.recall (s.ln n))).dev = s.dev := State.dev_foldl _ _ fun _ _ => rfl
  generalize (s.ln n).opsOpen.foldl State.endForeign (s.recall (s.ln n)) = x at a ⊢
  have b : (if (s.ln n).ops.lineLoss = true then x.laneEvent n 0x01 1 0 0 0 else x).dev = s.dev := by
    split
    · exact ((LaneStep.refl n x).laneEvent ..).dev.trans a
    · exact a
  generalize (if (s.ln n).ops.lineLoss = true then x.laneEvent n 0x01 1 0 0 0 else x) = y at b ⊢
  have c := ((((LaneStep.refl n y).laneState .stopped).gatesOff y.now)).dev.trans b
  generalize (y.laneState n .stopped).gatesOff n y.now = z at c ⊢
  exact c

theorem State.dev_fuseRefresh (s : State) (r : FuseRun) : (s.fuseRefresh r).dev = s.dev := by
  unfold State.fuseRefresh
  dsimp only
  refine (State.dev_foldl _ _ fun u p => ?_).trans ?_
  · split
    all_goals rfl
  · repeat' split
    all_goals rfl

theorem State.dev_fuseBoundary (s : State) : s.fuseBoundary.dev = s.dev := by
  unfold State.fuseBoundary
  split
  · rfl
  · split
    · rfl
    · next run _ _ =>
      dsimp only
      have a := (State.dev_fuseRefresh s.fuseStop (s.fuseStop.fuse.run.getD run)).trans s.fuseStop_closing.dev
      generalize s.fuseStop.fuseRefresh (s.fuseStop.fuse.run.getD run) = x at a ⊢
      split
      · exact (State.dev_foldl _ _ fun u n => u.dev_moveLane n none).trans a
      · exact a

theorem State.dev_heatBoundary (s : State) : s.heatBoundary.dev = s.dev := by
  unfold State.heatBoundary
  dsimp only
  have estimated := State.dev_eachLane { s with heat := s.heat.takeLimits } (fun s n => s.modLn n Lane.heatBoundary) fun _ _ => rfl
  generalize State.eachLane { s with heat := s.heat.takeLimits } _ = u at estimated ⊢
  refine Eq.trans (State.dev_eachLane _ _ ?_) estimated
  intro r n
  rfl

theorem State.dev_lapseAll (s : State) (f : Cmd → Bool) : (s.lapseAll f).dev = s.dev :=
  State.dev_foldl _ _ fun _ _ => rfl

theorem State.closure_hostLost (s : State) (p : Pitch) (w : Word) : (s.hostLost p w).dev.closure = s.dev.closure := by
  have stop := ((s.lapseAll fun c => c.pitch == p && c.door != .ring).hostStop_spec p false w).1.dev
  rw [State.dev_lapseAll] at stop
  unfold State.hostLost
  dsimp only
  generalize State.hostStop _ p false w = u at stop ⊢
  rw [← stop]
  rfl

theorem State.closure_takeHostPitch (s : State) : s.takeHostPitch.dev.closure = s.dev.closure := by
  unfold State.takeHostPitch
  split
  · rfl
  · dsimp only
    split
    · rfl
    · exact State.closure_hostLost _ _ _

theorem LeaseStep.closure (h : LeaseStep s r) : r.dev.closure = s.dev.closure := by
  rcases h.told with e | e
  · exact congrArg Device.closure e
  · exact (congrArg Device.closure e).trans rfl

theorem State.closure_leaseEnds (s : State) : s.leaseEnds.dev.closure = s.dev.closure := by
  have old := s.oldLeasesEnd_spec.1.closure
  rw [State.leaseEnds_if]
  split
  · have stop := (s.oldLeasesEnd.hostStop_spec s.oldLeasesEnd.pit.hostPitch true 2).1.dev
    generalize s.oldLeasesEnd.hostStop s.oldLeasesEnd.pit.hostPitch true 2 = u at stop ⊢
    exact (congrArg Device.closure stop).trans old
  · exact old

/-- What a bench hold does to lane `n` as it takes force, and as it ends. -/
def State.holdLane (on : Bool) (s : State) (n : LaneIx) : State :=
  if on then
    if (s.laneOwner n).isSome && !bit (s.ln n).car.policy 1 && ((s.ln n).running || (s.ln n).pin) then
      (s.forceSafe n s.now 3 fun s => s.modLn n fun l => { l with latch.safeHold := true }).laneEvent n 0x11 0 0 0 0
    else s
  else if (s.ln n).latch.safeHold then s.releaseSafe n s.now fun s => s.modLn n fun l => { l with latch.safeHold := false }
  else s

theorem LaneStep.holdLane (on : Bool) (s : State) (n : LaneIx) : LaneStep n s (s.holdLane on n) := by
  unfold State.holdLane
  repeat' split
  · exact ((LaneStep.refl n s).forceSafe _ _ _ fun _ h => h.modLn _).laneEvent ..
  · exact .refl n s
  · exact (LaneStep.refl n s).releaseSafe _ _ fun _ h => h.modLn _
  · exact .refl n s

theorem State.takeHold_eq (s : State) {on : Bool} (next : s.q.holdNext = some on) (news : on ≠ s.q.hold) :
    s.takeHold = State.eachLane { s with q := { s.q with holdNext := none, hold := on } } (State.holdLane on) := by
  unfold State.takeHold
  rw [next]
  dsimp only
  rw [if_neg news]
  rfl

theorem State.takeHold_none (s : State) (next : s.q.holdNext = none) : s.takeHold = s := by
  unfold State.takeHold
  rw [next]

theorem State.takeHold_same (s : State) {on : Bool} (next : s.q.holdNext = some on) (same : on = s.q.hold) :
    s.takeHold = { s with q.holdNext := none } := by
  unfold State.takeHold
  rw [next]
  exact if_pos same

theorem State.dev_takeHold (s : State) : s.takeHold.dev = s.dev := by
  cases next : s.q.holdNext with
  | none => rw [s.takeHold_none next]
  | some on =>
    by_cases same : on = s.q.hold
    · rw [s.takeHold_same next same]
    · rw [s.takeHold_eq next same]
      exact (LanesStep.eachLane fun r n _ => LaneStep.holdLane on r n).dev

/-! ### The market opens (R594) -/

theorem mem_insertClosure {e x : EventOut} (l : List EventOut) : x ∈ insertClosure e l ↔ x = e ∨ x ∈ l := by
  induction l with
  | nil => simp [insertClosure]
  | cons y l ih =>
    unfold insertClosure
    split
    · simp
    · simp only [List.mem_cons, ih]
      tauto

/-- The CLOSURE event that tells pitch `p` that the market is open. -/
def State.openEvent (s : State) (p : Pitch) : EventOut := ⟨p, s.eventEntry 0 0 0x03 0 0 (word s.dev.arisen.toNat) 0⟩

theorem State.closureEvents_open (s : State) : s.closureEvents 0 none =
    { s with q.events := pitchIxs.foldl (fun l p => insertClosure (s.openEvent p) l) s.q.events } := by
  unfold State.closureEvents State.eachPitch
  generalize pitchIxs = l
  induction l generalizing s with
  | nil => rfl
  | cons p l ih => exact ih _

theorem mem_foldl_insertClosure (f : Pitch → EventOut) (l : List Pitch) (e : List EventOut) {p : Pitch} (mem : p ∈ l) :
    f p ∈ l.foldl (fun e p => insertClosure (f p) e) e := by
  have stays (l : List Pitch) (e : List EventOut) (x : EventOut) (h : x ∈ e) : x ∈ l.foldl (fun e p => insertClosure (f p) e) e :=
    List.foldlRecOn l _ (motive := fun e => x ∈ e) h fun e h p _ => (mem_insertClosure e).2 (.inr h)
  induction l generalizing e with
  | nil => cases mem
  | cons q l ih =>
    rcases List.mem_cons.1 mem with rfl | mem
    · exact stays l _ _ ((mem_insertClosure e).2 (.inl rfl))
    · exact ih _ mem

/-- The market is open again: the closure's record is empty, and the events tell it. -/
def State.reopened (s : State) : State :=
  State.closureEvents { s with dev := { s.dev with closed := false, arisen := 0, closeFirst := 0, reopenNext := false } } 0 none

/-- A lane that does not run leaves its safe levels as the market opens. -/
def State.reopenLane (s : State) (n : LaneIx) : State := if (s.ln n).running then s else s.releaseSafe n s.now id

theorem LaneStep.reopenLane (s : State) (n : LaneIx) : LaneStep n s (s.reopenLane n) := by
  unfold State.reopenLane
  split
  · exact .refl n s
  · exact (LaneStep.refl n s).releaseSafe _ _ fun _ h => h

theorem State.reopenMarket_eq (s : State) (next : s.dev.reopenNext = true) : s.reopenMarket = s.reopened.eachLane State.reopenLane := by
  unfold State.reopenMarket
  exact if_pos next

theorem State.reopened_lane (s : State) : s.reopened.lane = s.lane := State.closureEvents_lane _ _ _

theorem State.reopened_closure (s : State) : s.reopened.dev.closure = (false, 0, 0, false) :=
  congrArg Device.closure (State.closureEvents_closing _ 0 none).dev

theorem State.mem_reopened (s : State) (p : Pitch) : ⟨p, s.eventEntry 0 0 0x03 0 0 0 0⟩ ∈ s.reopened.q.events := by
  rw [State.reopened, State.closureEvents_open]
  exact mem_foldl_insertClosure (State.openEvent { s with dev := _ }) pitchIxs _ (by revert p; decide)

theorem State.reopenMarket_closure (s : State) (next : s.dev.reopenNext = true) :
    s.reopenMarket.dev.closure = (false, 0, 0, false) := by
  rw [s.reopenMarket_eq next, (LanesStep.eachLane fun r n _ => LaneStep.reopenLane r n).dev]
  exact s.reopened_closure

/-- What takes force before the commands leaves the closure's record as the reopening does. -/
theorem State.beforeCommands_closure (s : State) (jump first : Bool) (next : s.dev.reopenNext = true) :
    (s.beforeCommands jump first).dev.closure = (false, 0, 0, false) := by
  unfold State.beforeCommands
  dsimp only
  have a : (s.eachLane fun s n => s.modLn n Lane.settle).dev = s.dev := State.dev_foldl _ _ fun _ _ => rfl
  generalize (s.eachLane fun s n => s.modLn n Lane.settle) = v at a ⊢
  have b := (v.heatBoundary.dev_fuseBoundary).trans (v.dev_heatBoundary.trans a)
  generalize v.heatBoundary.fuseBoundary = w at b ⊢
  have c : (w.sessionBoundary jump).dev = s.dev := by
    unfold State.sessionBoundary
    split
    all_goals exact b
  generalize w.sessionBoundary jump = x at c ⊢
  have d : (if jump = true then x.lapseAll fun _ => true else x).dev = s.dev := by
    split
    · exact (x.dev_lapseAll _).trans c
    · exact c
  generalize (if jump = true then x.lapseAll fun _ => true else x) = y at d ⊢
  have e := y.reopenMarket_closure (by rw [d]; exact next)
  generalize y.reopenMarket = y at e ⊢
  have f : (y.openMarket.leaseTick first).dev.closure = (false, 0, 0, false) := by
    rw [← e]
    unfold State.leaseTick State.openMarket
    repeat' split
    all_goals rfl
  have g := (State.closure_takeHostPitch _).trans f
  generalize (y.openMarket.leaseTick first).takeHostPitch = z at g ⊢
  rw [State.dev_takeHold, State.closure_leaseEnds]
  split
  · exact (State.closure_hostLost _ _ _).trans g
  · exact g

/-- Settles O36: the effect of REOPEN, the reopening before the commands, and what a cause declared meanwhile leaves. -/
theorem reopenOpensTheMarketAtTheNextBoundary : Obligations.ReopenOpensTheMarketAtTheNextBoundary := by
  unfold Obligations.ReopenOpensTheMarketAtTheNextBoundary
  refine ⟨fun s c admitted owner rest => ?_, fun s jump first next => ?_, fun s next => ⟨fun p => ?_, fun n running => ?_⟩,
    fun s cause t i => ?_⟩
  · intro a u v
    have passes : s.refusal (Cmd.withOpcode c .reopen) = none := by
      rw [State.refusal_of_admits admitted, State.issuerRefusal_reopen]
      exact if_pos owner
    have effect : effReopen a u = atOnce (if s.dev.closed = false then (u, { status := stOk })
        else if v.present = 0 then ({ v with dev.reopenNext := true }, { status := stOk, r0 := word s.dev.arisen.toNat })
        else (v, { status := stClosed, r0 := word v.present.toNat })) := by
      unfold effReopen
      rw [show a.cmd.pitch = 0 from owner, State.reopenCommand_eq u (by exact rest)]
      rfl
    refine ⟨fun opened => ?_, fun closed none => ?_, fun closed some => ?_⟩
    · rw [if_pos opened] at effect
      exact State.commandRow_of_done passes effect
    · rw [if_neg (by simp [closed]), if_pos none] at effect
      exact State.commandRow_of_done passes effect
    · rw [if_neg (by simp [closed]), if_neg some] at effect
      exact State.commandRow_of_done passes effect
  · intro u
    have h := s.beforeCommands_closure jump first next
    simp only [Device.closure, Prod.mk.injEq] at h
    exact h
  · rw [s.reopenMarket_eq next]
    exact (LanesStep.eachLane fun r n _ => LaneStep.reopenLane r n).events.subset (s.mem_reopened p)
  · obtain ⟨w, -, same, -, last⟩ := State.eachLane_at (s := s.reopened) (fun r n _ => LaneStep.reopenLane r n) n
    have here : w.ln n = s.ln n := same.trans (State.ln_of_lane s.reopened_lane n)
    rw [s.reopenMarket_eq next, last, State.reopenLane, here, if_pos running, here]
  · by_cases news : s.atJoined = true ∧ bit s.dev.arisen (cause - 1) = false
    · rw [(State.declareCause_spec t i news.1 news.2).1.dev]
      change (s.recorded cause).reopenNext = _
      unfold State.recorded Device.recordCause
      dsimp only
      repeat' split
      all_goals rfl
    · rw [State.declareCause_of_arisen t i fun joined => by simpa [joined] using news]

end Sys2Proof.Machine
end


section
/-! SUPPORT. THERMAL_QUERY, FUSE_READ, TALLY_SNAPSHOT, and the fuse commands that wait for their window (R136 to R141, R576, R617, R649). -/

namespace Sys2Proof.Machine

set_option Elab.async false

variable {s : State} {c : Cmd} {o : Opcode}

/-! ### Rows that no issuer or object refuses, and rows whose operation goes on -/

theorem State.refusal_of_free (admitted : s.admits c o) (free : s.issuerRefusal (Cmd.withOpcode c o) o = none) :
    s.refusal (Cmd.withOpcode c o) = none := (State.refusal_of_admits admitted).trans free

/-- A command whose operation goes on leaves no completion yet, and ST_OK in its ledger entry. -/
theorem State.commandRow_of_long {f : Applied → State → Effect} {u : State} (h : s.refusal (Cmd.withOpcode c o) = none)
    (long : f (s.appliedAs o c) (s.taken o c) = (u, none)) :
    s.commandRow o c f = .next (u.ledgerWrite (s.appliedAs o c) stOk).serveDue := by
  unfold State.commandRow State.applyRow State.applyWith
  dsimp only
  split <;> rename_i refused
  · cases refused.symm.trans h
  · split <;> rename_i effect
    · cases effect.symm.trans long
    · cases effect.symm.trans long
      rfl

/-! ### Fuse commands (R140, R148) -/

theorem State.fuseProgramWord_eq (admitted : s.admits c .fuseProgramWord) : exec (.fuseProgramWord c) s = .next (
    if s.fuseProgramCheck c.pitch c.desc = stOk then
      ((s.taken .fuseProgramWord c).fuseQueue (s.appliedAs .fuseProgramWord c)
        (.word (c.desc.w3.setWidth 12) (Desc.fuseValue c.desc))).ledgerWrite (s.appliedAs .fuseProgramWord c) stOk
    else (s.taken .fuseProgramWord c).answered (s.appliedAs .fuseProgramWord c) (s.fuseProgramCheck c.pitch c.desc)).serveDue := by
  have free := State.refusal_of_free admitted rfl
  split
  · next pass => exact State.commandRow_of_long free (if_pos pass)
  · next fail => exact State.commandRow_of_done free (if_neg fail)

theorem State.keyRoll_eq (admitted : s.admits c .keyRoll) : exec (.keyRoll c) s = .next (
    if s.rollCheck c.pitch c.desc = stOk then
      ((s.taken .keyRoll c).fuseQueue (s.appliedAs .keyRoll c) (.keyRoll (partySalt c.desc))).ledgerWrite (s.appliedAs .keyRoll c) stOk
    else (s.taken .keyRoll c).answered (s.appliedAs .keyRoll c) (s.rollCheck c.pitch c.desc)).serveDue := by
  have free := State.refusal_of_free admitted rfl
  split
  · next pass => exact State.commandRow_of_long free (if_pos pass)
  · next fail => exact State.commandRow_of_done free (if_neg fail)

theorem effLifecycleAdvance_passed {a : Applied} {l : LifeCycle} (h : s.advanceCheck a.cmd.pitch a.cmd.desc = (stOk, some l)) :
    effLifecycleAdvance a s = (s.fuseQueue a (.lifeCycle l), none) := by
  unfold effLifecycleAdvance
  rw [h]

theorem effLifecycleAdvance_refused {a : Applied} {st : Byte} (h : s.advanceCheck a.cmd.pitch a.cmd.desc = (st, none)) :
    effLifecycleAdvance a s = s.done st := by
  unfold effLifecycleAdvance
  rw [h]

/-- Settles O33: each row waits where its checks pass, and answers the status of the one that fails. -/
theorem fuseCommandsWaitForTheirWindow : Obligations.FuseCommandsWaitForTheirWindow := by
  unfold Obligations.FuseCommandsWaitForTheirWindow
  intro waits
  refine ⟨fun s c admitted => s.fuseProgramWord_eq admitted, fun s c l admitted check => ?_, fun s c st admitted check => ?_,
    fun s c admitted => s.keyRoll_eq admitted, fun s d program => ?_⟩
  · exact State.commandRow_of_long (State.refusal_of_free admitted rfl) (effLifecycleAdvance_passed (by exact check))
  · exact State.commandRow_of_done (State.refusal_of_free admitted rfl) (effLifecycleAdvance_refused (by exact check))
  · change s.postedR0 d = _
    rw [State.postedR0, program, opcodeOf_code, if_pos rfl]

/-! ### Values read at the boundary (R137, R576) -/

/-- The median of a sensor's reference as a word, 0x8000 without one. -/
def Thermal.medianWord (h : Thermal) (i : SensorIx) : Word :=
  match h.median i with
  | some m => sword m
  | none => 0x8000

theorem effThermalQuery_eq {snap u : State} {a : Applied} {i : SensorIx} (index : bits a.cmd.desc.w3 0 4 = i.val)
    (unused : bits a.cmd.desc.w3 4 12 = 0) (rest : restZero a.cmd.desc 1 = true) (reach : u.sensorReach a.cmd.pitch i = true) :
    effThermalQuery snap a u = u.done stOk (snap.sn i).tempWord (sword (rateShown (snap.sn i).rate)) (snap.sn i).stateWord
      (snap.heat.medianWord i) := by
  have within : bits a.cmd.desc.w3 0 4 < 14 := index ▸ i.isLt
  have named : (⟨bits a.cmd.desc.w3 0 4, within⟩ : SensorIx) = i := Fin.ext index
  unfold effThermalQuery
  dsimp only
  rw [dif_pos within, named, if_neg (by rw [reach]; decide), if_neg (by rw [unused, rest]; decide)]
  rfl

theorem State.fuseReadResult_readable (s : State) {p : Pitch} {d : Desc} (within : Desc.fuseAddr d ≤ 0x7FF)
    (reach : regionOwner (Desc.fuseAddr d / 128) = p ∨ Desc.fuseAddr d / 128 = 1 ∨ Desc.fuseAddr d / 128 = 3)
    (free : s.rlocked (Desc.fuseAddr d / 128) = false) (word : Desc.fuseAddr d / 128 < 8 ∨ 8 ≤ Desc.fuseAddr d % 16)
    (unused : bits d.w3 12 4 = 0) (rest : (Desc.tail4 d).all (· == 0) = true) (ok : (readFuse s.fuse.image (Desc.fuseAddr d)).ok = true) :
    s.fuseReadResult p d = {
      status := stOk
      r0 := lo16 (readFuse s.fuse.image (Desc.fuseAddr d)).value
      r1 := hi16 (readFuse s.fuse.image (Desc.fuseAddr d)).value } := by
  have zero : (Desc.tail4 d).any (· != 0) = false := by simpa using rest
  unfold State.fuseReadResult
  dsimp only
  have ours : ¬ (0x7FF < Desc.fuseAddr d ∨
      (regionOwner (Desc.fuseAddr d / 128) ≠ p ∧ Desc.fuseAddr d / 128 ≠ 1 ∧ Desc.fuseAddr d / 128 ≠ 3)) := by
    rw [← Nat.not_le]; tauto
  rw [if_neg ours, if_neg (by rw [free]; simp; omega), if_neg (by rw [unused, zero]; decide), if_pos ok]

/-! ### Snapshots (R617) -/

/-- What a snapshot with CLEAR leaves of tally `i`: what was counted since the boundary, or since a write of TALLY_SRC. -/
def State.since (snap s : State) (i : TallyIx) : DWord :=
  if i ∈ s.obs.restarted then s.obs.tally[i].value else s.obs.tally[i].value - snap.obs.tally[i].value

theorem State.clearTally_of_cleared {snap : State} {i : TallyIx} (h : i ∈ s.obs.cleared) : State.clearTally snap s i = s :=
  if_pos (List.contains_iff_mem.2 h)

theorem State.clearTally_of_new {snap : State} {i : TallyIx} (h : i ∉ s.obs.cleared) : State.clearTally snap s i =
    { s with obs := { s.obs with
      cleared := i :: s.obs.cleared, tally := vmod s.obs.tally i fun t => { t with value := State.since snap s i } } } := by
  unfold State.clearTally State.since
  rw [if_neg (mt List.contains_iff_mem.1 h)]
  simp only [List.contains_iff_mem]

/-- A snapshot clears each tally it names once, and leaves the others. -/
theorem State.clearTallies_spec (snap : State) (l : List TallyIx) (s : State) :
    let u := l.foldl (State.clearTally snap) s
    u = { s with obs := u.obs } ∧ ∀ i : TallyIx,
      (i ∈ l ∧ i ∉ s.obs.cleared → i ∈ u.obs.cleared ∧ u.obs.tally[i] = { s.obs.tally[i] with value := State.since snap s i }) ∧
      (i ∈ s.obs.cleared → i ∈ u.obs.cleared) ∧ (¬ (i ∈ l ∧ i ∉ s.obs.cleared) → u.obs.tally[i] = s.obs.tally[i]) := by
  induction l generalizing s with
  | nil => exact ⟨rfl, fun i => ⟨fun h => absurd h.1 List.not_mem_nil, id, fun _ => rfl⟩⟩
  | cons x l ih =>
    rw [List.foldl_cons]
    by_cases done : x ∈ s.obs.cleared
    · rw [State.clearTally_of_cleared done]
      obtain ⟨rest, tallies⟩ := ih s
      refine ⟨rest, fun i => ?_⟩
      have same : i ∈ x :: l ∧ i ∉ s.obs.cleared ↔ i ∈ l ∧ i ∉ s.obs.cleared :=
        and_congr_left fun new => List.mem_cons.trans (or_iff_right fun e => new (e ▸ done))
      rw [same]
      exact tallies i
    · rw [State.clearTally_of_new done]
      generalize hr : ({ s with obs := _ } : State) = r
      obtain ⟨rest, tallies⟩ := ih r
      refine ⟨rest.trans (by rw [← hr]), fun i => ?_⟩
      obtain ⟨clears, stays, keeps⟩ := tallies i
      have cleared : r.obs.cleared = x :: s.obs.cleared := by rw [← hr]
      by_cases e : i = x
      · subst e
        have here : i ∈ r.obs.cleared := by rw [cleared]; exact List.mem_cons_self
        refine ⟨fun _ => ⟨stays here, ?_⟩, fun h => absurd h done, fun h => absurd ⟨List.mem_cons_self, done⟩ h⟩
        rw [keeps fun h => h.2 here, ← hr]
        exact vmod_self _ _ _
      · have other : r.obs.tally[i] = s.obs.tally[i] := by rw [← hr]; exact vmod_ne _ _ _ _ (Ne.symm e)
        have since : State.since snap r i = State.since snap s i := by
          unfold State.since
          rw [other, ← hr]
        simp only [cleared, List.mem_cons, e, false_or, other, since] at clears stays keeps ⊢
        exact ⟨clears, stays, keeps⟩

theorem State.trace_tally (s : State) (k : Nat) (p : Pitch) (l : List Word) :
    (s.trace k p l).obs.tally = s.obs.tally ∧ (s.trace k p l).obs.cleared = s.obs.cleared := by
  unfold State.trace
  dsimp only
  repeat' split
  all_goals exact ⟨rfl, rfl⟩

/-- The tallies that a snapshot names, as it leaves them. -/
def State.snapped (s snap : State) (d : Desc) (l : List TallyIx) : State :=
  if bit d.w3 7 then l.foldl (State.clearTally snap) s else s

/-- A snapshot of the pitch's own tallies with consistent arguments: its two values, its clears and its packet. -/
theorem effTallySnapshot_eq {snap u : State} {a : Applied} {l : List TallyIx} (named : snapshotTallies a.cmd.desc = some l)
    (own : ∀ i ∈ l, u.pit.own.tally[i] = some a.cmd.pitch) (b6 : bit a.cmd.desc.w3 6 = false) (b9 : bits a.cmd.desc.w3 9 7 = 0)
    (rest : restZero a.cmd.desc 1 = true) :
    let v (k : Nat) : DWord := (l.map (u.tallyAt snap)).getD k 0
    effTallySnapshot snap a u = ((u.snapped snap a.cmd.desc l).trace 6 a.cmd.pitch
      [a.cmd.desc.w3, lo16 (v 0), hi16 (v 0), lo16 (v 1), hi16 (v 1)]).done stOk (lo16 (v 0)) (hi16 (v 0)) (lo16 (v 1)) (hi16 (v 1)) := by
  intro v
  have mine : (l.any fun i => u.pit.own.tally[i] != some a.cmd.pitch) = false := by simpa using own
  unfold effTallySnapshot
  dsimp only
  rw [named]
  dsimp only
  rw [if_neg (by rw [mine]; decide), if_neg (by rw [b6, b9, rest]; decide)]
  rfl

/-- Settles O32: what each of the three answers, and what a snapshot clears. -/
theorem queriesAndSnapshotsAnswerValues : Obligations.QueriesAndSnapshotsAnswerValues := by
  unfold Obligations.QueriesAndSnapshotsAnswerValues
  refine ⟨fun s c i admitted index unused rest reach => ?_, fun s c admitted => ⟨?_, ?_⟩, fun s c l admitted named own b6 b9 rest => ?_⟩
  · refine (State.commandRow_of_done (State.refusal_of_free admitted rfl)
      (effThermalQuery_eq (by exact index) (by exact unused) (by exact rest) (by exact reach))).trans ?_
    rfl
  · exact State.commandRow_of_done (State.refusal_of_free admitted rfl) rfl
  · exact fun within reach free word unused rest ok => s.fuseReadResult_readable within reach free word unused rest ok
  · intro was v
    have effect := effTallySnapshot_eq (snap := s.atBoundary) (u := s.taken .tallySnapshot c) (a := s.appliedAs .tallySnapshot c)
      (by exact named) (by exact own) (by exact b6) (by exact b9) (by exact rest)
    have row := State.commandRow_of_done (State.refusal_of_free admitted rfl) effect
    have value (k : Nat) : (l.map ((s.taken .tallySnapshot c).tallyAt s.atBoundary)).getD k 0 = v k := by
      unfold v was State.tallyAt
      simp only [List.contains_iff_mem]
      rfl
    simp only [value] at row
    generalize [Desc.w3 _, lo16 (v 0), hi16 (v 0), lo16 (v 1), hi16 (v 1)] = words at row
    generalize hr : (s.taken .tallySnapshot c).snapped s.atBoundary (s.appliedAs .tallySnapshot c).cmd.desc l = r at row
    obtain ⟨tally, cleared⟩ := r.trace_tally 6 (s.appliedAs .tallySnapshot c).cmd.pitch words
    refine ⟨_, row, ?_, fun keep => ?_, fun clear i => ?_⟩
    · rw [State.trace_eq, ← hr, State.snapped]
      split
      · rw [(State.clearTallies_spec _ l _).1]
      · rfl
    · have unclear : (s.taken .tallySnapshot c).snapped s.atBoundary (s.appliedAs .tallySnapshot c).cmd.desc l =
          s.taken .tallySnapshot c := if_neg (ne_true_of_eq_false keep)
      rw [tally, cleared, ← hr, unclear]
      exact ⟨rfl, rfl⟩
    · have clears : r = l.foldl (State.clearTally s.atBoundary) (s.taken .tallySnapshot c) := hr.symm.trans (if_pos clear)
      obtain ⟨news, -, keeps⟩ := (State.clearTallies_spec s.atBoundary l (s.taken .tallySnapshot c)).2 i
      rw [← clears] at news keeps
      rw [tally, cleared]
      split
      · next new => exact news new
      · next old => exact keeps old

end Sys2Proof.Machine
end


section
/-! SUPPORT. Windows of a wheel tracker as its operations leave them, each taken alone (R525 to R530), and WHEEL_LOAD_TABLE, WINDOW_ARM and
WINDOW_DISARM (R505 to R508, R525 to R527). -/

namespace Sys2Proof.Machine

set_option Elab.async false

variable {s r : State} {n : TrkIx} {c : Cmd}

/-! ### Windows one by one -/

/-- A window as its close leaves it (R530). -/
def Window.shut (stay : Bool) (v : Window) : Window :=
  if v.isOpen then { v with isOpen := false, armed := v.armed && (stay || !v.once) } else v

theorem Tracker.modWin_self (x : Tracker) (w : WinIx) (f : Window → Window) : (x.modWin w f).windows[w] = f x.windows[w] := vmod_self _ _ _

theorem Tracker.modWin_ne (x : Tracker) {w v : WinIx} (f : Window → Window) (h : w ≠ v) : (x.modWin w f).windows[v] = x.windows[v] :=
  vmod_ne _ _ _ _ h

theorem Tracker.modWin_eq_self (x : Tracker) {w : WinIx} {f : Window → Window} (h : f x.windows[w] = x.windows[w]) : x.modWin w f = x := by
  unfold Tracker.modWin
  rw [vmod_eq, show f x.windows[w.val] = x.windows[w.val] from h, vset_get_self]

theorem Tracker.modWin_modWin (x : Tracker) (w : WinIx) (f g : Window → Window) :
    (x.modWin w f).modWin w g = x.modWin w fun v => g (f v) := by
  unfold Tracker.modWin
  simp only [vmod_eq, vset_self]
  congr 1
  apply Vector.ext
  intro j hj
  simp only [vset_get]
  split <;> rfl

theorem State.tk_closeWindow_eq (s : State) (n : TrkIx) (t : Ticks) (w : WinIx) (stay : Bool) :
    (s.closeWindow n t w stay).tk n = (s.tk n).modWin w (Window.shut stay) := by
  have shut (opened : (s.tk n).windows[w].isOpen = true) : ((s.tk n).modWin w fun v =>
      { v with isOpen := false, armed := v.armed && (stay || !v.once) }) = (s.tk n).modWin w (Window.shut stay) := by
    simp only [Tracker.modWin, vmod_eq, Window.shut]
    rw [if_pos (by exact opened)]
  unfold State.closeWindow
  dsimp only
  split
  · next opened =>
    rw [← shut opened]
    split
    · rw [State.tk_windowEdge, State.tk_traceWheel, State.tk_modTk]
    · rw [State.tk_traceWheel, State.tk_modTk]
  · next closed => exact (Tracker.modWin_eq_self _ (if_neg closed)).symm

/-- An operation on every window of a list, each once. -/
theorem Tracker.foldl_modWin (f : WinIx → Window → Window) (l : List WinIx) (nodup : l.Nodup) (x : Tracker) :
    ∃ v, l.foldl (fun x w => x.modWin w (f w)) x = { x with windows := v } ∧
      ∀ w : WinIx, v[w] = if w ∈ l then f w x.windows[w] else x.windows[w] := by
  induction l generalizing x with
  | nil => exact ⟨_, rfl, fun w => (if_neg List.not_mem_nil).symm⟩
  | cons y l ih =>
    obtain ⟨notin, nodup⟩ := List.nodup_cons.1 nodup
    obtain ⟨v, e, each⟩ := ih nodup (x.modWin y (f y))
    refine ⟨v, e, fun w => (each w).trans ?_⟩
    by_cases same : w = y
    · subst same
      rw [if_neg notin, if_pos List.mem_cons_self, Tracker.modWin_self]
    · rw [Tracker.modWin_ne x _ (Ne.symm same)]
      simp [same]

theorem winIxs_nodup : winIxs.Nodup := by decide

theorem mem_winIxs (w : WinIx) : w ∈ winIxs := by revert w; decide

/-- An operation on every window of tracker `n` that is a step of the tracker and changes of it one window. -/
theorem State.eachWindow (g : State → WinIx → State) (f : WinIx → Window → Window) (s : State)
    (h : ∀ r w, TrkStep n s r → TrkStep n r (g r w) ∧ (∀ v, r.tk n = { s.tk n with windows := v } → (g r w).tk n = (r.tk n).modWin w (f w))) :
    TrkStep n s (winIxs.foldl g s) ∧ ∃ v, (winIxs.foldl g s).tk n = { s.tk n with windows := v } ∧
      ∀ w : WinIx, v[w] = f w (s.tk n).windows[w] := by
  have steps (l : List WinIx) (r : State) (k : TrkStep n s r) (v : Vector Window 16) (e : r.tk n = { s.tk n with windows := v }) :
      TrkStep n s (l.foldl g r) ∧ (l.foldl g r).tk n = l.foldl (fun x w => x.modWin w (f w)) (r.tk n) := by
    induction l generalizing r v with
    | nil => exact ⟨k, rfl⟩
    | cons w l ih =>
      obtain ⟨step, tk⟩ := h r w k
      have here := tk v e
      have next : (g r w).tk n = { s.tk n with windows := vmod v w (f w) } := by rw [here, e]; rfl
      obtain ⟨whole, last⟩ := ih (g r w) (k.trans step) _ next
      exact ⟨whole, last.trans (by rw [here]; rfl)⟩
  obtain ⟨whole, last⟩ := steps winIxs s (.refl n s) _ rfl
  obtain ⟨v, e, each⟩ := Tracker.foldl_modWin f winIxs winIxs_nodup (s.tk n)
  exact ⟨whole, v, last.trans e, fun w => (each w).trans (if_pos (mem_winIxs w))⟩

/-- Every open window closes and stays armed. -/
theorem State.closeWindows_each (s : State) (n : TrkIx) (t : Ticks) : ∃ v, (s.closeWindows n t).tk n = { s.tk n with windows := v } ∧
    ∀ w : WinIx, v[w] = { (s.tk n).windows[w] with isOpen := false } := by
  obtain ⟨-, v, e, each⟩ := s.eachWindow (n := n) (fun r w => r.closeWindow n t w true) (fun _ => Window.shut true) fun r w _ =>
    ⟨(TrkStep.refl n r).closeWindow t w true, fun _ _ => r.tk_closeWindow_eq n t w true⟩
  refine ⟨v, e, fun w => (each w).trans ?_⟩
  unfold Window.shut
  generalize (s.tk n).windows[w] = x
  cases opened : x.isOpen with
  | true => simp
  | false => rw [if_neg (by decide), ← opened]

/-- A window disarmed, closed first where it is open. -/
def Window.disarmed (v : Window) : Window := { v.shut false with armed := false }

theorem Window.disarmed_closed (v : Window) : v.disarmed.armed = false ∧ v.disarmed.isOpen = false := by
  refine ⟨rfl, ?_⟩
  change (v.shut false).isOpen = false
  unfold Window.shut
  split
  · rfl
  · next closed => exact Bool.eq_false_iff.2 closed

theorem State.disarm_each (s : State) (n : TrkIx) (mask : Word) : ∃ v, (s.disarm n mask).tk n = { s.tk n with windows := v } ∧
    ∀ w : WinIx, v[w] = if bit mask w.val then (s.tk n).windows[w].disarmed else (s.tk n).windows[w] := by
  obtain ⟨-, v, e, each⟩ := s.eachWindow (n := n) (fun r w => if bit mask w.val then
      (r.closeWindow n r.now w).modTk n fun x => x.modWin w fun v => { v with armed := false } else r)
    (fun w v => if bit mask w.val then v.disarmed else v) fun r w _ => by
      by_cases named : bit mask w.val = true
      · simp only [named, if_true]
        refine ⟨((TrkStep.refl n r).closeWindow _ w false).modTk _, fun _ _ => ?_⟩
        rw [State.tk_modTk, State.tk_closeWindow_eq, Tracker.modWin_modWin]
        rfl
      · simp only [named]
        exact ⟨.refl n r, fun _ _ => (Tracker.modWin_eq_self _ rfl).symm⟩
  exact ⟨v, e, each⟩

/-! ### The commands -/

/-- A row of the pitch's own tracker is refused by nothing before its effect. -/
theorem State.refusal_of_tracker {o : Opcode} (wheel : o = .wheelLoadTable ∨ o = .windowArm ∨ o = .windowDisarm) (admitted : s.admits c o)
    (own : s.ownsTrk c.pitch (Desc.tracker c.desc) = true) : s.refusal (Cmd.withOpcode c o) = none := by
  refine State.refusal_of_free admitted ?_
  rcases wheel with rfl | rfl | rfl
  all_goals exact if_pos own

theorem word_toNat (k : Nat) : (word k).toNat = k % 65536 := BitVec.toNat_ofNat ..

/-- A row of WHEEL_LOAD_TABLE sets the operation and leaves the other argument bits (chapter 14). -/
theorem Cmd.withOp_toNat (c : Cmd) (op : Nat) (op4 : op < 4) :
    (Cmd.withOp c op).desc.w3.toNat = c.desc.w3.toNat % 16384 + op * 16384 := by
  change (word _).toNat = _
  rw [word_toNat]
  simp only [bits]
  omega

theorem Cmd.withOp_op (c : Cmd) (op : Nat) (op4 : op < 4) : bits (Cmd.withOp c op).desc.w3 14 2 = op := by
  unfold bits
  rw [Cmd.withOp_toNat c op op4]
  omega

theorem Cmd.withOp_tracker (c : Cmd) (op : Nat) (op4 : op < 4) : Desc.tracker (Cmd.withOp c op).desc = Desc.tracker c.desc := by
  apply Fin.ext
  change bits (Cmd.withOp c op).desc.w3 12 2 = bits c.desc.w3 12 2
  unfold bits
  rw [Cmd.withOp_toNat c op op4]
  omega

/-- The other argument words stay. -/
theorem Cmd.withOp_words (c : Cmd) (op : Nat) : (Cmd.withOp c op).desc.w4 = c.desc.w4 ∧ (Cmd.withOp c op).desc.w5 = c.desc.w5 ∧
    (Cmd.withOp c op).desc.w6 = c.desc.w6 ∧ (Cmd.withOp c op).desc.w7 = c.desc.w7 := by
  simp only [Cmd.withOp, and_self]

/-- The argument fields of STAGE and SEAT under the operation that the row sets. -/
theorem Cmd.withOp_fields (c : Cmd) (op : Nat) (op4 : op < 4) :
    bits (Cmd.withOp c op).desc.w3 0 7 = bits c.desc.w3 0 7 ∧ bit (Cmd.withOp c op).desc.w3 7 = bit c.desc.w3 7 ∧
    bits (Cmd.withOp c op).desc.w3 8 2 = bits c.desc.w3 8 2 ∧ bits (Cmd.withOp c op).desc.w3 10 2 = bits c.desc.w3 10 2 ∧
    bits (Cmd.withOp c op).desc.w3 0 12 = bits c.desc.w3 0 12 := by
  have same : bit (Cmd.withOp c op).desc.w3 7 = true ↔ bit c.desc.w3 7 = true := by
    rw [bit_iff, bit_iff, Cmd.withOp_toNat c op op4]
    omega
  refine ⟨?_, Bool.eq_iff_iff.2 same, ?_, ?_, ?_⟩
  all_goals
    unfold bits
    rw [Cmd.withOp_toNat c op op4]
    omega

/-- A loading row of the pitch's own tracker completes with what `loadTable` answers. -/
theorem State.commandRow_loadTable (s : State) (c : Cmd) {op : Nat} (op4 : op < 4) (admitted : s.admits c .wheelLoadTable)
    (own : s.ownsTrk c.pitch (Desc.tracker c.desc) = true) {u : State} {st : Byte} {r0 r1 : Word}
    (loads : State.loadTable (s.taken .wheelLoadTable (Cmd.withOp c op)) c.pitch (Cmd.withOp c op).desc =
      (u, { status := st, r0 := r0, r1 := r1 })) :
    s.commandRow .wheelLoadTable (Cmd.withOp c op) effLoadTable =
      .next (u.answered (s.appliedAs .wheelLoadTable (Cmd.withOp c op)) st r0 r1).serveDue := by
  refine State.commandRow_of_done (State.refusal_of_tracker (.inl rfl) admitted (by rw [Cmd.withOp_tracker c op op4]; exact own)) ?_
  change atOnce (State.loadTable (s.taken .wheelLoadTable (Cmd.withOp c op)) c.pitch (Cmd.withOp c op).desc) = _
  rw [loads]
  rfl

theorem State.loadTable_stage {p : Pitch} {d : Desc} (own : s.ownsTrk p (Desc.tracker d) = true) (op : bits d.w3 14 2 = 0) :
    s.loadTable p d = s.stageTable d := by
  rw [State.loadTable, if_pos own, op]; rfl

theorem State.loadTable_seat {p : Pitch} {d : Desc} (own : s.ownsTrk p (Desc.tracker d) = true) (op : bits d.w3 14 2 = 1) :
    s.loadTable p d = s.seatTable d := by
  rw [State.loadTable, if_pos own, op]; rfl

/-- The staged table that a SEAT names. -/
def State.stagedTable (s : State) (d : Desc) : ToothTable :=
  { free := bit d.w4 15, teeth := (s.tk (Desc.tracker d)).staging.toList.take (bits d.w4 0 8) }

/-- A tracker with the staged table seated. -/
def State.tableSeated (s : State) (d : Desc) : State :=
  (s.loseSync (Desc.tracker d) 3 s.now).modTk (Desc.tracker d) fun x => { x with table := s.stagedTable d, seated := true }

theorem State.seatTable_eq {d : Desc} (b12 : bits d.w3 0 12 = 0) (b8 : bits d.w4 8 7 = 0) (w5 : d.w5 = 0) (w6 : d.w6 = 0) (w7 : d.w7 = 0)
    (fits : bits d.w4 0 8 ≤ 128) (good : (s.stagedTable d).bad = false) : s.seatTable d = (s.tableSeated d,
      { status := stOk, r0 := word (bits d.w4 0 8), r1 := word (((s.stagedTable d).teeth.map BitVec.toNat).sum) }) := by
  have passes : (bits d.w3 0 12 != 0 || bits d.w4 8 7 != 0 || d.w5 != 0 || d.w6 != 0 || d.w7 != 0 ||
      decide (128 < bits d.w4 0 8) || (s.stagedTable d).bad) = false := by
    rw [b12, b8, w5, w6, w7, good]
    simpa using fits
  unfold State.seatTable
  exact if_neg (ne_true_of_eq_false passes)

/-- The window that a WINDOW_ARM names. -/
def Desc.window (d : Desc) : WinIx := ⟨bits d.w3 0 4, by unfold bits; omega⟩

/-- The window that a WINDOW_ARM puts. -/
def Desc.armed (d : Desc) : Window := { start := d.w4, stop := d.w5, cfg := d.w6, armed := true }

/-- A tracker with the window of a WINDOW_ARM put. -/
def State.windowArmed (s : State) (d : Desc) : State :=
  (s.closeWindow (Desc.tracker d) s.now (Desc.window d)).modTk (Desc.tracker d) fun x => x.modWin (Desc.window d) fun _ => Desc.armed d

theorem State.tk_windowArmed (s : State) (d : Desc) :
    (s.windowArmed d).tk (Desc.tracker d) = (s.tk (Desc.tracker d)).modWin (Desc.window d) fun _ => Desc.armed d := by
  rw [State.windowArmed, State.tk_modTk, State.tk_closeWindow_eq, Tracker.modWin_modWin]

theorem State.armWindow_eq {p : Pitch} {d : Desc} (own : s.ownsTrk p (Desc.tracker d) = true)
    (mine : s.targetForeign p (Desc.armed d) = false) (good : armBad d = false) :
    s.armWindow p d = (s.windowArmed d, { status := stOk, r0 := ((s.windowArmed d).tk (Desc.tracker d)).armedMask }) := by
  unfold State.armWindow
  dsimp only
  rw [if_neg (by rw [own, show s.targetForeign p { start := d.w4, stop := d.w5, cfg := d.w6, armed := true } = false from mine]; decide), if_neg (ne_true_of_eq_false good)]
  rfl

theorem State.disarmWindows_eq {p : Pitch} {d : Desc} (own : s.ownsTrk p (Desc.tracker d) = true) (unused : bits d.w3 14 2 = 0)
    (b12 : bits d.w3 0 12 = 0) (w5 : d.w5 = 0) (w6 : d.w6 = 0) (w7 : d.w7 = 0) :
    s.disarmWindows p d = (s.disarm (Desc.tracker d) d.w4,
      { status := stOk, r0 := ((s.disarm (Desc.tracker d) d.w4).tk (Desc.tracker d)).armedMask }) := by
  unfold State.disarmWindows
  dsimp only
  rw [if_neg (by rw [own]; decide), if_neg (by rw [unused, b12, w5, w6, w7]; decide)]

/-- Settles O31: the row's effect, and each window as `eachWindow` leaves it. -/
theorem toothTablesAndWindowsAreSet : Obligations.ToothTablesAndWindowsAreSet := by
  unfold Obligations.ToothTablesAndWindowsAreSet
  intro mine
  refine ⟨fun s c ⟨admitted, own⟩ => ?_, fun s c ⟨admitted, own⟩ => ?_, fun s c ⟨admitted, own⟩ => ?_, fun s c ⟨admitted, own⟩ => ?_⟩
  · intro n k first e unused b7 fits rest
    have own' : (s.taken .wheelLoadTable e).ownsTrk c.pitch (Desc.tracker e.desc) = true := by
      rw [Cmd.withOp_tracker c 0 (by decide)]; exact own
    obtain ⟨f07, f7, f82, f102, -⟩ := Cmd.withOp_fields c 0 (by decide)
    refine State.commandRow_loadTable s c (by decide) admitted own ?_
    rw [State.loadTable_stage own' (Cmd.withOp_op c 0 (by decide))]
    unfold State.stageTable
    rw [f07, f7, f82, f102, Cmd.withOp_tracker c 0 (by decide)]
    dsimp only
    have good : (bits c.desc.w3 10 2 != 0 || bit c.desc.w3 7 || decide (128 < bits c.desc.w3 0 7 + (bits c.desc.w3 8 2 + 1)) ||
        ((Desc.tail4 e.desc).drop (bits c.desc.w3 8 2 + 1)).any fun w => w != 0) = false := by
      have tail : (((Desc.tail4 c.desc).drop (bits c.desc.w3 8 2 + 1)).any fun w => w != 0) = false := by
        simpa using rest
      change (_ || _ || _ || ((Desc.tail4 c.desc).drop (bits c.desc.w3 8 2 + 1)).any fun w => w != 0) = false
      rw [unused, b7, tail]
      simpa using fits
    rw [if_neg (ne_true_of_eq_false good)]
    rfl
  · intro n k table e unused b8 w5 w6 w7 fits good
    have own' : (s.taken .wheelLoadTable e).ownsTrk c.pitch (Desc.tracker e.desc) = true := by
      rw [Cmd.withOp_tracker c 1 (by decide)]; exact own
    obtain ⟨-, -, -, -, f012⟩ := Cmd.withOp_fields c 1 (by decide)
    have tracker := Cmd.withOp_tracker c 1 (by decide)
    obtain ⟨e4, e5, e6, e7⟩ := Cmd.withOp_words c 1
    have staged : (s.taken .wheelLoadTable e).stagedTable e.desc = table := by
      unfold State.stagedTable
      rw [tracker, e4]
      rfl
    have seats := State.seatTable_eq (s := s.taken .wheelLoadTable e) (d := e.desc) (f012.trans unused) (by rw [e4]; exact b8)
      (e5.trans w5) (e6.trans w6) (e7.trans w7) (by rw [e4]; exact fits) (staged ▸ good)
    rw [e4] at seats
    refine ⟨(s.taken .wheelLoadTable e).tableSeated e.desc, State.commandRow_loadTable s c (by decide) admitted own ?_, ?_, ?_⟩
    · rw [State.loadTable_seat own' (Cmd.withOp_op c 1 (by decide)), seats, staged]
    · rw [State.tableSeated, tracker]
      exact (((TrkStep.refl n _).loseSync 3 _).modTk _).trackerOnly
    · rw [State.tableSeated, tracker, State.tk_modTk]
      exact ⟨staged, rfl, State.loseSync_sync ..⟩
  · intro n v mine good
    have effect := State.armWindow_eq (s := s.taken .windowArm c) (p := c.pitch) (d := (Cmd.withOpcode c .windowArm).desc) own mine good
    refine ⟨(s.taken .windowArm c).windowArmed (Cmd.withOpcode c .windowArm).desc,
      State.commandRow_of_done (State.refusal_of_tracker (.inr (.inl rfl)) admitted own) (congrArg atOnce effect),
      (((TrkStep.refl n _).closeWindow _ _ false).modTk _).trackerOnly, fun w => ?_⟩
    have here := State.tk_windowArmed (s.taken .windowArm c) (Cmd.withOpcode c .windowArm).desc
    refine (congrArg (fun x : Tracker => x.windows[w]) here).trans ?_
    split
    · next named =>
      obtain rfl : Desc.window (Cmd.withOpcode c .windowArm).desc = w := Fin.ext named.symm
      exact Tracker.modWin_self _ _ _
    · next other => exact Tracker.modWin_ne _ _ fun e => other (congrArg Fin.val e).symm
  · intro n unused b12 w5 w6 w7
    have effect := State.disarmWindows_eq (s := s.taken .windowDisarm c) (p := c.pitch) (d := (Cmd.withOpcode c .windowDisarm).desc) own
      unused b12 w5 w6 w7
    obtain ⟨v, e, each⟩ := (s.taken .windowDisarm c).disarm_each n c.desc.w4
    refine ⟨(s.taken .windowDisarm c).disarm n c.desc.w4, State.commandRow_of_done (State.refusal_of_tracker (.inr (.inr rfl)) admitted own) (congrArg atOnce effect),
      ((TrkStep.refl n _).disarm _).trackerOnly, fun w => ?_⟩
    have here : ((s.taken .windowDisarm c).disarm n c.desc.w4).tk n = { s.tk n with windows := v } := e
    have window := (congrArg (fun x : Tracker => x.windows[w]) here).trans (each w)
    split
    · next named =>
      rw [if_pos named] at window
      exact ⟨(congrArg Window.armed window).trans (Window.disarmed_closed _).1,
        (congrArg Window.isOpen window).trans (Window.disarmed_closed _).2⟩
    · next other => exact window.trans (if_neg other)

end Sys2Proof.Machine
end


section
/-! SUPPORT. READ_BLOCK, WRITE_BATTEN and COMMIT_BATTEN (R320, R348, R353, R644). -/

namespace Sys2Proof.Machine

set_option Elab.async false

variable {s : State} {c : Cmd} {o : Opcode}

/-- No register shows which commands wait, nor their order indexes. -/
theorem State.readReg_taken (s : State) (o : Opcode) (c : Cmd) (host : Bool) (p : Pitch) (x : Selectors) (page a : Nat) :
    (s.taken o c).readReg host p x page a = s.readReg host p x page a := by
  unfold State.readReg
  split
  all_goals rfl

theorem State.readBlockWords_taken (s : State) (o : Opcode) (c : Cmd) (p : Pitch) (d : Desc) :
    (s.taken o c).readBlockWords p d = s.readBlockWords p d := by
  have word (start a : Nat) : (s.taken o c).readBlockWord p (blockPage d) start a = s.readBlockWord p (blockPage d) start a := by
    unfold State.readBlockWord
    dsimp only
    rw [State.readReg_taken, State.readReg_taken]
    rfl
  unfold State.readBlockWords
  simp only [word]

theorem State.readBlock_eq {snap : State} {a : Applied} {ws : List Word} (reads : snap.readBlockWords a.cmd.pitch a.cmd.desc = some ws)
    (unused : blockReserved a.cmd.desc = false) (rest : restZero a.cmd.desc 1 = true) :
    s.readBlock snap a = s.done stOk (ws.getD 0 0) (ws.getD 1 0) (ws.getD 2 0) (ws.getD 3 0) := by
  unfold State.readBlock
  dsimp only
  rw [reads]
  exact if_neg (by rw [unused, rest]; decide)

theorem State.writeBlock_eq {a : Applied} (reach : (s.readBlockWords a.cmd.pitch a.cmd.desc).isSome = true)
    (unused : blockReserved a.cmd.desc = false)
    (rest : ((Desc.tail4 a.cmd.desc).drop (blockAddrs a.cmd.desc).length).all (· == 0) = true) :
    s.writeBlock a = (((blockAddrs a.cmd.desc).zip (Desc.tail4 a.cmd.desc)).foldl
      (fun r w => r.writeReg false a.cmd.pitch s.q.sel[a.cmd.pitch] (blockPage a.cmd.desc) w.1 w.2) s).done stOk := by
  have zero : ((Desc.tail4 a.cmd.desc).drop (blockAddrs a.cmd.desc).length).any (· != 0) = false := by simpa using rest
  obtain ⟨ws, reads⟩ := Option.isSome_iff_exists.1 reach
  unfold State.writeBlock
  dsimp only
  rw [reads]
  exact if_neg (by rw [unused, zero]; decide)

theorem State.commitBatten_eq {a : Applied} {b : BattenId} (names : battenOf (blockPage a.cmd.desc) (bits a.cmd.desc.w3 0 4) = some b)
    (passes : s.commitCheck a.cmd.pitch a.cmd.desc b = none) : s.commitBatten a = (s.armBatten b).done stOk := by
  unfold State.commitBatten
  dsimp only
  rw [names]
  dsimp only
  rw [passes]

/-- Settles O27: the effect of each row, with what it reads unchanged by the taking of the command. -/
theorem blocksReadWriteAndCommit : Obligations.BlocksReadWriteAndCommit := by
  unfold Obligations.BlocksReadWriteAndCommit
  refine ⟨fun s c ws admitted reads unused rest => ?_, fun s c admitted reach unused rest => ?_,
    fun s c b admitted names passes => ?_⟩
  · exact State.commandRow_of_done (State.refusal_of_free admitted rfl) (State.readBlock_eq reads unused rest)
  · have reach : ((s.taken .writeBatten c).readBlockWords c.pitch c.desc).isSome = true := by rwa [State.readBlockWords_taken]
    exact State.commandRow_of_done (State.refusal_of_free admitted rfl) (State.writeBlock_eq reach unused rest)
  · exact State.commandRow_of_done (State.refusal_of_free admitted rfl) (State.commitBatten_eq names passes)

end Sys2Proof.Machine
end


section
/-! SUPPORT. LANE_CLEAR_LATCH, LANE_STOP and LANE_SET_SPEED from the lane's owner (R365 to R367, R435, R442 to R446, R474). -/

namespace Sys2Proof.Machine

set_option Elab.async false

variable {s : State} {c : Cmd} {o : Opcode} {n : LaneIx}

/-! ### Rows on a lane -/

@[simp] theorem Cmd.lane_withOpcode (c : Cmd) (o : Opcode) : Cmd.lane (Cmd.withOpcode c o) = Cmd.lane c := by
  have same : bits (c.desc.withOpcode o.code).w0 0 3 = bits c.desc.w0 0 3 := by
    simp only [bits, Desc.withOpcode_w0_toNat]
    omega
  unfold Cmd.lane
  simp only [Cmd.withOpcode_desc, same]

/-- The opcodes that name a lane. -/
def Opcode.onLane (o : Opcode) : Bool :=
  [Opcode.laneStart, .laneStop, .laneSetSpeed, .laneReverse, .laneReseat, .laneCalibrate, .laneOffstateDiag, .laneSelftest,
    .laneClearLatch].contains o

/-- A command of the lane's owner that nothing else refuses reaches its effect. -/
theorem State.refusal_of_lane (lane : o.onLane = true) (admitted : s.admits c o) (named : Cmd.lane c = some n)
    (own : s.ownsLane c.pitch n = true) : s.refusal (Cmd.withOpcode c o) = none := by
  refine State.refusal_of_free admitted ?_
  simp only [Opcode.onLane, List.contains_iff_mem, List.mem_cons, List.not_mem_nil, or_false] at lane
  rcases lane with rfl | rfl | rfl | rfl | rfl | rfl | rfl | rfl | rfl
  all_goals
    unfold State.issuerRefusal
    dsimp only
    rw [Cmd.lane_withOpcode, named]
    exact if_pos own

theorem onLane_eq {k : Nat} {f : LaneIx → Applied → State → Effect} {a : Applied} (named : Cmd.lane a.cmd = some n)
    (rest : restZero a.cmd.desc k = true) : onLane k f a s = f n a s := by
  unfold onLane
  rw [named]
  exact if_pos rest

section
variable {k : Nat} {f : LaneIx → Applied → State → Effect} (lane : o.onLane = true) (admitted : s.admits c o)
  (named : Cmd.lane c = some n) (own : s.ownsLane c.pitch n = true) (rest : restZero c.desc k = true)
include lane admitted named own rest

/-- A lane row that completes at once. -/
theorem State.laneRow_of_done {u : State} {st : Byte} {r0 r1 r2 r3 : Word}
    (done : f n (s.appliedAs o c) (s.taken o c) = u.done st r0 r1 r2 r3) :
    s.commandRow o c (onLane k f) = .next (u.answered (s.appliedAs o c) st r0 r1 r2 r3).serveDue :=
  State.commandRow_of_done (State.refusal_of_lane lane admitted named own)
    ((onLane_eq ((Cmd.lane_withOpcode c o).trans named) rest).trans done)

/-- A lane row whose operation goes on. -/
theorem State.laneRow_of_long {u : State} (long : f n (s.appliedAs o c) (s.taken o c) = (u, none)) :
    s.commandRow o c (onLane k f) = .next (u.ledgerWrite (s.appliedAs o c) stOk).serveDue :=
  State.commandRow_of_long (State.refusal_of_lane lane admitted named own)
    ((onLane_eq ((Cmd.lane_withOpcode c o).trans named) rest).trans long)
end

/-! ### LANE_CLEAR_LATCH (R365 to R367) -/

theorem State.laneClearLatch_clear (a : Applied) (clear : (s.ln n).latch.latched = false) : s.laneClearLatch n a = s.done stOk :=
  if_neg (ne_true_of_eq_false clear)

theorem State.laneClearLatch_free (a : Applied) (latched : (s.ln n).latch.latched = true) (source : s.latchSource n = none) :
    s.laneClearLatch n a = (s.clearLatch n s.now).done stOk := by
  unfold State.laneClearLatch
  rw [if_pos latched, source]

theorem State.laneClearLatch_asserted (a : Applied) {src : Byte} (latched : (s.ln n).latch.latched = true)
    (source : s.latchSource n = some src) : s.laneClearLatch n a = ((s.modLn n Lane.unlatch).setLatch n src s.now).done stOk 1 := by
  unfold State.laneClearLatch
  rw [if_pos latched, source]

theorem LaneStep.clearLatch (n : LaneIx) (s : State) (t : Ticks) : LaneStep n s (s.clearLatch n t) := by
  have released := (LaneStep.refl n s).releaseSafe t (fun s => s.modLn n Lane.unlatch) fun _ h => h.modLn _
  unfold State.clearLatch
  dsimp only
  split
  · exact released.toStopped t
  · exact released

theorem State.clearLatch_spec (s : State) (n : LaneIx) (t : Ticks) : ((s.clearLatch n t).ln n).latch.latched = false ∧
    ((s.clearLatch n t).ln n).latch.src = 0 ∧ ((s.clearLatch n t).ln n).com.state = .stopped := by
  obtain ⟨-, com, latch, -⟩ := s.releaseSafe_spec n t Lane.unlatch
  unfold State.clearLatch
  dsimp only
  split
  · rw [State.toStopped_latch, latch]
    exact ⟨rfl, rfl, State.toStopped_state ..⟩
  · next halted =>
    rw [latch]
    exact ⟨rfl, rfl, by simpa [Lane.running] using halted⟩

/-- A newly set latch is told to the lane's owner. -/
theorem State.setLatch_told (s : State) (n : LaneIx) (src : Byte) (t : Ticks) {p : Pitch} (clear : (s.ln n).latch.latched = false)
    (owner : s.laneOwner n = some p) : ⟨p, s.eventEntry 0x01 n.val 0x10 (word src.toNat) 0 0 0⟩ ∈ (s.setLatch n src t).q.events := by
  unfold State.setLatch
  rw [if_neg (ne_true_of_eq_false clear)]
  dsimp only
  generalize hv : (s.latchTask n t).forceSafe n t 2 _ = v
  have step : LaneStep n s v := hv ▸ ((LaneStep.refl n s).latchTask t).forceSafe t 2 _ fun _ h => h.modLn _
  have owned : v.laneOwner n = some p := (step.lanes.laneOwner n).trans owner
  rw [State.traceLane_q]
  simp only [State.laneEvent, owned, State.eventTo, State.eventFor_q, List.mem_append, List.mem_singleton]
  exact .inr (congrArg _ (step.lanes.eventEntry ..).symm)

/-! ### LANE_STOP and LANE_SET_SPEED -/

theorem State.laneStop_running {a : Applied} {m : StopMode} (named : (s.ln n).namedMode a.cmd.desc.w3 = some m)
    (running : (s.ln n).running = true) : s.laneStop n a = (s.beginStop n s.now m false (some a) 1 false, none) := by
  unfold State.laneStop
  rw [named]
  exact if_pos running

theorem State.laneStop_halted {a : Applied} {m : StopMode} (named : (s.ln n).namedMode a.cmd.desc.w3 = some m)
    (halted : (s.ln n).running = false) : s.laneStop n a = if (s.ln n).gate.waiting then
      (s.endPinWait n s.now).done stOk (word StopMode.coast.code) 0 0 (s.ln n).com.speedMeas else s.done stOk := by
  unfold State.laneStop
  rw [named]
  exact if_neg (ne_true_of_eq_false halted)

theorem State.endPinWait_com (s : State) (n : LaneIx) (t : Ticks) : ((s.endPinWait n t).ln n).com = (s.ln n).com := by
  unfold State.endPinWait
  split
  · rw [State.drivePins_com, State.ln_modLn]
  · rfl

theorem State.laneSetSpeed_steerable {a : Applied} (steers : (s.ln n).steerable = true) : s.laneSetSpeed n a =
    let w := a.cmd.desc.w3
    let target := if w < (s.ln n).com.set.live.runMin then (s.ln n).com.set.live.runMin else w
    if targetOk w then (s.modLn n fun l => { l with com := { l.com with targetNext := some target } }).done stOk target
    else s.done stInconsistent 0 0 5 := by
  unfold State.laneSetSpeed
  dsimp only
  rw [if_neg (by rw [steers]; decide)]
  cases targetOk a.cmd.desc.w3 <;> rfl

/-- Settles O29: each row reaches its effect, whose steps keep to the lane. -/
theorem clearLatchStopAndSetSpeedAct : Obligations.ClearLatchStopAndSetSpeedAct := by
  unfold Obligations.ClearLatchStopAndSetSpeedAct
  intro mine
  refine ⟨fun s c n ⟨admitted, named, own⟩ rest => ?_, fun s c n m ⟨admitted, named, own⟩ rest mode => ?_,
    fun s c n ⟨admitted, named, own⟩ rest steers => ?_⟩
  · intro a v
    have owner : v.laneOwner n = some c.pitch := by
      simp only [State.ownsLane, Bool.and_eq_true, decide_eq_true_eq] at own
      exact own.1
    refine ⟨fun clear => ?_, fun latched source => ?_, fun src latched source => ?_⟩
    · exact State.laneRow_of_done rfl admitted named own rest (State.laneClearLatch_clear a clear)
    · exact ⟨_, State.laneRow_of_done rfl admitted named own rest (State.laneClearLatch_free a latched source),
        (LaneStep.clearLatch n v _).laneOnly, v.clearLatch_spec n _⟩
    · have clear : ((v.modLn n Lane.unlatch).ln n).latch.latched = false := by rw [State.ln_modLn]; rfl
      obtain ⟨set, rest'⟩ := (v.modLn n Lane.unlatch).setLatch_spec n src v.now
      obtain ⟨code, stopped⟩ := rest' clear
      exact ⟨_, State.laneRow_of_done rfl admitted named own rest (State.laneClearLatch_asserted a latched source),
        (((LaneStep.refl n v).modLn _).setLatch src _).laneOnly, set, code, stopped,
        (v.modLn n Lane.unlatch).setLatch_told n src v.now clear owner⟩
  · intro a v
    refine ⟨fun running => ?_, fun halted idle => ?_, fun halted waiting => ?_⟩
    · exact ⟨_, State.laneRow_of_long rfl admitted named own rest (State.laneStop_running mode running),
        ((LaneStep.refl n v).beginStop ..).laneOnly, v.beginStop_state n _ m false _ 1 false running⟩
    · have effect := State.laneStop_halted (s := v) (a := a) mode halted
      rw [if_neg (show ¬ (v.ln n).gate.waiting = true from ne_true_of_eq_false idle)] at effect
      exact State.laneRow_of_done rfl admitted named own rest effect
    · have effect := State.laneStop_halted (s := v) (a := a) mode halted
      rw [if_pos (show (v.ln n).gate.waiting = true from waiting)] at effect
      exact ⟨_, State.laneRow_of_done rfl admitted named own rest effect, ((LaneStep.refl n v).endPinWait _).laneOnly,
        v.endPinWait_waiting n _ halted, v.endPinWait_com n _⟩
  · intro a w
    have effect := State.laneSetSpeed_steerable (s := s.taken .laneSetSpeed c) (a := a) (n := n) steers
    refine ⟨fun ok => ?_, fun bad => ?_⟩
    · exact State.laneRow_of_done rfl admitted named own rest (effect.trans (if_pos ok))
    · exact State.laneRow_of_done rfl admitted named own rest (effect.trans (if_neg (ne_true_of_eq_false bad)))

end Sys2Proof.Machine
end


section
/-! SUPPORT. The measurements and tests of a quiet lane, from their start to their end (R397 to R401, R430 to R432, R475 to R483). -/

namespace Sys2Proof.Machine

set_option Elab.async false

variable {s : State} {n : LaneIx}

/-! ### A start that passes its checks -/

theorem firstFail_none {l : List (Bool × Byte × Nat)} (all : ∀ x ∈ l, x.1 = true) : firstFail l = none := by
  induction l with
  | nil => rfl
  | cons x l ih =>
    obtain ⟨ok, st, r⟩ := x
    have holds : ok = true := all _ (List.mem_cons_self ..)
    subst holds
    exact ih fun y mem => all y (List.mem_cons_of_mem _ mem)

theorem State.laneCalibrate_passed (a : Applied) (halted : (s.ln n).running = false) (free : s.laneBusy n = false)
    (root : s.clk.rootOk = true) (floated : (s.ln n).floated s.now = true) (quiet : (s.ln n).quiet s.now = true) :
    s.laneCalibrate n a = ((s.markApplied n true).startMeasure n { what := a, kind := .calibrate }, none) := by
  unfold State.laneCalibrate
  dsimp only
  rw [firstFail_none (by simp [State.quietChecks, *])]

theorem State.laneReseat_passed (a : Applied) (halted : (s.ln n).running = false) (free : s.laneBusy n = false)
    (root : s.clk.rootOk = true) (floated : (s.ln n).floated s.now = true) (quiet : (s.ln n).quiet s.now = true)
    (consistent : (s.ln n).com.staged.bad = false) : s.laneReseat n a =
      ((s.markApplied n true).startMeasure n { what := a, kind := .reseat, profile := (s.ln n).com.staged }, none) := by
  unfold State.laneReseat
  dsimp only
  rw [firstFail_none (by simp [State.quietChecks, *])]

/-- What an off-state diagnosis starts with: readings of its own, and the rail's reading. -/
def State.diagStarted (s : State) (n : LaneIx) (a : Applied) : State :=
  ((s.markApplied n true).modLn n fun l => { l with gate := { l.gate with diagNew := Vector.replicate 4 {} } }).startMeasure n
    { what := a, kind := .diag 0, vb := s.railTenths n }

theorem State.laneDiag_passed (a : Applied) (halted : (s.ln n).running = false) (free : s.laneBusy n = false)
    (root : s.clk.rootOk = true) (floated : (s.ln n).floated s.now = true) (quiet : (s.ln n).quiet s.now = true)
    (mode : bits a.cmd.desc.w3 0 2 ≠ 3) (unused : bits a.cmd.desc.w3 2 14 = 0) (rest : restZero a.cmd.desc 1 = true)
    (serial : (s.ln n).pin = false) (rail : s.railOut n = false) (vgd : s.pwr.vgdOk = true) :
    s.laneDiag n a = (s.diagStarted n a, none) := by
  unfold State.laneDiag
  dsimp only
  rw [firstFail_none (by simp [State.quietChecks, *])]
  rfl

theorem State.laneSelftest_passed (a : Applied) (halted : (s.ln n).running = false) (serial : (s.ln n).pin = false)
    (free : s.laneBusy n = false) (root : s.clk.rootOk = true) (off : (s.ln n).allOff = true) :
    s.laneSelftest n a = ((s.markApplied n true).startMeasure n { what := a, kind := .selftest }, none) := by
  unfold State.laneSelftest
  dsimp only
  rw [firstFail_none (by simp [*])]

/-! ### The end of a measurement -/

/-- The verdict of R397 and R398 on a mean of samples: 0 passes. -/
def State.offsetReason (s : State) (n : LaneIx) (m : Measuring) (mean : Int) : Nat :=
  if m.disturbed then 2 else if 327 < (mean - 512).natAbs then 3
  else if 122 < (mean - 512 - s.factoryOffset n (s.ln n).sense.set.live.gain).natAbs then 4 else 0

/-- A measurement that ended with this verdict and this mean. -/
def State.offsetEnded (s : State) (n : LaneIx) (m : Measuring) (mean : Int) (reason : Nat) : State :=
  s.modLn n fun l => { l with
    ops := { l.ops with measure := some { m with ended := some (reason == 0), offset := mean - 512 } }
    sense := { l.sense with
      calReason := BitVec.ofNat 3 reason
      calMean := if reason = 2 then l.sense.calMean else BitVec.ofInt 12 mean } }

theorem offsetMeasured_eq {m : Measuring} (measure : (s.ln n).ops.measure = some m) (kind : m.kind = .calibrate ∨ m.kind = .reseat)
    (running : m.ended = none) (sum : Nat) {mean : Int} {reason : Nat} (hmean : roundHalfAway sum 64 = mean)
    (hreason : s.offsetReason n m mean = reason) : exec (.offsetMeasured n sum) s = .next (
      if reason = 2 then (s.offsetEnded n m mean reason).finish m.what stCalCondition 0 0 2 0
      else (s.offsetEnded n m mean reason).finish m.what (if reason = 0 then stOk else stCalCondition) (sword mean)
        (sword (mean - 512)) (word reason) 0) := by
  change execOffsetMeasured n sum s = _
  unfold execOffsetMeasured
  dsimp only
  rw [measure]
  dsimp only
  rw [if_pos ⟨kind, running⟩, hmean, show (if m.disturbed = true then 2 else if 327 < (mean - 512).natAbs then 3
    else if 122 < (mean - 512 - s.factoryOffset n (s.ln n).sense.set.live.gain).natAbs then 4 else 0) = reason from hreason]
  by_cases disturbed : reason = 2
  · rw [if_pos disturbed, if_pos disturbed]
    rfl
  · rw [if_neg disturbed, if_neg disturbed]
    by_cases pass : reason = 0
    · subst pass
      rfl
    · rw [if_neg pass, if_neg (by simpa using pass)]
      rfl

theorem diagStepEnd_eq {m : Measuring} {k : Fin 4} (measure : (s.ln n).ops.measure = some m) (kind : m.kind = .diag k)
    (running : m.ended = none) (u v w : BitVec 10) : exec (.diagStepEnd n u v w) s =
      let r := vset (s.ln n).gate.diagNew k ⟨u, v, w⟩
      let s := s.modLn n fun l => { l with gate := { l.gate with diagNew := r } }
      if h : k.val < 3 then
        .next (s.modLn n fun l => { l with ops := { l.ops with measure := some { m with kind := .diag ⟨k.val + 1, by omega⟩ } } })
      else if m.disturbed then
        .next ((s.modLn n fun l => { l with ops := { l.ops with measure := some { m with ended := some false } } }).finish m.what
          stCalCondition 0 0 2 0)
      else
        .next ((s.modLn n fun l => { l with ops := { l.ops with
          measure := some { m with ended := some true, cmp := verdict r m.vb.toNat } } }).finish m.what stOk
            (word (verdict r m.vb.toNat).toNat) (word m.vb.toNat) 0 0) := by
  change execDiagStepEnd n u v w s = _
  unfold execDiagStepEnd
  simp only [measure, kind, running]

theorem selftestEnd_eq {m : Measuring} (measure : (s.ln n).ops.measure = some m) (kind : m.kind = .selftest) (running : m.ended = none)
    (cmp : BitVec 7) (vds : BitVec 6) : exec (.selftestEnd n cmp vds) s = .next ((s.modLn n fun l =>
      { l with ops := { l.ops with measure := some { m with ended := some true, cmp := cmp, vds := vds } } }).finish m.what stOk
        (word cmp.toNat) (word vds.toNat) 0 0) := by
  change execSelftestEnd n cmp vds s = _
  unfold execSelftestEnd
  rw [measure]
  exact if_pos ⟨kind, running⟩

/-- Settles O30: a start passes every check of its list; each end is its row. -/
theorem laneMeasurementsStartAndEnd : Obligations.LaneMeasurementsStartAndEnd := by
  unfold Obligations.LaneMeasurementsStartAndEnd
  intro quiet mine started
  refine ⟨?_, ?_, ?_, ?_, ?_, ?_, ?_⟩
  · rintro s c n ⟨admitted, named, own⟩ rest ⟨halted, free, root, floated, still⟩
    exact State.laneRow_of_long rfl admitted named own rest (State.laneCalibrate_passed _ halted free root floated still)
  · rintro s c n ⟨admitted, named, own⟩ rest ⟨halted, free, root, floated, still⟩ consistent
    exact State.laneRow_of_long rfl admitted named own rest (State.laneReseat_passed _ halted free root floated still consistent)
  · rintro s c n ⟨admitted, named, own⟩ ⟨halted, free, root, floated, still⟩ mode unused rest serial rail vgd
    exact State.laneRow_of_long rfl admitted named own (k := 5) rfl
      (State.laneDiag_passed _ halted free root floated still mode unused rest serial rail vgd)
  · rintro s c n ⟨admitted, named, own⟩ rest halted serial free root off
    exact State.laneRow_of_long rfl admitted named own rest (State.laneSelftest_passed _ halted serial free root off)
  · intro s n sum m measure kind running mean off reason u
    exact offsetMeasured_eq measure kind running sum rfl rfl
  · intro s n u v w m k measure kind running r
    have row := diagStepEnd_eq measure kind running u v w
    dsimp only at row
    have k4 := k.isLt
    by_cases more : k.val < 3
    · refine ⟨_, row.trans (dif_pos more), ?_, (((LaneStep.refl n s).modLn _).modLn _).laneOnly, fun _ => ⟨⟨k.val + 1, by omega⟩, rfl, ?_, rfl⟩,
        fun last => absurd last (by omega), fun last => absurd last (by omega)⟩
      · rw [State.ln_modLn, State.ln_modLn]
      · rw [State.ln_modLn, State.ln_modLn]
    · have last := row.trans (dif_neg more)
      by_cases disturbed : m.disturbed = true
      · rw [if_pos disturbed] at last
        refine ⟨_, last, ?_, ((((LaneStep.refl n s).modLn _).modLn _).finish ..).laneOnly, fun h => absurd h more,
          fun _ h => absurd (h.symm.trans disturbed) (by decide), fun _ _ => ⟨?_, rfl⟩⟩
        · simp only [State.ln_finish, State.ln_modLn, r]
        · simp only [State.ln_finish, State.ln_modLn]
      · rw [if_neg disturbed] at last
        refine ⟨_, last, ?_, ((((LaneStep.refl n s).modLn _).modLn _).finish ..).laneOnly, fun h => absurd h more,
          fun _ _ => ⟨?_, rfl⟩, fun _ h => absurd h disturbed⟩
        · simp only [State.ln_finish, State.ln_modLn, r]
        · simp only [State.ln_finish, State.ln_modLn, r]
  · intro s n cmp vds m measure kind running
    exact selftestEnd_eq measure kind running cmp vds

end Sys2Proof.Machine
end


section
/-! SUPPORT. The course of one lane: what starts, periods, rows, stalls and stops keep of its commutation. -/

namespace Sys2Proof.Machine

set_option Elab.async false

variable {s : State} {n : LaneIx}

/-! ### What every operation of a course keeps -/

/-- A lane keeps its direction, its target where none waits, its profile, its stalls and its retries, and enters no retry wait. -/
structure Lane.Course (l k : Lane) : Prop where
  dir : k.com.dir = l.com.dir
  profile : k.com.profile = l.com.profile
  stalls : k.com.stallCount = l.com.stallCount
  target : l.com.targetNext = none → k.com.target = l.com.target ∧ k.com.targetNext = none
  retries : k.gate.retries = l.gate.retries
  waiting : l.gate.waiting = false → k.gate.waiting = false

namespace Lane.Course
variable {l k m : Lane}

theorem refl (l : Lane) : Course l l := ⟨rfl, rfl, rfl, fun h => ⟨rfl, h⟩, rfl, id⟩

theorem trans (h : Course l k) (j : Course k m) : Course l m where
  dir := j.dir.trans h.dir
  profile := j.profile.trans h.profile
  stalls := j.stalls.trans h.stalls
  target none := by
    obtain ⟨same, none⟩ := h.target none
    obtain ⟨same', none⟩ := j.target none
    exact ⟨same'.trans same, none⟩
  retries := j.retries.trans h.retries
  waiting idle := j.waiting (h.waiting idle)

theorem of_eq (com : k.com = l.com) (retries : k.gate.retries = l.gate.retries) (waiting : k.gate.waiting = l.gate.waiting) :
    Course l k where
  dir := by rw [com]
  profile := by rw [com]
  stalls := by rw [com]
  target none := by
    rw [com]
    exact ⟨rfl, none⟩
  retries := retries
  waiting idle := waiting.trans idle

end Lane.Course

theorem Lane.course_setBridges (l : Lane) (bs : Vector HalfBridge 3) (k : Nat) : l.Course (l.setBridges bs k) := .of_eq rfl rfl rfl

namespace State

theorem course_modLn (s : State) (n : LaneIx) {f : Lane → Lane} (h : (s.ln n).Course (f (s.ln n))) :
    (s.ln n).Course ((s.modLn n f).ln n) := by
  rw [ln_modLn]
  exact h

theorem course_drive (s : State) (n : LaneIx) (t : Ticks) : (s.ln n).Course ((s.drive n t).ln n) := by
  obtain ⟨bs, k, h⟩ := s.ln_drive n t
  rw [h]
  exact Lane.course_setBridges ..

theorem course_gatesOff (s : State) (n : LaneIx) (t : Ticks) : (s.ln n).Course ((s.gatesOff n t).ln n) := by
  obtain ⟨bs, h⟩ := s.ln_gatesOff n t
  rw [h]
  exact Lane.course_setBridges ..

theorem ln_countTrip (s : State) (n : LaneIx) (i : Nat) : (s.countTrip n i).ln n = { s.ln n with
    sense := { (s.ln n).sense with tripCount := satInc (s.ln n).sense.tripCount }
    gate := { (s.ln n).gate with
      rowCurrent := (s.ln n).gate.rowCurrent || i == 0
      rowMeasured := (s.ln n).gate.rowMeasured
      periodSeen := (s.ln n).gate.periodSeen || i == 0 } } := by
  unfold countTrip
  dsimp only
  rw [ln_traceLane, ln_count, ln_modLn]

theorem course_countTrip (s : State) (n : LaneIx) (i : Nat) : (s.ln n).Course ((s.countTrip n i).ln n) := by
  rw [ln_countTrip]
  exact .of_eq rfl rfl rfl

theorem course_drivePins (s : State) (n : LaneIx) (t : Ticks) : (s.ln n).Course ((s.drivePins n t).ln n) := by
  refine Lane.Course.trans (k := (s.pinGuard n).ln n) ?_ (course_drive ..)
  rcases s.pinGuard_cases n with h | ⟨i, bs, h⟩ <;> rw [h]
  · exact .refl _
  · exact (s.course_countTrip n i).trans (course_modLn _ n (.of_eq rfl rfl rfl))

theorem course_laneState (s : State) (n : LaneIx) (st : LaneState) : (s.ln n).Course ((s.laneState n st).ln n) := by
  rw [ln_laneState]
  exact ⟨rfl, rfl, rfl, fun h => ⟨rfl, h⟩, rfl, id⟩

theorem course_endStart (s : State) (n : LaneIx) (o : Word) : (s.ln n).Course ((s.endStart n o).ln n) := by
  rw [ln_endStart]
  exact .of_eq rfl rfl rfl

theorem course_toStopped (s : State) (n : LaneIx) (t : Ticks) : (s.ln n).Course ((s.toStopped n t).ln n) := by
  obtain ⟨bs, k, bs', k', h⟩ := s.ln_toStopped n t
  rw [h]
  exact ⟨rfl, rfl, rfl, fun _ => ⟨rfl, rfl⟩, rfl, fun _ => rfl⟩

theorem course_forceSafe (s : State) (n : LaneIx) (t : Ticks) (o : Word) (g : Lane → Lane)
    (h : ∀ l : Lane, l.Course (g l)) : (s.ln n).Course ((s.forceSafe n t o fun s => s.modLn n g).ln n) := by
  unfold forceSafe
  dsimp only
  generalize hv : ((s.endStart n o).modLn n g).modLn n (Lane.force (s.forced n) t) = v
  have forced : (s.ln n).Course (v.ln n) := by
    rw [← hv]
    exact (s.course_endStart n o).trans ((course_modLn _ n (h _)).trans
      (course_modLn _ n ⟨rfl, rfl, rfl, fun h => ⟨rfl, h⟩, rfl, fun _ => rfl⟩))
  split
  · exact forced.trans (course_toStopped ..)
  · split
    · exact forced.trans (course_drive ..)
    · exact forced.trans ((course_gatesOff ..).trans (course_drive ..))

theorem course_setLatch (s : State) (n : LaneIx) (src : Byte) (t : Ticks) : (s.ln n).Course ((s.setLatch n src t).ln n) := by
  unfold setLatch
  split
  · exact .refl _
  · rw [ln_traceLane, ln_laneEvent]
    exact (course_modLn s n (.of_eq rfl rfl rfl)).trans (course_forceSafe (s.latchTask n t) n t _ _ fun _ => .of_eq rfl rfl rfl)

/-! ### Battens in force, and the carrier period -/

/-- An armed set of the carrier or of the mask takes force and touches nothing else of the lane. -/
theorem takeCarrier_keeps (s : State) (n : LaneIx) : ((s.takeCarrier n).ln n).com = (s.ln n).com ∧
    ((s.takeCarrier n).ln n).gate = (s.ln n).gate ∧ ((s.takeCarrier n).ln n).ops = (s.ln n).ops := by
  unfold takeCarrier
  split <;> simp

theorem takeMask_keeps (s : State) (n : LaneIx) : ((s.takeMask n).ln n).com = (s.ln n).com ∧
    ((s.takeMask n).ln n).gate = (s.ln n).gate ∧ ((s.takeMask n).ln n).ops = (s.ln n).ops ∧
    ((s.takeMask n).ln n).sense = (s.ln n).sense := by
  unfold takeMask
  split <;> simp

theorem takeSense_keeps (s : State) (n : LaneIx) : ((s.takeSense n).ln n).com = (s.ln n).com ∧
    ((s.takeSense n).ln n).gate = (s.ln n).gate ∧ ((s.takeSense n).ln n).ops = (s.ln n).ops := by
  unfold takeSense
  split
  · simp only [ln_traceLane, ln_modLn, Lane.takeLimit, and_self]
  · exact ⟨rfl, rfl, rfl⟩

theorem takeGate_keeps (s : State) (n : LaneIx) (t : Ticks) : ((s.takeGate n t).ln n).com = (s.ln n).com ∧
    (s.ln n).Course ((s.takeGate n t).ln n) ∧ ((s.takeGate n t).ln n).ops = (s.ln n).ops := by
  unfold takeGate
  split
  · dsimp only
    split
    · refine ⟨by simp, ?_, by simp⟩
      refine Lane.Course.trans ?_ ((course_gatesOff ..).trans (course_drivePins ..))
      rw [ln_traceLane]
      exact course_modLn _ n (.of_eq rfl rfl rfl)
    · refine ⟨by simp, ?_, by simp⟩
      rw [ln_traceLane]
      exact course_modLn _ n (.of_eq rfl rfl rfl)
  · exact ⟨rfl, .refl _, rfl⟩

theorem openCounters_ln (s : State) (n : LaneIx) : (s.openCounters n).ln n = (s.ln n).openSet := by
  unfold openCounters
  dsimp only
  split
  all_goals
    split
    all_goals simp only [ln_laneEvent, ln_count, ln_modLn]

theorem endOn_keeps (s : State) (n : LaneIx) (t : Ticks) (trip : Bool) : ((s.endOn n t trip).ln n).com = (s.ln n).com ∧
    ((s.endOn n t trip).ln n).gate = (s.ln n).gate ∧ ((s.endOn n t trip).ln n).ops = (s.ln n).ops := by
  unfold endOn
  simp

end State

/-- The target that waits takes force. -/
def LaneCommut.retarget (x : LaneCommut) : LaneCommut := { x with target := x.targetNext.getD x.target, targetNext := none }

theorem Lane.course_retarget {l k : Lane} (com : k.com = l.com.retarget) (retries : k.gate.retries = l.gate.retries)
    (waiting : l.gate.waiting = false → k.gate.waiting = false) : l.Course k where
  dir := by rw [com]; rfl
  profile := by rw [com]; rfl
  stalls := by rw [com]; rfl
  target none := by
    rw [com, LaneCommut.retarget, none]
    exact ⟨rfl, rfl⟩
  retries := retries
  waiting := waiting

namespace State

/-- What takes force as a period begins, before the period itself. -/
theorem periodTaken_keeps (s : State) (n : LaneIx) (act : Ticks) :
    let v := ((((s.takeCarrier n).takeSense n).takeGate n act).modLn n Lane.takeLimit).openCounters n
    (v.ln n).com = (s.ln n).com ∧ (s.ln n).Course (v.ln n) ∧ (v.ln n).ops = (s.ln n).ops := by
  intro v
  obtain ⟨com1, gate1, ops1⟩ := s.takeCarrier_keeps n
  obtain ⟨com2, gate2, ops2⟩ := (s.takeCarrier n).takeSense_keeps n
  obtain ⟨com3, course3, ops3⟩ := ((s.takeCarrier n).takeSense n).takeGate_keeps n act
  have lane : v.ln n = ((((s.takeCarrier n).takeSense n).takeGate n act).ln n).takeLimit.openSet := by
    rw [openCounters_ln, ln_modLn]
  clear_value v
  rw [lane]
  generalize (((s.takeCarrier n).takeSense n).takeGate n act).ln n = l at com3 course3 ops3
  refine ⟨com3.trans (com2.trans com1), ?_, ops3.trans (ops2.trans ops1)⟩
  refine Lane.Course.trans (.of_eq (com2.trans com1) ?_ ?_) (course3.trans (.of_eq rfl rfl rfl))
  · rw [gate2, gate1]
  · rw [gate2, gate1]

/-- A period takes the target that waits, and keeps the rest of the commutation and the operations. -/
theorem startPeriod_keeps (s : State) (n : LaneIx) (start act : Ticks) :
    ((s.startPeriod n start act).ln n).com = (s.ln n).com.retarget ∧ (s.ln n).Course ((s.startPeriod n start act).ln n) ∧
    ((s.startPeriod n start act).ln n).ops = (s.ln n).ops := by
  obtain ⟨com, course, ops⟩ := s.periodTaken_keeps n act
  unfold startPeriod
  dsimp only at com course ops ⊢
  generalize ((((s.takeCarrier n).takeSense n).takeGate n act).modLn n Lane.takeLimit).openCounters n = v at com course ops ⊢
  generalize hw : (v.modLn n (Lane.periodSet start act v.clk.runThrough)).count 0x07 n.val = w
  have lane : w.ln n = (v.ln n).periodSet start act v.clk.runThrough := by rw [← hw, ln_count, ln_modLn]
  have com' : (w.ln n).com = (s.ln n).com.retarget := by
    rw [lane, ← com]
    rfl
  have ops' : (w.ln n).ops = (s.ln n).ops := by
    rw [lane, ← ops]
    rfl
  have course' : (s.ln n).Course (w.ln n) := course.trans (Lane.course_retarget (lane ▸ rfl) (lane ▸ rfl) (lane ▸ id))
  split
  · split
    · obtain ⟨com4, gate4, ops4⟩ := (w.countTrip n ‹_›).endOn_keeps n act true
      rw [ln_countTrip] at com4 gate4 ops4
      exact ⟨com4.trans com', course'.trans (.of_eq com4 (by rw [gate4]) (by rw [gate4])), ops4.trans ops'⟩
    · exact ⟨(drive_com ..).trans com', course'.trans (course_drive ..), (drive_ops ..).trans ops'⟩
  · exact ⟨(drive_com ..).trans com', course'.trans (course_drive ..), (drive_ops ..).trans ops'⟩

/-- A lane's first period, or its gates in the period in progress. -/
theorem begins_keeps (s : State) (n : LaneIx) (t : Ticks) (fresh : Bool) :
    (((s.begins n t fresh).ln n).com = (s.ln n).com.retarget ∨ ((s.begins n t fresh).ln n).com = (s.ln n).com) ∧
    (s.ln n).Course ((s.begins n t fresh).ln n) ∧ ((s.begins n t fresh).ln n).ops = (s.ln n).ops := by
  unfold begins
  split
  · obtain ⟨com, rest⟩ := s.startPeriod_keeps n t t
    exact ⟨.inl com, rest⟩
  · exact ⟨.inr (drive_com ..), course_drive .., drive_ops ..⟩

/-! ### A row of the mask -/

/-- The verdict on a row is kept beside the commutation. -/
theorem judgeRow_ln (s : State) (n : LaneIx) (row : Word) (measured current : Bool) :
    (s.judgeRow n row measured current).ln n = (s.ln n).judged row measured current := by
  unfold judgeRow
  dsimp only
  split
  · rw [ln_modLn]
  · rw [ln_laneEvent, ln_modLn]

/-- The watch for open windings is all that the end of a row changes. -/
theorem openRow_ln (s : State) (n : LaneIx) : ∃ g : LaneGate, (s.openRow n).ln n = { s.ln n with gate := g } ∧
    g.retries = (s.ln n).gate.retries ∧ g.waiting = (s.ln n).gate.waiting ∧ g.set = (s.ln n).gate.set := by
  unfold openRow
  dsimp only
  split
  · exact ⟨_, ln_modLn .., rfl, rfl, rfl⟩
  · rw [ln_modLn, judgeRow_ln]
    exact ⟨_, rfl, rfl, rfl, rfl⟩

end State

/-- An armed COMMUT set in force (R450). -/
def LaneCommut.takeSet (x : LaneCommut) : LaneCommut :=
  { x with set := { x.set with live := x.set.armed.getD x.set.live, armed := none } }

/-- A row becomes active (R414, R450). -/
def LaneCommut.rowed (t : Ticks) (x : LaneCommut) : LaneCommut :=
  { x.takeSet with blankNow := x.takeSet.blankShown t, rowStart := t, blankEnd := none, zcSamples := 0, crossed := false }

namespace State

theorem takeCommut_ln (s : State) (n : LaneIx) : (s.takeCommut n).ln n = { s.ln n with com := (s.ln n).com.takeSet } := by
  unfold takeCommut
  split
  · next x armed =>
    rw [ln_traceLane, ln_modLn, LaneCommut.takeSet, armed]
    rfl
  · next unarmed =>
    rw [LaneCommut.takeSet, unarmed]
    show s.ln n = { s.ln n with com := { (s.ln n).com with set := { (s.ln n).com.set with armed := none } } }
    rw [← unarmed]

/-- What a row that becomes active leaves of the lane. -/
theorem enterRow_spec (s : State) (n : LaneIx) (row : Fin 6) (t act : Ticks) :
    let u := s.enterRow n row t act
    (u.ln n).com = (s.ln n).com.rowed t ∧ (u.ln n).car.row = row ∧ (u.ln n).ops = (s.ln n).ops ∧
    (u.ln n).sense.ilimEff = (s.ln n).sense.ilimEff ∧ (s.ln n).Course (u.ln n) := by
  intro u
  obtain ⟨g, open_, retries, waiting, -⟩ := s.openRow_ln n
  obtain ⟨com, gate, ops, sense⟩ := (s.openRow n).takeMask_keeps n
  rw [open_] at com gate ops sense
  obtain ⟨bs, k, driven⟩ := State.ln_drive ((((s.openRow n).takeMask n).takeCommut n).modLn n (Lane.rowSet row t)) n act
  have lane : u.ln n = (({ ((s.openRow n).takeMask n).ln n with com := (s.ln n).com.takeSet }).rowSet row t).setBridges bs k := by
    refine driven.trans ?_
    rw [ln_modLn, takeCommut_ln, com]
  have com' : (u.ln n).com = (s.ln n).com.rowed t := by
    rw [lane]
    rfl
  have gate' : (u.ln n).gate = g := by
    rw [lane]
    exact gate
  refine ⟨com', ?_, ?_, ?_, ?_⟩
  · rw [lane]
    rfl
  · rw [lane]
    exact ops
  · rw [lane]
    unfold Lane.setBridges
    dsimp only [Lane.rowSet]
    rw [sense]
    split <;> rfl
  · exact ⟨by rw [com']; rfl, by rw [com']; rfl, by rw [com']; rfl, fun none => by rw [com']; exact ⟨rfl, none⟩,
      by rw [gate', retries], fun idle => by rw [gate', waiting, idle]⟩

/-- A commutation event: the next row, with the set, the blanking and the crossing of a new row. -/
theorem commutate_spec (s : State) (n : LaneIx) (t act : Ticks) :
    let u := s.commutate n t act
    (u.ln n).com = (s.ln n).com.rowed t ∧ (u.ln n).car.row = nextRow (s.ln n).com.dir (s.ln n).car.row ∧
    (u.ln n).ops = (s.ln n).ops ∧ (u.ln n).sense.ilimEff = (s.ln n).sense.ilimEff ∧ (s.ln n).Course (u.ln n) := by
  intro u
  have lane : u.ln n = (s.enterRow n (nextRow (s.ln n).com.dir (s.ln n).car.row) t act).ln n := by
    show State.ln (State.commutate s n t act) n = _
    unfold commutate
    dsimp only
    rw [ln_traceLane, ln_count]
  rw [lane]
  exact s.enterRow_spec n _ t act

/-! ### A stall -/

end State

/-- A stall counted (R438). -/
def Lane.stalled (l : Lane) : Lane := { l with com := { l.com with stallCount := satInc l.com.stallCount } }

namespace State

/-- A stall is counted, and leaves a restart wait or the latch. -/
theorem stall_spec (s : State) (n : LaneIx) (t : Ticks) : (s.ln n).stalled.Course ((s.stall n t).ln n) ∧
    (((s.stall n t).ln n).com.state = .restartWait ∨ ((s.stall n t).ln n).latch.latched = true) := by
  unfold stall
  dsimp only
  generalize hv : State.count _ 0x04 n.val = v
  obtain ⟨bs, off⟩ := s.ln_gatesOff n t
  have lane : v.ln n = ((s.ln n).setBridges bs 0).stalled := by
    rw [← hv, ln_count, ln_modLn, off]
    rfl
  have counted : (s.ln n).stalled.Course (v.ln n) := by
    rw [lane]
    exact .of_eq rfl rfl rfl
  split
  · exact ⟨counted.trans (course_setLatch ..), .inr (setLatch_spec ..).1⟩
  · refine ⟨counted.trans (Lane.Course.trans ?_ (course_laneState ..)), .inl ?_⟩
    · rw [ln_laneEvent]
      exact course_modLn _ n ⟨rfl, rfl, rfl, fun h => ⟨rfl, h⟩, rfl, id⟩
    · rw [ln_laneState]

/-! ### Open-loop events -/

end State

/-- What an open-loop event leads to, by the entries left and HO_LIMIT (R422, R425): the next row in RAMP, in HANDOVER, or a stall. -/
structure Lane.Stepped (l k : Lane) : Prop where
  ramp : l.com.entry < l.com.profile.steps → k.com.state = .ramp ∧ k.car.row = nextRow l.com.dir l.car.row ∧ l.Course k
  handover : l.com.profile.steps ≤ l.com.entry → 0 < bits l.com.profile.hoLimit 0 8 →
    k.com.state = .handover ∧ k.car.row = nextRow l.com.dir l.car.row ∧ l.Course k
  stall : l.com.profile.steps ≤ l.com.entry → bits l.com.profile.hoLimit 0 8 = 0 → l.stalled.Course k

theorem Lane.course_rampSet (l : Lane) : l.Course l.rampSet := ⟨rfl, rfl, rfl, fun h => ⟨rfl, h⟩, rfl, id⟩

namespace State

/-- An open-loop event in its lane's row, once no stall comes. -/
theorem rampRow_spec (s : State) (n : LaneIx) (t act : Ticks) :
    let u := (s.modLn n Lane.rampSet).commutate n t act
    (u.ln n).com = (s.ln n).rampSet.com.rowed t ∧ (u.ln n).car.row = nextRow (s.ln n).com.dir (s.ln n).car.row ∧
    (s.ln n).Course (u.ln n) := by
  intro u
  obtain ⟨com, row, -, -, course⟩ := (s.modLn n Lane.rampSet).commutate_spec n t act
  rw [ln_modLn] at com row course
  exact ⟨com, row, (Lane.course_rampSet _).trans course⟩

theorem rampEvent_stall {t act : Ticks} (state : (s.ln n).com.state = .handover)
    (limit : bits (s.ln n).com.profile.hoLimit 0 8 ≤ (s.ln n).com.hoCount) : s.rampEvent n t act = s.stall n t := by
  have stays : s.toHandover n = s := if_neg fun h => by simp [state] at h
  unfold rampEvent
  dsimp only
  rw [stays]
  exact if_pos ⟨state, limit⟩

theorem rampEvent_row {t act : Ticks} (stays : s.toHandover n = s)
    (below : ¬ ((s.ln n).com.state = .handover ∧ bits (s.ln n).com.profile.hoLimit 0 8 ≤ (s.ln n).com.hoCount)) :
    s.rampEvent n t act = (s.modLn n Lane.rampSet).commutate n t act := by
  unfold rampEvent
  dsimp only
  rw [stays]
  exact if_neg below

/-- An open-loop event of RAMP. -/
theorem rampEvent_stepped (t act : Ticks) (state : (s.ln n).com.state = .ramp) : (s.ln n).Stepped ((s.rampEvent n t act).ln n) := by
  by_cases left : (s.ln n).com.entry < (s.ln n).com.profile.steps
  · have stays : s.toHandover n = s := if_neg fun h => absurd h.2 (by omega)
    refine ⟨fun _ => ?_, fun none => absurd left (by omega), fun none => absurd left (by omega)⟩
    rw [rampEvent_row stays (by simp [state])]
    obtain ⟨com, row, course⟩ := s.rampRow_spec n t act
    exact ⟨by rw [com]; exact state, row, course⟩
  · let w := (s.modLn n Lane.handoverSet).laneState n .handover
    have enters : s.toHandover n = w := if_pos ⟨state, by omega⟩
    have lane : w.ln n = { (s.ln n).handoverSet with com := { (s.ln n).handoverSet.com with state := .handover } } := by
      rw [ln_laneState, ln_modLn]
    have course : (s.ln n).Course (w.ln n) := by
      rw [lane]
      exact ⟨rfl, rfl, rfl, fun h => ⟨rfl, h⟩, rfl, id⟩
    have event : s.rampEvent n t act =
        if 0 < bits (s.ln n).com.profile.hoLimit 0 8 then (w.modLn n Lane.rampSet).commutate n t act else w.stall n t := by
      unfold rampEvent
      dsimp only
      rw [enters, lane]
      dsimp only [Lane.handoverSet]
      by_cases limit : 0 < bits (s.ln n).com.profile.hoLimit 0 8
      · rw [if_pos limit]
        exact if_neg fun h => absurd h.2 (by omega)
      · rw [if_neg limit]
        exact if_pos ⟨rfl, by omega⟩
    rw [event]
    refine ⟨fun h => absurd h left, fun _ limit => ?_, fun _ none => ?_⟩
    · rw [if_pos limit]
      obtain ⟨com, row, rest⟩ := w.rampRow_spec n t act
      rw [lane] at com row
      exact ⟨by rw [com]; rfl, row, course.trans rest⟩
    · rw [if_neg (by omega)]
      refine Lane.Course.trans ?_ (w.stall_spec n t).1
      rw [lane]
      exact ⟨rfl, rfl, rfl, fun h => ⟨rfl, h⟩, rfl, id⟩

/-! ### Entering ALIGN, and RUN from the turning motor -/

end State

/-- A lane at the end of ALIGN with no row of the profile past: where an ALIGN_TIME of 0 leads on from. -/
def Lane.aligned (t : Ticks) (l : Lane) : Lane :=
  { l.alignSet t with com := { (l.alignSet t).com with state := .ramp } }

/-- What entering ALIGN leads to (R421): ALIGN in its row, or what follows it at once. -/
structure Lane.Aligns (l k : Lane) : Prop where
  align : bits l.com.profile.alignTime 0 8 ≠ 0 →
    k.com.state = .align ∧ k.car.row.val = l.com.profile.alignRow % 6 ∧ k.ops = l.ops ∧ l.Course k
  past : bits l.com.profile.alignTime 0 8 = 0 → ∀ t, ((l.aligned t).Stepped k)

theorem Lane.Stepped.of_eq {l m k : Lane} (h : l.Stepped k) (course : m.Course l) (entry : m.com.entry = l.com.entry)
    (row : m.car.row = l.car.row) : m.Stepped k := by
  have stalled : m.stalled.Course l.stalled := ⟨course.dir, course.profile, congrArg satInc course.stalls, course.target,
    course.retries, course.waiting⟩
  refine ⟨fun left => ?_, fun left limit => ?_, fun left limit => ?_⟩
  · obtain ⟨state, next, rest⟩ := h.ramp (by rw [course.profile, ← entry]; exact left)
    exact ⟨state, by rw [next, course.dir, row], course.trans rest⟩
  · obtain ⟨state, next, rest⟩ := h.handover (by rw [course.profile, ← entry]; exact left) (by rw [course.profile]; exact limit)
    exact ⟨state, by rw [next, course.dir, row], course.trans rest⟩
  · exact stalled.trans (h.stall (by rw [course.profile, ← entry]; exact left) (by rw [course.profile]; exact limit))

namespace State

@[simp] theorem drive_row (s : State) (n : LaneIx) (t : Ticks) : ((s.drive n t).ln n).car.row = (s.ln n).car.row := by
  obtain ⟨bs, k, h⟩ := s.ln_drive n t
  rw [h, Lane.setBridges_car]

@[simp] theorem gatesOff_row (s : State) (n : LaneIx) (t : Ticks) : ((s.gatesOff n t).ln n).car.row = (s.ln n).car.row := by
  obtain ⟨bs, h⟩ := s.ln_gatesOff n t
  rw [h, Lane.setBridges_car]

@[simp] theorem drivePins_row (s : State) (n : LaneIx) (t : Ticks) : ((s.drivePins n t).ln n).car.row = (s.ln n).car.row := by
  refine (drive_row ..).trans ?_
  rcases s.pinGuard_cases n with h | ⟨i, bs, h⟩ <;> rw [h]
  rw [ln_modLn, ln_countTrip]

theorem takeCarrier_row (s : State) (n : LaneIx) : ((s.takeCarrier n).ln n).car.row = (s.ln n).car.row := by
  unfold takeCarrier
  split <;> simp

theorem takeSense_row (s : State) (n : LaneIx) : ((s.takeSense n).ln n).car.row = (s.ln n).car.row := by
  unfold takeSense
  split
  · simp only [ln_traceLane, ln_modLn, Lane.takeLimit]
  · rfl

theorem takeGate_row (s : State) (n : LaneIx) (t : Ticks) : ((s.takeGate n t).ln n).car.row = (s.ln n).car.row := by
  unfold takeGate
  split
  · dsimp only
    split <;> simp
  · rfl

theorem startPeriod_row (s : State) (n : LaneIx) (start act : Ticks) :
    ((s.startPeriod n start act).ln n).car.row = (s.ln n).car.row := by
  have taken : (((((s.takeCarrier n).takeSense n).takeGate n act).modLn n Lane.takeLimit).openCounters n |>.ln n).car.row =
      (s.ln n).car.row := by
    have row := (takeGate_row ((s.takeCarrier n).takeSense n) n act).trans ((takeSense_row ..).trans (takeCarrier_row s n))
    rw [openCounters_ln, ln_modLn]
    generalize (((s.takeCarrier n).takeSense n).takeGate n act).ln n = l at row ⊢
    exact row
  unfold startPeriod
  dsimp only
  generalize ((((s.takeCarrier n).takeSense n).takeGate n act).modLn n Lane.takeLimit).openCounters n = v at taken ⊢
  generalize hw : (v.modLn n (Lane.periodSet start act v.clk.runThrough)).count 0x07 n.val = w
  have lane : (w.ln n).car.row = (s.ln n).car.row := by
    rw [← taken, ← hw, ln_count, ln_modLn]
    rfl
  split
  · split
    · rw [endOn, drive_row, ln_modLn, ln_countTrip]
      exact lane
    · rw [drive_row, lane]
  · rw [drive_row, lane]

theorem begins_row (s : State) (n : LaneIx) (t : Ticks) (fresh : Bool) : ((s.begins n t fresh).ln n).car.row = (s.ln n).car.row := by
  unfold begins
  split
  · exact startPeriod_row ..
  · exact drive_row ..

theorem enterAlign_aligns (s : State) (n : LaneIx) (t : Ticks) : (s.ln n).Aligns ((s.enterAlign n t).ln n) := by
  unfold enterAlign
  dsimp only
  generalize hw : (s.modLn n (Lane.alignSet t)).laneState n .align = w
  have lane : w.ln n = { (s.ln n).alignSet t with com := { ((s.ln n).alignSet t).com with state := .align } } := by
    rw [← hw, ln_laneState, ln_modLn]
  have course : (s.ln n).Course (w.ln n) := by
    rw [lane]
    exact ⟨rfl, rfl, rfl, fun h => ⟨rfl, h⟩, rfl, fun _ => rfl⟩
  generalize hv : w.begins n t (!(s.ln n).running) = v
  obtain ⟨com, rest, ops⟩ := w.begins_keeps n t (!(s.ln n).running)
  have row := w.begins_row n t (!(s.ln n).running)
  rw [hv] at com rest ops row
  have state : (v.ln n).com.state = .align := by
    rcases com with h | h
    · rw [h, lane]
      rfl
    · rw [h, lane]
  have entry : (v.ln n).com.entry = 0 := by
    rcases com with h | h
    · rw [h, lane]
      rfl
    · rw [h, lane]
      rfl
  have reached := course.trans rest
  refine ⟨fun time => ?_, fun time u => ?_⟩
  · rw [if_neg (by rw [reached.profile]; exact time)]
    exact ⟨state, by rw [row, lane]; rfl, by rw [ops, lane]; rfl, reached⟩
  · rw [if_pos (by rw [reached.profile]; exact time)]
    have ramped : (v.laneState n .ramp).ln n = { v.ln n with com := { (v.ln n).com with state := .ramp } } := ln_laneState ..
    have stepped := (v.laneState n .ramp).rampEvent_stepped (n := n) t t (by rw [ramped])
    have onward := v.course_laneState n .ramp
    refine stepped.of_eq ?_ ?_ ?_
    · exact ⟨onward.dir.trans reached.dir, onward.profile.trans reached.profile, onward.stalls.trans reached.stalls,
        fun h => (reached.trans onward).target h, onward.retries.trans reached.retries,
        fun _ => onward.waiting (rest.waiting (by rw [lane]; rfl))⟩
    · rw [ramped]
      exact entry.symm
    · rw [ramped]
      show (Lane.alignSet u _).car.row = _
      rw [row, lane]
      rfl

/-- RUN from the turning motor ends the start in progress. -/
theorem enterRunTurning_spec (s : State) (n : LaneIx) (t : Ticks) (row : Fin 6) (last t60 : Ticks) :
    let u := s.enterRunTurning n t row last t60
    (u.ln n).com.state = .run ∧ (u.ln n).ops.start = none ∧ (u.ln n).gate.waiting = false ∧ (s.ln n).Course (u.ln n) := by
  intro u
  generalize hw : (s.modLn n (Lane.turningSet t row last t60)).laneState n .run = w
  have lane : w.ln n = { (s.ln n).turningSet t row last t60 with com := { ((s.ln n).turningSet t row last t60).com with state := .run } } := by
    rw [← hw, ln_laneState, ln_modLn]
  obtain ⟨com, rest, ops⟩ := w.begins_keeps n t (!(s.ln n).running)
  have last : u.ln n = { (w.begins n t (!(s.ln n).running)).ln n with
      ops := { ((w.begins n t (!(s.ln n).running)).ln n).ops with start := none } } := by
    rw [← hw]
    exact ln_endStart ..
  clear_value u
  generalize w.begins n t (!(s.ln n).running) = v at com rest ops last
  have idle : (w.ln n).gate.waiting = false := by rw [lane]; rfl
  refine ⟨?_, by rw [last], ?_, ?_⟩
  · rw [last]
    rcases com with h | h
    · show (v.ln n).com.state = _
      rw [h, lane]
      rfl
    · show (v.ln n).com.state = _
      rw [h, lane]
  · rw [last]
    exact rest.waiting idle
  · have entered : (s.ln n).Course (w.ln n) := by
      rw [lane]
      exact ⟨rfl, rfl, rfl, fun h => ⟨rfl, h⟩, rfl, fun _ => rfl⟩
    rw [last]
    exact (entered.trans rest).trans (.of_eq rfl rfl rfl)

end State

end Sys2Proof.Machine
end


section
/-! SUPPORT. LANE_START and LANE_REVERSE (R419 to R428, R447 to R449). -/

namespace Sys2Proof.Machine

set_option Elab.async false

variable {s : State} {n : LaneIx} {a : Applied}

/-- A lane whose start passed its checks. -/
def State.startReady (s : State) (n : LaneIx) (a : Applied) : State :=
  ((s.takeAll n s.now).markApplied n false).modLn n fun l => l.startSet a

/-- The checks of a start read its arguments alone, not its opcode. -/
theorem State.startChecks_withOpcode (s : State) (p : Pitch) (n : LaneIx) (c : Cmd) (o : Opcode) :
    s.startChecks p n (Cmd.withOpcode c o).desc = s.startChecks p n c.desc := by
  rw [Cmd.withOpcode_desc]
  rfl

theorem State.laneStart_passed (halted : (s.ln n).running = false)
    (pass : firstFail ((s.takeAll n s.now).startChecks a.cmd.pitch n a.cmd.desc) = none) :
    s.laneStart n a = ((s.startReady n a).startTurning n (s.startReady n a).now, none) := by
  unfold State.laneStart
  rw [if_neg (ne_true_of_eq_false halted)]
  dsimp only
  rw [pass]
  rfl

theorem State.ln_startReady (s : State) (n : LaneIx) (a : Applied) : ∃ o : LaneOps, (s.startReady n a).ln n =
    ({ (s.takeAll n s.now).ln n with ops := o }).startSet a := by
  unfold State.startReady State.markApplied
  rw [State.ln_modLn, State.ln_modLn]
  exact ⟨_, rfl⟩

theorem LaneStep.startReady (s : State) (n : LaneIx) (a : Applied) : LaneStep n s (s.startReady n a) :=
  (((LaneStep.refl n s).takeAll s.now).modLn _).modLn _

theorem LaneStep.startTurning {r : State} (h : LaneStep n s r) (t : Ticks) : LaneStep n s (r.startTurning n t) := by
  unfold State.startTurning
  dsimp only
  split
  · exact h.enterRunTurning ..
  · exact h.enterAlign ..

/-- The lane turns as a start asks, or starts from ALIGN. -/
theorem State.startTurning_of (s : State) (n : LaneIx) (t : Ticks) : s.startTurning n t =
    if (s.ln n).com.set.live.revLimit < (s.ln n).com.speedMeas ∧ (s.ln n).com.rotDir = (s.ln n).com.dir then
      s.enterRunTurning n t ((s.ln n).tracked t).1 ((s.ln n).tracked t).2.1 ((s.ln n).tracked t).2.2
    else s.enterAlign n t := rfl

/-- A reversed lane, before it starts again. -/
def State.reversed (s : State) (n : LaneIx) (a : Applied) : State := (s.endStart n 5).modLn n fun l => l.reverseSet a

theorem State.ln_reversed (s : State) (n : LaneIx) (a : Applied) : (s.reversed n a).ln n =
    ({ s.ln n with ops := { (s.ln n).ops with start := none } }).reverseSet a := by
  unfold State.reversed
  rw [State.ln_modLn, State.ln_endStart]

theorem LaneStep.reversed (s : State) (n : LaneIx) (a : Applied) : LaneStep n s (s.reversed n a) :=
  ((LaneStep.refl n s).endStart 5).modLn _

theorem State.laneReverse_slow (steers : (s.ln n).steerable = true) (slow : (s.ln n).com.speedMeas ≤ (s.ln n).com.set.live.revLimit) :
    s.laneReverse n a = if (s.ln n).com.state = .restartWait then (s.reversed n a, none)
      else (((s.reversed n a).gatesOff n (s.reversed n a).now).enterAlign n (s.reversed n a).now, none) := by
  unfold State.laneReverse
  dsimp only
  rw [if_neg (by rw [steers]; decide), if_neg (by simpa using slow)]
  rfl

theorem State.laneReverse_fast (steers : (s.ln n).steerable = true) (fast : (s.ln n).com.set.live.revLimit < (s.ln n).com.speedMeas) :
    s.laneReverse n a = s.done stSpeedHigh := by
  unfold State.laneReverse
  dsimp only
  rw [if_neg (by rw [steers]; decide), if_pos fast]
  rfl

/-- Where a lane that enters ALIGN with ALIGN_TIME 0 stands (R421 to R425). -/
theorem Lane.Aligns.unaligned {l k : Lane} (h : l.Aligns k) (time : bits l.com.profile.alignTime 0 8 = 0) :
    (1 ≤ l.com.profile.steps → k.com.state = .ramp) ∧
    (l.com.profile.steps = 0 → 0 < bits l.com.profile.hoLimit 0 8 → k.com.state = .handover) ∧
    (l.com.profile.steps = 0 → bits l.com.profile.hoLimit 0 8 = 0 → k.com.stallCount = satInc l.com.stallCount) :=
  have past := h.past time 0
  ⟨fun left => (past.ramp (show 0 < l.com.profile.steps from left)).1,
    fun left limit => (past.handover (show l.com.profile.steps ≤ 0 by omega) limit).1,
    fun left limit => (past.stall (show l.com.profile.steps ≤ 0 by omega) limit).stalls⟩

/-- Whatever ALIGN leads to is the course of the lane, stalled or past ALIGN at most. -/
theorem Lane.Aligns.source {l k : Lane} (h : l.Aligns k) : ∃ m : Lane, m.Course k ∧ m.com.dir = l.com.dir ∧
    m.com.targetNext = l.com.targetNext ∧ m.com.target = l.com.target ∧ m.gate.retries = l.gate.retries ∧
    (l.gate.waiting = false → m.gate.waiting = false) := by
  by_cases time : bits l.com.profile.alignTime 0 8 = 0
  · have past := h.past time 0
    by_cases left : 1 ≤ l.com.profile.steps
    · exact ⟨_, (past.ramp (show 0 < l.com.profile.steps from left)).2.2, rfl, rfl, rfl, rfl, fun _ => rfl⟩
    · by_cases limit : bits l.com.profile.hoLimit 0 8 = 0
      · exact ⟨_, past.stall (show l.com.profile.steps ≤ 0 by omega) limit, rfl, rfl, rfl, rfl, fun _ => rfl⟩
      · exact ⟨_, (past.handover (show l.com.profile.steps ≤ 0 by omega) (Nat.pos_of_ne_zero limit)).2.2, rfl, rfl, rfl, rfl, fun _ => rfl⟩
  · exact ⟨l, (h.align time).2.2.2, rfl, rfl, rfl, rfl, id⟩

/-- What any start from ALIGN keeps: its direction and its target. -/
theorem Lane.Aligns.steered {l k : Lane} (h : l.Aligns k) : k.com.dir = l.com.dir ∧
    (l.com.targetNext = none → k.com.target = l.com.target) := by
  obtain ⟨m, course, dir, waits, target, -⟩ := h.source
  exact ⟨course.dir.trans dir, fun none => (course.target (waits.trans none)).1.trans target⟩

/-- Settles O28: each row reaches its effect, which enters RUN from the turning motor, or ALIGN. -/
theorem laneStartAndReverseTurnTheMotor : Obligations.LaneStartAndReverseTurnTheMotor := by
  unfold Obligations.LaneStartAndReverseTurnTheMotor
  intro unaligned
  refine ⟨fun s c n admitted named own rest halted => ?_, fun s c n admitted named own rest steers slow => ?_,
    fun s c n admitted named own rest steers fast => ?_⟩
  · intro a v l turning pass
    have effect := State.laneStart_passed (s := s.taken .laneStart c) (a := a) halted
      ((congrArg firstFail (State.startChecks_withOpcode ..)).trans pass)
    have row := State.laneRow_of_long (f := fun n a s => s.laneStart n a) rfl admitted named own rest effect
    obtain ⟨o, ready⟩ := (s.taken .laneStart c).ln_startReady n a
    have step := LaneStep.startReady (s.taken .laneStart c) n a
    generalize (s.taken .laneStart c).startReady n a = w at row ready step
    refine ⟨w.startTurning n w.now, row, (step.startTurning _).laneOnly, ?_⟩
    change w.ln n = Lane.startSet { l with ops := o } a at ready
    clear_value l
    have turns : (w.ln n).com.set.live.revLimit < (w.ln n).com.speedMeas ∧ (w.ln n).com.rotDir = (w.ln n).com.dir ↔ turning := by
      rw [ready]
      exact Iff.rfl
    have dir : (w.ln n).com.dir = bit c.desc.w4 0 := by
      rw [ready]
      rfl
    have target : (w.ln n).com.target = c.desc.w3 ∧ (w.ln n).com.targetNext = none := by
      rw [ready]
      exact ⟨rfl, rfl⟩
    have same : (w.ln n).com.profile = l.com.profile ∧ (w.ln n).com.stallCount = l.com.stallCount ∧ (w.ln n).ops.start = some a := by
      rw [ready]
      exact ⟨rfl, rfl, rfl⟩
    obtain ⟨profile, stalls, begun⟩ := same
    rw [State.startTurning_of]
    by_cases h : turning
    · rw [if_pos (turns.2 h)]
      obtain ⟨state, ended, -, course⟩ := w.enterRunTurning_spec n w.now ((w.ln n).tracked w.now).1 ((w.ln n).tracked w.now).2.1
        ((w.ln n).tracked w.now).2.2
      exact ⟨course.dir.trans dir, (course.target target.2).1.trans target.1, fun _ => ⟨state, ended⟩, fun no => absurd h no,
        fun no => absurd h no⟩
    · rw [if_neg (turns.not.2 h)]
      have aligns := w.enterAlign_aligns n w.now
      obtain ⟨dir', target'⟩ := aligns.steered
      refine ⟨dir'.trans dir, (target' target.2).trans target.1, fun yes => absurd yes h, fun _ time => ?_, fun _ time => ?_⟩
      · obtain ⟨state, -, ops, -⟩ := aligns.align (by rw [profile]; exact time)
        exact ⟨state, by rw [ops]; exact begun⟩
      · have past := aligns.unaligned (by rw [profile]; exact time)
        rw [profile, stalls] at past
        exact past
  · intro a
    have effect := State.laneReverse_slow (s := s.taken .laneReverse c) (a := a) (n := n) steers slow
    have lane := (s.taken .laneReverse c).ln_reversed n a
    have step := LaneStep.reversed (s.taken .laneReverse c) n a
    generalize (s.taken .laneReverse c).reversed n a = w at effect lane step
    by_cases waits : (s.ln n).com.state = .restartWait
    · rw [if_pos (show ((s.taken .laneReverse c).ln n).com.state = .restartWait from waits)] at effect
      refine ⟨w, State.laneRow_of_long rfl admitted named own rest effect, step.laneOnly, by rw [lane]; rfl, fun _ => ⟨?_, ?_⟩,
        fun no => absurd waits no, fun no => absurd waits no⟩
      · rw [lane]
        exact waits
      · rw [lane]
        rfl
    · rw [if_neg (show ¬ ((s.taken .laneReverse c).ln n).com.state = .restartWait from waits)] at effect
      have aligns := (w.gatesOff n w.now).enterAlign_aligns n w.now
      have com : ((w.gatesOff n w.now).ln n).com = (w.ln n).com := State.gatesOff_com ..
      have ops : ((w.gatesOff n w.now).ln n).ops = (w.ln n).ops := State.gatesOff_ops ..
      have same : (w.ln n).com.profile = (s.ln n).com.profile ∧ (w.ln n).com.stallCount = (s.ln n).com.stallCount ∧
          (w.ln n).ops.start = some a ∧ (w.ln n).com.dir = !(s.ln n).com.dir := by
        rw [lane]
        exact ⟨rfl, rfl, rfl, rfl⟩
      obtain ⟨profile, stalls, begun, dir⟩ := same
      obtain ⟨dir', -⟩ := aligns.steered
      refine ⟨_, State.laneRow_of_long rfl admitted named own rest effect, ((step.gatesOff _).enterAlign _).laneOnly, ?_,
        fun yes => absurd yes waits, fun _ time => ?_, fun _ time => ?_⟩
      · rw [dir', com, dir]
      · obtain ⟨state, -, ops', -⟩ := aligns.align (by rw [com, profile]; exact time)
        exact ⟨state, by rw [ops', ops]; exact begun⟩
      · have past := aligns.unaligned (by rw [com, profile]; exact time)
        rw [com, profile, stalls] at past
        exact past
  · exact State.laneRow_of_done rfl admitted named own rest (State.laneReverse_fast (s := s.taken .laneReverse c) steers fast)

end Sys2Proof.Machine
end


section
/-! SUPPORT. The commutation rows of one lane: crossings, the speed loop, open-loop steps, restarts, stops and coast tracking (chapter 12). -/

namespace Sys2Proof.Machine

set_option Elab.async false

variable {s : State} {n : LaneIx} {t : Ticks}

/-! ### An event that acts at once -/

/-- An event whose task input is open acts in its own tick (R371, R372). -/
theorem State.onTask_of_open {e : TaskEvent} (free : s.taskOpen n t e.rank) : s.onTask n t e =
    (s.modLn n (Lane.takeSlot ((s.ln n).car.edges.at t))).taskAct n e ((s.ln n).car.edges.at t) ((s.ln n).car.edges.at t) := by
  obtain ⟨latch, waiting, input, first, rank⟩ := free
  unfold State.onTask
  dsimp only
  rw [if_neg (by simp [latch, first]), if_pos]
  simp [Lane.admits, waiting, input, rank]

theorem State.taskRow_of_open {e : TaskEvent} {due : Bool} (holds : due = true) (free : s.taskOpen n t e.rank) : s.taskRow n t e due =
    (s.modLn n (Lane.takeSlot ((s.ln n).car.edges.at t))).taskAct n e ((s.ln n).car.edges.at t) ((s.ln n).car.edges.at t) :=
  (if_pos holds).trans (State.onTask_of_open free)

theorem LaneStep.taskRow {r : State} (h : LaneStep n s r) (t : Ticks) (e : TaskEvent) (due : Bool) : LaneStep n s (r.taskRow n t e due) := by
  unfold State.taskRow
  split
  · exact h.onTask t e
  · unfold State.afterLatch
    dsimp only
    split
    · exact h.modLn _
    · exact h

/-! ### Commutation in closed loop -/

/-- A commutation event of RUN or of a RAMP stop: the next row, then the loop. -/
theorem State.runEvent_spec (s : State) (n : LaneIx) (t act : Ticks) :
    ((s.runEvent n t act).ln n).com =
      ((s.ln n).com.rowed t).loop (s.ln n).sense.ilimEff t (decide ((s.ln n).com.state = .stopping)) ∧
    ((s.runEvent n t act).ln n).car.row = nextRow (s.ln n).com.dir (s.ln n).car.row := by
  obtain ⟨com, row, -, limit, -⟩ := s.commutate_spec n t act
  unfold State.runEvent
  dsimp only
  rw [State.ln_modLn]
  exact ⟨by dsimp only; rw [com, limit], row⟩

/-- RUN entered from the profile (R424). -/
theorem State.enterRun_spec (s : State) (n : LaneIx) (t act : Ticks) : ((s.enterRun n t act).ln n).com.state = .run ∧
    ((s.enterRun n t act).ln n).car.row = nextRow (s.ln n).com.dir (s.ln n).car.row ∧ ((s.enterRun n t act).ln n).com.crossed = false := by
  obtain ⟨com, row, -, -, -⟩ := s.commutate_spec n t act
  unfold State.enterRun
  dsimp only
  rw [State.ln_endStart, State.ln_modLn, State.ln_laneState]
  exact ⟨rfl, row, by show (((s.commutate n t act).ln n).com).crossed = false; rw [com]; rfl⟩

/-- A due commutation whose task input is open acts on the lane with its slot taken. -/
theorem State.commutation_act {v : State} (hv : s.laneTick n t = v) (due : (v.ln n).commutationDue t = true) (free : v.taskOpen n t 2) :
    ∃ w u : State, exec (.commutation n t) s = .next u ∧ LaneStep n (s.tick t) u ∧
      w.ln n = (v.ln n).takeSlot ((v.ln n).car.edges.at t) ∧
      u = if (w.ln n).closedLoop then w.runEvent n ((v.ln n).car.edges.at t) ((v.ln n).car.edges.at t)
        else w.enterRun n ((v.ln n).car.edges.at t) ((v.ln n).car.edges.at t) := by
  have step := LaneStep.laneTick n t s
  have row : exec (.commutation n t) s = .next (v.taskRow n t .commutation ((v.ln n).commutationDue t)) := by
    rw [← hv]
    rfl
  rw [hv] at step
  exact ⟨_, _, row, step.taskRow .., State.ln_modLn .., State.taskRow_of_open (e := .commutation) due free⟩

/-- The demand is the loop's output in whole DAC steps, within the limit. -/
theorem LaneCommut.loop_demand (x : LaneCommut) (limit : BitVec 10) (t : Ticks) (down : Bool) :
    let y := x.loop limit t down
    let out := clampInt 0 (limit.toNat * loopUnit) (y.integ + 16 * x.set.live.kp.toNat *
      ((y.speedRef : Int) - x.speedMeas.toNat * Config.ticksPerMs))
    y.iDem.toNat = (out / loopUnit).toNat ∧ y.iDem.toNat ≤ limit.toNat := by
  intro y out
  have shown : y.iDem = BitVec.ofNat 10 (out / loopUnit).toNat := rfl
  have bound : (out / loopUnit).toNat ≤ limit.toNat := by
    simp only [out]
    generalize y.integ + _ = z
    simp only [clampInt, loopUnit]
    omega
  have small := limit.isLt
  rw [shown, BitVec.toNat_ofNat, Nat.mod_eq_of_lt (by omega)]
  exact ⟨rfl, bound⟩

/-- Settles O46: the loop is the model's own, applied to the set that the row takes in force. -/
theorem speedLoopSetsTheDemand : Obligations.SpeedLoopSetsTheDemand := by
  unfold Obligations.SpeedLoopSetsTheDemand
  intro s n t v x c d dt down goal most unit top clamp due closed free
  obtain ⟨w, u, row, step, lane, acts⟩ := State.commutation_act (v := v) rfl due free
  have slot : (w.ln n).com = x ∧ (w.ln n).sense = (v.ln n).sense ∧ (w.ln n).closedLoop = true := by
    rw [lane]
    exact ⟨rfl, rfl, closed⟩
  obtain ⟨com, sense, loops⟩ := slot
  rw [if_pos loops] at acts
  refine ⟨u, row, step.laneOnly, ?_⟩
  have spec := (w.runEvent_spec n d d).1
  rw [com, sense] at spec
  change u = w.runEvent n d d at acts
  rw [acts, spec]
  have demand : ((x.rowed d).loop (v.ln n).sense.ilimEff d down).iDem.toNat =
      (clamp (((x.rowed d).loop (v.ln n).sense.ilimEff d down).integ + 16 * c.kp.toNat *
        ((((x.rowed d).loop (v.ln n).sense.ilimEff d down).speedRef : Int) - x.speedMeas.toNat * 160000)) / unit).toNat ∧
      ((x.rowed d).loop (v.ln n).sense.ilimEff d down).iDem.toNat ≤ (v.ln n).sense.ilimEff.toNat :=
    LaneCommut.loop_demand ..
  exact ⟨rfl, rfl, demand.1, demand.2, rfl⟩

end Sys2Proof.Machine
end


section
/-! SUPPORT. Crossings and missed crossings (R413 to R418, R437, R438), open-loop steps and restarts (R421 to R425, R439). -/

namespace Sys2Proof.Machine

set_option Elab.async false

variable {s : State} {n : LaneIx} {t : Ticks}

/-! ### Samples -/

/-- What a sample leaves of the watch for the crossing. -/
def Lane.sampled (e first : Ticks) (k : Nat) (l : Lane) : Lane :=
  { l with com := { l.com with blankEnd := some e, zcSamples := k, zcFirst := first } }

/-- A crossing is seen, counted, and leaves the filter as it was. -/
theorem State.crossing_com (s : State) (n : LaneIx) (inst : Ticks) : ((s.crossing n inst).ln n).com.crossed = true ∧
    ((s.crossing n inst).ln n).com.zcCount = (s.ln n).com.zcCount + 1 ∧
    ((s.crossing n inst).ln n).com.blankEnd = (s.ln n).com.blankEnd ∧
    ((s.crossing n inst).ln n).com.zcSamples = (s.ln n).com.zcSamples := by
  unfold State.crossing
  dsimp only
  rw [State.ln_traceLane, State.ln_count, State.ln_modLn]
  exact ⟨rfl, rfl, rfl, rfl⟩

theorem LaneStep.crossing {r : State} (h : LaneStep n s r) (inst : Ticks) : LaneStep n s (r.crossing n inst) := by
  unfold State.crossing
  dsimp only
  exact ((h.modLn _).count ..).traceLane ..

theorem execBemfSample_read {above : Bool} {k : PhaseIx} {rise : Bool} {e : Ticks} (expected : ((s.laneTick n t).ln n).expected = some (k, rise))
    (watching : ((s.laneTick n t).ln n).watching = true) (due : ((s.laneTick n t).ln n).car.sampleDue = some t)
    (open_ : ((s.laneTick n t).ln n).com.crossed = false) (alone : (s.laneTick n t).rowChanges n t = false)
    (blank : ((s.laneTick n t).ln n).com.blankAt t (decide (above ≠ rise)) = some e) :
    exec (.bemfSample n t above) s =
      let x := ((s.laneTick n t).ln n).com
      let z := if above = rise ∧ e ≤ t then x.zcSamples + 1 else 0
      let first := if x.zcSamples = 0 then t else x.zcFirst
      let v := (s.laneTick n t).modLn n (Lane.sampled e first z)
      .next (if x.set.live.zcFilter + 1 ≤ z then v.crossing n first else v) := by
  change execBemfSample n t above s = _
  unfold execBemfSample
  dsimp only
  rw [expected]
  dsimp only
  rw [if_pos (by simp [watching, due, open_, alone]), blank]
  have past : (!decide (above ≠ rise) && decide (e ≤ t)) = decide (above = rise ∧ e ≤ t) := by
    by_cases same : above = rise <;> simp [same]
  dsimp only
  rw [past]
  simp only [decide_eq_true_eq]
  generalize s.laneTick n t = v
  generalize (if above = rise ∧ e ≤ t then (v.ln n).com.zcSamples + 1 else 0) = z
  by_cases seen : (v.ln n).com.set.live.zcFilter + 1 ≤ z
  · rw [if_pos seen, if_pos seen]
    rfl
  · rw [if_neg seen, if_neg seen]
    rfl

/-- Without a watched row, its instant, an uncrossed row or the tick to itself, a sample changes nothing. -/
theorem execBemfSample_idle (above : Bool) (idle : (s.laneTick n t).rowChanges n t = true ∨ ((s.laneTick n t).ln n).com.crossed = true ∨
    ((s.laneTick n t).ln n).watching = false ∨ ((s.laneTick n t).ln n).car.sampleDue ≠ some t) :
    exec (.bemfSample n t above) s = .next (s.laneTick n t) := by
  change execBemfSample n t above s = _
  unfold execBemfSample
  dsimp only
  split
  · refine if_neg fun ⟨watching, due, open_, alone⟩ => ?_
    rcases idle with h | h | h | h
    · simp [h] at alone
    · simp [h] at open_
    · simp [h] at watching
    · exact h due
  · rfl

/-! ### Missed crossings -/

theorem execMissedCrossing_early (due : ((s.laneTick n t).ln n).missDue t = true) (early : ((s.laneTick n t).ln n).com.missed.toNat < 2) :
    exec (.missedCrossing n t) s = .next (((s.laneTick n t).modLn n (Lane.missSet t)).onTask n t .missed) := by
  change execMissedCrossing n t s = _
  unfold execMissedCrossing
  dsimp only
  rw [if_pos due, if_neg (by omega)]

theorem execMissedCrossing_third (due : ((s.laneTick n t).ln n).missDue t = true) (third : 2 ≤ ((s.laneTick n t).ln n).com.missed.toNat) :
    exec (.missedCrossing n t) s = .next (if ((s.laneTick n t).ln n).com.state = .run then
      ((s.laneTick n t).modLn n (Lane.missSet t)).stall n t else ((s.laneTick n t).modLn n (Lane.missSet t)).stallStop n t) := by
  change execMissedCrossing n t s = _
  unfold execMissedCrossing
  dsimp only
  rw [if_pos due, if_pos third]
  split <;> rfl

/-- A stall ends a RAMP stop (R444). -/
theorem State.stallStop_spec (s : State) (n : LaneIx) (t : Ticks) : ((s.stallStop n t).ln n).com.state = .stopped ∧
    ((s.stallStop n t).ln n).com.stallCount = satInc (s.ln n).com.stallCount := by
  refine ⟨State.toStopped_state .., ?_⟩
  unfold State.stallStop
  dsimp only
  rw [(State.course_toStopped ..).stalls, State.ln_count, State.ln_modLn]

theorem LaneStep.stallStop {r : State} (h : LaneStep n s r) (t : Ticks) : LaneStep n s (r.stallStop n t) := by
  unfold State.stallStop
  exact ((h.modLn _).count ..).toStopped t

/-- Settles O40: each row's own case, whose steps keep to the lane. -/
theorem crossingsCommutateTheLane : Obligations.CrossingsCommutateTheLane := by
  unfold Obligations.CrossingsCommutateTheLane
  refine ⟨fun s n t above k rise e => ?_, fun s n t above => ?_, fun s n t => ?_, fun s n t => ?_, fun s n state none => ?_⟩
  · intro v x expected watching due open_ alone blank z
    have row := execBemfSample_read expected watching due open_ alone blank
    have step := (LaneStep.laneTick n t s).modLn (Lane.sampled e (if x.zcSamples = 0 then t else x.zcFirst) z)
    have lane : ((v.modLn n (Lane.sampled e (if x.zcSamples = 0 then t else x.zcFirst) z)).ln n).com =
        { x with blankEnd := some e, zcSamples := z, zcFirst := if x.zcSamples = 0 then t else x.zcFirst } := by
      rw [State.ln_modLn]
      rfl
    change exec _ s = .next (if x.set.live.zcFilter + 1 ≤ z then
      State.crossing (v.modLn n (Lane.sampled e (if x.zcSamples = 0 then t else x.zcFirst) z)) n _ else v.modLn n (Lane.sampled e _ z)) at row
    generalize v.modLn n (Lane.sampled e (if x.zcSamples = 0 then t else x.zcFirst) z) = w at row step lane
    by_cases seen : x.set.live.zcFilter + 1 ≤ z
    · obtain ⟨crossed, count, blanked, samples⟩ := w.crossing_com n (if x.zcSamples = 0 then t else x.zcFirst)
      rw [if_pos seen] at row
      refine ⟨_, row, (step.crossing _).laneOnly, ?_, ?_, ?_, ?_⟩
      · rw [blanked, lane]
      · rw [samples, lane]
      · rw [crossed, decide_eq_true seen]
      · rw [count, lane, if_pos seen]
    · rw [if_neg seen] at row
      refine ⟨_, row, step.laneOnly, ?_, ?_, ?_, ?_⟩
      · rw [lane]
      · rw [lane]
      · rw [lane, decide_eq_false seen]
        exact open_
      · rw [lane, if_neg seen]
  · intro v idle
    exact execBemfSample_idle above idle
  · intro v due free
    obtain ⟨w, u, row, step, lane, acts⟩ := State.commutation_act (v := v) rfl due free
    clear_value v
    have slot : (w.ln n).com = (v.ln n).com ∧ (w.ln n).car.row = (v.ln n).car.row := by
      rw [lane]
      exact ⟨rfl, rfl⟩
    obtain ⟨com, at_⟩ := slot
    refine ⟨u, row, step.laneOnly, ?_⟩
    rw [acts]
    by_cases loops : (w.ln n).closedLoop = true
    · rw [if_pos loops]
      obtain ⟨com', next⟩ := w.runEvent_spec n ((v.ln n).car.edges.at t) ((v.ln n).car.edges.at t)
      have state : (v.ln n).com.state = .run ∨ (v.ln n).com.state = .stopping := by
        rw [← com]
        exact of_decide_eq_true loops
      refine ⟨by rw [next, com, at_], by rw [com']; rfl, ?_⟩
      rw [com', com]
      show (v.ln n).com.state = _
      rcases state with h | h <;> rw [h] <;> rfl
    · rw [if_neg loops]
      obtain ⟨state, next, crossed⟩ := w.enterRun_spec n ((v.ln n).car.edges.at t) ((v.ln n).car.edges.at t)
      refine ⟨by rw [next, com, at_], crossed, state.trans (if_neg fun h => loops ?_).symm⟩
      simp [Lane.closedLoop, com, h]
  · intro v x due
    have step := (LaneStep.laneTick n t s).modLn (Lane.missSet t)
    have lane : (v.modLn n (Lane.missSet t)).ln n = (v.ln n).missSet t := State.ln_modLn ..
    refine ⟨fun early free => ?_, fun third => ?_⟩
    · have row := execMissedCrossing_early due early
      change exec _ s = .next (State.onTask (v.modLn n (Lane.missSet t)) n t .missed) at row
      generalize v.modLn n (Lane.missSet t) = w at row step lane free
      have acts := State.onTask_of_open (e := .missed) free
      have stepped := step.onTask t .missed
      rw [acts] at row stepped
      generalize hu : w.modLn n (Lane.takeSlot ((w.ln n).car.edges.at t)) = u at row stepped
      have slot : (u.ln n).com = { x with missed := x.missed + 1, lastSeen := t } ∧ (u.ln n).car.row = (v.ln n).car.row := by
        rw [← hu, State.ln_modLn, lane]
        exact ⟨rfl, rfl⟩
      obtain ⟨com, at_⟩ := slot
      obtain ⟨com', next⟩ := u.runEvent_spec n ((w.ln n).car.edges.at t) ((w.ln n).car.edges.at t)
      refine ⟨_, row, stepped.laneOnly, ?_, ?_, ?_⟩
      · refine (congrArg LaneCommut.missed com').trans ?_
        rw [com]
        rfl
      · refine (congrArg LaneCommut.state com').trans ?_
        rw [com]
        rfl
      · exact next.trans (by rw [com, at_])
    · have row := execMissedCrossing_third due third
      change exec _ s = .next (if x.state = .run then State.stall (v.modLn n (Lane.missSet t)) n t
        else State.stallStop (v.modLn n (Lane.missSet t)) n t) at row
      generalize v.modLn n (Lane.missSet t) = w at row step lane
      by_cases runs : x.state = .run
      · rw [if_pos runs] at row
        obtain ⟨course, ends⟩ := w.stall_spec n t
        refine ⟨_, row, (step.stall t).laneOnly, ?_, fun _ => ends, fun h => absurd (runs.symm.trans h) (by decide)⟩
        rw [course.stalls, lane]
        rfl
      · rw [if_neg runs] at row
        obtain ⟨state, stalls⟩ := w.stallStop_spec n t
        refine ⟨_, row, (step.stallStop t).laneOnly, ?_, fun h => absurd h runs, fun _ => state⟩
        rw [stalls, lane]
        rfl
  · exact if_pos ⟨state, none⟩

end Sys2Proof.Machine
end


section
/-! SUPPORT. ALIGN, RAMP, HANDOVER and restarts step by step (R421 to R425, R439); the ends of stops and coast tracking (R416, R442 to R446). -/

namespace Sys2Proof.Machine

set_option Elab.async false

variable {s : State} {n : LaneIx} {t : Ticks}

/-- The steps of an open-loop event, seen from the commutation it began with. -/
theorem Lane.Stepped.steps {l k : Lane} (h : l.Stepped k) {x : LaneCommut} (same : l.com.entry = x.entry ∧ l.com.profile = x.profile ∧
    l.com.stallCount = x.stallCount) {next : Fin 6} (row : nextRow l.com.dir l.car.row = next) :
    (x.entry < x.profile.steps → k.com.state = .ramp ∧ k.car.row = next) ∧
    (x.profile.steps ≤ x.entry → 0 < bits x.profile.hoLimit 0 8 → k.com.state = .handover ∧ k.car.row = next) ∧
    (x.profile.steps ≤ x.entry → bits x.profile.hoLimit 0 8 = 0 → k.com.stallCount = satInc x.stallCount) := by
  obtain ⟨entry, profile, stalls⟩ := same
  rw [← entry, ← profile, ← stalls, ← row]
  exact ⟨fun left => ⟨(h.ramp left).1, (h.ramp left).2.1⟩, fun past limit => ⟨(h.handover past limit).1, (h.handover past limit).2.1⟩,
    fun past limit => (h.stall past limit).stalls⟩

/-- A due open-loop row whose task input is open acts on the lane with its slot taken. -/
theorem State.openLoop_act {v : State} (hv : s.laneTick n t = v) {c : Instr} {e : TaskEvent} {due : Bool}
    (row : exec c s = .next ((s.laneTick n t).taskRow n t e due)) (holds : due = true) (free : v.taskOpen n t e.rank) :
    ∃ w : State, exec c s = .next (w.taskAct n e ((v.ln n).car.edges.at t) ((v.ln n).car.edges.at t)) ∧
      LaneStep n (s.tick t) (w.taskAct n e ((v.ln n).car.edges.at t) ((v.ln n).car.edges.at t)) ∧
      w.ln n = (v.ln n).takeSlot ((v.ln n).car.edges.at t) := by
  have step := (LaneStep.laneTick n t s).taskRow t e due
  rw [hv] at row step
  rw [State.taskRow_of_open holds free] at row step
  exact ⟨_, row, step, State.ln_modLn ..⟩

/-- A step of HANDOVER below its limit: the next row, counted. -/
theorem State.rampEvent_handover (t act : Ticks) (state : (s.ln n).com.state = .handover)
    (below : (s.ln n).com.hoCount < bits (s.ln n).com.profile.hoLimit 0 8) :
    ((s.rampEvent n t act).ln n).com.state = .handover ∧ ((s.rampEvent n t act).ln n).com.hoCount = (s.ln n).com.hoCount + 1 ∧
    ((s.rampEvent n t act).ln n).car.row = nextRow (s.ln n).com.dir (s.ln n).car.row := by
  rw [State.rampEvent_row (if_neg fun h => by simp [state] at h) (by omega)]
  obtain ⟨com, row, -⟩ := s.rampRow_spec n t act
  refine ⟨by rw [com]; exact state, ?_, row⟩
  rw [com]
  exact if_pos state

/-- Settles O41: each row acts as an open-loop event or enters ALIGN. -/
theorem openLoopStartsStepByStep : Obligations.OpenLoopStartsStepByStep := by
  unfold Obligations.OpenLoopStartsStepByStep
  intro steps
  refine ⟨fun s n t => ?_, fun s n t => ?_, fun s n t => ?_⟩
  · intro v due free
    obtain ⟨w, row, step, lane⟩ := State.openLoop_act (v := v) (c := .alignEnd n t) (e := .alignEnd) rfl rfl due free
    clear_value v
    have acts (d : Ticks) : w.taskAct n .alignEnd d d = (w.laneState n .ramp).rampEvent n d d := rfl
    rw [acts] at row step
    have ramped : (w.laneState n .ramp).ln n = { w.ln n with com := { (w.ln n).com with state := .ramp } } := State.ln_laneState ..
    generalize w.laneState n .ramp = r at row step ramped
    have stepped := (r.rampEvent_stepped (n := n) ((v.ln n).car.edges.at t) ((v.ln n).car.edges.at t) (by rw [ramped])).steps
      (x := (v.ln n).com) (next := nextRow (v.ln n).com.dir (v.ln n).car.row) (by rw [ramped, lane]; exact ⟨rfl, rfl, rfl⟩)
      (by rw [ramped, lane]; rfl)
    exact ⟨_, row, step.laneOnly, stepped⟩
  · intro v x next due free
    obtain ⟨w, row, step, lane⟩ := State.openLoop_act (v := v) (c := .profileStep n t) (e := .profileStep) rfl rfl due free
    have slot : (w.ln n).com = x ∧ (w.ln n).car.row = (v.ln n).car.row := by
      rw [lane]
      exact ⟨rfl, rfl⟩
    obtain ⟨com, at_⟩ := slot
    clear_value x v
    have acts (d : Ticks) : w.taskAct n .profileStep d d = w.rampEvent n d d := rfl
    rw [acts] at row step
    refine ⟨_, row, step.laneOnly, fun state => ?_, fun state below => ?_, fun state limit => ?_⟩
    · exact (w.rampEvent_stepped _ _ (by rw [com]; exact state)).steps (by rw [com]; exact ⟨rfl, rfl, rfl⟩) (by rw [com, at_])
    · obtain ⟨state', count, row'⟩ := w.rampEvent_handover ((v.ln n).car.edges.at t) ((v.ln n).car.edges.at t) (by rw [com]; exact state)
        (by rw [com]; exact below)
      rw [com] at count row'
      rw [at_] at row'
      exact ⟨state', count, row'⟩
    · have stalls := State.rampEvent_stall (s := w) (n := n) (t := (v.ln n).car.edges.at t) (act := (v.ln n).car.edges.at t)
        (by rw [com]; exact state) (by rw [com]; exact limit)
      rw [stalls, (w.stall_spec n _).1.stalls, ← com]
      rfl
  · intro v p state idle time
    have row : exec (.restart n t) s = .next (v.enterAlign n t) := if_pos ⟨state, by rw [idle]; rfl, time⟩
    have step := (LaneStep.laneTick n t s).enterAlign t
    have aligns := v.enterAlign_aligns n t
    refine ⟨_, row, step.laneOnly, fun time => ?_, fun time => ⟨((v.ln n).aligned 0).car.row, rfl, ?_⟩⟩
    · obtain ⟨state, row, -⟩ := aligns.align time
      exact ⟨state, row⟩
    · exact (aligns.past time 0).steps ⟨rfl, rfl, rfl⟩ rfl

end Sys2Proof.Machine
end


section
/-! SUPPORT. The ends of stops (R442 to R446) and coast tracking (R416). -/

namespace Sys2Proof.Machine

set_option Elab.async false

variable {s : State} {n : LaneIx} {t : Ticks}

/-! ### STOPPED completes each waiting LANE_STOP -/

/-- The completion of a LANE_STOP that waited, at the speed the lane was left at (R446). -/
def State.stopOutcome (s : State) (speed : Word) (w : StopWait) : Done :=
  ⟨w.what, stOk, word w.mode.code, 0, 0, speed, s.bell.bellNo + 1⟩

theorem State.foldl_finish_outcomes (speed : Word) (l : List StopWait) (s : State) :
    (l.foldl (fun s w => s.finish w.what stOk (word w.mode.code) 0 0 speed) s).q.outcomes =
      s.q.outcomes ++ l.map (s.stopOutcome speed) := by
  induction l generalizing s with
  | nil => simp
  | cons w l ih =>
    rw [List.foldl_cons, ih, List.map_cons, List.append_cons]
    rfl

theorem State.laneEvent_outcomes (s : State) (n : LaneIx) (k : Nat) (w4 w5 w6 w7 : Word) :
    (s.laneEvent n k w4 w5 w6 w7).q.outcomes = s.q.outcomes := by
  unfold State.laneEvent State.eventTo
  split <;> rfl

theorem State.toStopped_outcomes (s : State) (n : LaneIx) (t : Ticks) :
    (s.toStopped n t).q.outcomes = s.q.outcomes ++ (s.ln n).ops.stops.map (s.stopOutcome (s.ln n).com.speedMeas) := by
  unfold State.toStopped
  dsimp only
  rw [State.drive_q, State.gatesOff_q]
  generalize hv : List.foldl _ s _ = v
  have told : v.q.outcomes = _ := hv ▸ State.foldl_finish_outcomes (s.ln n).com.speedMeas (s.ln n).ops.stops s
  rw [← told]
  generalize hw : v.laneState n .stopped = w
  have same : w.q = v.q := hw ▸ State.laneState_q ..
  split
  · exact (State.laneEvent_outcomes w ..).trans (congrArg Queues.outcomes same)
  · exact congrArg Queues.outcomes same

theorem State.toStopped_ops (s : State) (n : LaneIx) (t : Ticks) : ((s.toStopped n t).ln n).ops.stops = [] := by
  obtain ⟨bs, k, bs', k', h⟩ := s.ln_toStopped n t
  rw [h]
  rfl

/-- A stop that ends leaves the lane STOPPED with each waiting LANE_STOP completed. -/
theorem State.toStopped_ended (s : State) (n : LaneIx) (t : Ticks) : ((s.toStopped n t).ln n).com.state = .stopped ∧
    ((s.toStopped n t).ln n).ops.stops = [] ∧ ∀ w ∈ (s.ln n).ops.stops,
      s.stopOutcome (s.ln n).com.speedMeas w ∈ (s.toStopped n t).q.outcomes :=
  ⟨State.toStopped_state .., s.toStopped_ops n t, fun w mem => by
    rw [s.toStopped_outcomes]
    exact List.mem_append_right _ (List.mem_map_of_mem mem)⟩

theorem execBrakeEnd_due {st : Stopping} (state : ((s.laneTick n t).ln n).com.state = .stopping)
    (stopping : ((s.laneTick n t).ln n).com.stopping = some st) (mode : st.mode = .brake)
    (time : st.since + st.declaredMs * Config.ticksPerMs ≤ t) : exec (.brakeEnd n t) s = .next ((s.laneTick n t).toStopped n t) := by
  change execBrakeEnd n t s = _
  unfold execBrakeEnd
  dsimp only
  rw [state, stopping]
  exact if_pos ⟨mode, time⟩

theorem execRampStopEnd_due {st : Stopping} (state : ((s.laneTick n t).ln n).com.state = .stopping)
    (stopping : ((s.laneTick n t).ln n).com.stopping = some st) (mode : st.mode = .ramp)
    (due : ((s.laneTick n t).ln n).com.speedMeas ≤ ((s.laneTick n t).ln n).com.set.live.revLimit ∨
      st.since + st.declaredMs * Config.ticksPerMs ≤ t) : exec (.rampStopEnd n t) s = .next ((s.laneTick n t).toStopped n t) := by
  change execRampStopEnd n t s = _
  unfold execRampStopEnd
  dsimp only
  rw [state, stopping]
  exact if_pos ⟨mode, due⟩

/-! ### Coast tracking -/

/-- A transition noted, and a measurement in progress disturbed. -/
def Lane.transitioned (t : Ticks) (l : Lane) : Lane :=
  { l with ops := { l.ops with
      lastBemf := some t
      measure := l.ops.measure.map fun m => { m with disturbed := m.disturbed || decide (m.ended = none) } } }

/-- The lane shows the transitions of its coasting motor. -/
def Lane.coasts (l : Lane) : Prop := (l.com.state = .stopped ∨ l.gate.waiting = true) ∧ l.allOff = true

theorem bemfTransition_coasts {v : State} (hv : s.laneTick n t = v) (k : PhaseIx) (above : Bool) (coasts : (v.ln n).coasts) :
    exec (.bemfTransition n k t above) s = .next ((v.modLn n (Lane.transitioned t)).modLn n fun l => l.coastStep k t above) := by
  rw [← hv] at coasts ⊢
  exact if_pos coasts

theorem bemfTransition_drives {v : State} (hv : s.laneTick n t = v) (k : PhaseIx) (above : Bool) (drives : ¬ (v.ln n).coasts) :
    exec (.bemfTransition n k t above) s = .next (v.modLn n (Lane.transitioned t)) := by
  rw [← hv] at drives ⊢
  exact if_neg drives

/-- What tracking makes of one transition. -/
theorem Lane.coastStep_eq (l : Lane) (k : PhaseIx) (t : Ticks) (rise : Bool) : ∃ y : LaneCommut, l.coastStep k t rise = { l with
    com := if 6 ≤ y.coastRun then { y with speedMeas := speedOf y.intervals, rotDir := y.coastDir } else y } ∧
    y.coastLast = some (k, rise) ∧ y.coastAt = t :=
  ⟨_, rfl, rfl, rfl⟩

/-- A tracked transition is the last one, and from the sixth in a row the intervals give the speed. -/
theorem Lane.coastStep_spec (l : Lane) (k : PhaseIx) (t : Ticks) (rise : Bool) : (l.coastStep k t rise).ops = l.ops ∧
    (l.coastStep k t rise).com.coastLast = some (k, rise) ∧ (l.coastStep k t rise).com.coastAt = t ∧
    (6 ≤ (l.coastStep k t rise).com.coastRun → (l.coastStep k t rise).com.speedMeas = speedOf (l.coastStep k t rise).com.intervals ∧
      (l.coastStep k t rise).com.rotDir = (l.coastStep k t rise).com.coastDir) := by
  obtain ⟨y, step, last, at_⟩ := l.coastStep_eq k t rise
  rw [step]
  split
  · exact ⟨rfl, last, at_, fun _ => ⟨rfl, rfl⟩⟩
  · next few => exact ⟨rfl, last, at_, fun six => absurd six few⟩

theorem coastSpeedTimeout_eq (h : (s.ln n).com.state = .stopped ∨ (s.ln n).gate.waiting = true ∨ (s.ln n).braking = true) :
    exec (.coastSpeedTimeout n) s = .next (s.modLn n fun l => { l with com := { l.com with
      speedMeas := 0, coastRun := 0, coastLast := none, intervals := [], lastCross := none } }) :=
  if_pos h

/-- Settles O42: the ends of stops enter STOPPED, and a transition is one tracking step. -/
theorem stopsEndAndCoastIsTracked : Obligations.StopsEndAndCoastIsTracked := by
  unfold Obligations.StopsEndAndCoastIsTracked
  intro ended
  have ends (s v : State) (n : LaneIx) (t : Ticks) (step : LaneStep n (s.tick t) v) : ended s v (v.toStopped n t) n := by
    obtain ⟨state, stops, told⟩ := v.toStopped_ended n t
    refine ⟨state, stops, fun w mem => ?_⟩
    have told := told w mem
    rw [State.stopOutcome, step.bell] at told
    exact told
  refine ⟨fun s n t st => ?_, fun s n t st => ?_, fun s n k t above => ?_, fun s n h => ?_⟩
  · intro v state stopping mode time
    exact ⟨_, execBrakeEnd_due state stopping mode time, ((LaneStep.laneTick n t s).toStopped t).laneOnly,
      ends s v n t (LaneStep.laneTick n t s)⟩
  · intro v state stopping mode due
    exact ⟨_, execRampStopEnd_due state stopping mode due, ((LaneStep.laneTick n t s).toStopped t).laneOnly,
      ends s v n t (LaneStep.laneTick n t s)⟩
  · intro v coasts
    have step := (LaneStep.laneTick n t s).modLn (Lane.transitioned t)
    have lane : (v.modLn n (Lane.transitioned t)).ln n = (v.ln n).transitioned t := State.ln_modLn ..
    by_cases h : coasts
    · have row := bemfTransition_coasts (v := v) rfl k above h
      obtain ⟨ops, last, at_, six⟩ := ((v.ln n).transitioned t).coastStep_spec k t above
      refine ⟨_, row, (step.modLn _ fun l => ?_).laneOnly, rfl, ?_⟩
      · unfold Lane.coastStep
        rfl
      · rw [State.ln_modLn, lane, ops]
        refine ⟨rfl, fun m measure => ?_, fun _ => ⟨last, at_, six⟩, fun no => absurd h no⟩
        rw [Lane.transitioned, measure]
        rfl
    · refine ⟨_, bemfTransition_drives (v := v) rfl k above h, step.laneOnly, rfl, ?_⟩
      rw [lane]
      refine ⟨rfl, fun m measure => ?_, fun yes => absurd yes h, fun _ => rfl⟩
      rw [Lane.transitioned, measure]
      rfl
  · refine coastSpeedTimeout_eq ?_
    rcases h with h | h | ⟨h, st, stopping, mode⟩
    · exact .inl h
    · exact .inr (.inl h)
    · exact .inr (.inr (by simp [Lane.braking, h, stopping, mode]))

end Sys2Proof.Machine
end


section
/-! SUPPORT. A carrier boundary beside a fault latch of its tick. -/

namespace Sys2Proof.Machine

set_option Elab.async false

/-- A device whose lane 0 runs with a carrier boundary due in the tick of a fault latch, which has noted that boundary among the events due
in its tick: as a gate fault that starts a retry wait leaves it. -/
def boundaryBesideLatch : State :=
  { lane := Vector.replicate 6 { com := { state := .restartWait }, car := { latchTick := some 65536, latchDue := [.boundary] } } }

/-- The events that lane 0 still holds due beside its last fault latch, after a row. -/
def latchDueAfter (o : Host.Outcome State Fault Refusal) : List TaskEvent :=
  match o with
  | .next u => (u.ln 0).car.latchDue
  | _ => []

/-- Refutes O39: a carrier boundary discarded in the tick of a fault latch is not only counted, as the statement has it; the model also takes
it off the events that the latch still holds due in its tick. From `boundaryBesideLatch` that list becomes empty; the statement keeps it. -/
theorem not_carrierPeriodsAndPhasesAdvance : ¬ Obligations.CarrierPeriodsAndPhasesAdvance := by
  rintro ⟨boundary, -⟩
  obtain ⟨-, discarded, -⟩ := boundary boundaryBesideLatch 0 65536 (by decide)
  have kept := congrArg latchDueAfter (discarded (.inl (by decide)))
  revert kept
  decide

end Sys2Proof.Machine
end


section
/-! SUPPORT. Gate faults and their retry, VGD, and the pins of PIN mode (R459 to R473). -/

namespace Sys2Proof.Machine

set_option Elab.async false

variable {s : State} {n : LaneIx} {t : Ticks}

/-! ### Gates off -/

theorem Lane.allOff_iff (l : Lane) : l.allOff = true ↔ ∀ k : PhaseIx, l.car.bridges[k].high = false ∧ l.car.bridges[k].low = false := by
  unfold Lane.allOff
  rw [List.all_eq_true]
  constructor
  · intro h k
    have off := h l.car.bridges[k] (by simp)
    simpa using off
  · intro h b mem
    obtain ⟨k, lt, rfl⟩ := Vector.getElem_of_mem (Vector.mem_toList_iff.1 mem)
    obtain ⟨high, low⟩ := h ⟨k, lt⟩
    simp only [Fin.getElem_fin] at high low
    rw [high, low]
    rfl

theorem State.gatesOff_bridge (s : State) (n : LaneIx) (t : Ticks) (k : PhaseIx) :
    ((s.gatesOff n t).ln n).car.bridges[k] = (s.ln n).car.bridges[k].off t := by
  unfold State.gatesOff
  rw [State.ln_modLn, Lane.setBridges_car]
  exact vmap_get ..

theorem State.gatesOff_allOff (s : State) (n : LaneIx) (t : Ticks) : ((s.gatesOff n t).ln n).allOff = true := by
  rw [Lane.allOff_iff]
  intro k
  rw [s.gatesOff_bridge n t k]
  exact ⟨rfl, rfl⟩

theorem State.drive_bridge (s : State) (n : LaneIx) (t : Ticks) (k : PhaseIx) : ((s.drive n t).ln n).car.bridges[k] =
    ((s.ln n).car.bridges[k].drive (s.edges n) t (s.extraWait n) (s.planFor n k (s.want n k)) (s.want n k)).1 := by
  unfold State.drive
  dsimp only
  rw [State.ln_setLn, Lane.setBridges_car]
  simp

/-- A bridge that is off and stays unwanted stays off. -/
theorem HalfBridge.drive_off (r : EdgeRule) (u t extra : Ticks) (p : Option Ticks) (b : HalfBridge) :
    ((b.off t).drive r u extra p none).1 = b.off t := rfl

/-- Without VGD a lane that is stopped has every gate off (R467). -/
theorem State.toStopped_allOff (s : State) (n : LaneIx) (t : Ticks) (vgd : s.pwr.vgdOk = false) : ((s.toStopped n t).ln n).allOff = true := by
  have step := (LaneStep.refl n s).toStopped t
  unfold State.toStopped at step ⊢
  dsimp only at step ⊢
  generalize State.modLn _ n Lane.takeLimit = v at step ⊢
  have unwanted (k : PhaseIx) : (v.gatesOff n t).want n k = none := by
    have off : (v.gatesOff n t).pwr.vgdOk = false := by
      rw [← vgd, ← step.pwr]
      rfl
    unfold State.want
    simp [off]
  rw [Lane.allOff_iff]
  intro k
  rw [State.drive_bridge, unwanted k, v.gatesOff_bridge n t k, HalfBridge.drive_off]
  exact ⟨rfl, rfl⟩

/-! ### What a gate fault shows -/

/-- The kind, the half-bridge and the count of the last gate fault. -/
def Lane.gateShown (l : Lane) : BitVec 4 × BitVec 2 × Word := (l.gate.kind, l.gate.hb, l.gate.faultCount)

theorem State.gateReport_ln (s : State) (n : LaneIx) (kind : BitVec 4) (k : PhaseIx) (escalated : Bool) :
    (s.gateReport n kind k escalated).ln n = { s.ln n with gate := { (s.ln n).gate with
      kind := kind, hb := BitVec.ofNat 2 k.val, faultCount := satInc (s.ln n).gate.faultCount } } := by
  unfold State.gateReport
  dsimp only
  rw [State.ln_laneEvent, State.ln_count, State.ln_modLn]

theorem LaneStep.gateReport {r : State} (h : LaneStep n s r) (kind : BitVec 4) (k : PhaseIx) (escalated : Bool) :
    LaneStep n s (r.gateReport n kind k escalated) := by
  unfold State.gateReport
  exact ((h.modLn _).count ..).laneEvent ..

theorem State.toStopped_gateShown (s : State) (n : LaneIx) (t : Ticks) : ((s.toStopped n t).ln n).gateShown = (s.ln n).gateShown := by
  obtain ⟨bs, k, bs', k', h⟩ := s.ln_toStopped n t
  rw [h]
  rfl

theorem State.forceSafe_gateShown (s : State) (n : LaneIx) (t : Ticks) (o : Word) (g : Lane → Lane) (same : ∀ l, (g l).gate = l.gate) :
    ((s.forceSafe n t o fun s => s.modLn n g).ln n).gateShown = (s.ln n).gateShown := by
  unfold State.forceSafe
  dsimp only
  generalize hv : ((s.endStart n o).modLn n g).modLn n (Lane.force (s.forced n) t) = v
  have shown : (v.ln n).gateShown = (s.ln n).gateShown := by
    rw [← hv, State.ln_modLn, State.ln_modLn, State.ln_endStart]
    show Lane.gateShown (g _) = _
    unfold Lane.gateShown
    rw [same]
  split
  · exact (State.toStopped_gateShown ..).trans shown
  · rw [← shown]
    unfold Lane.gateShown
    split
    · rw [State.drive_gate]
    · rw [State.drive_gate, State.gatesOff_gate]

theorem State.setLatch_gateShown (s : State) (n : LaneIx) (src : Byte) (t : Ticks) :
    ((s.setLatch n src t).ln n).gateShown = (s.ln n).gateShown := by
  unfold State.setLatch
  split
  · rfl
  · rw [State.ln_traceLane, State.ln_laneEvent]
    refine (State.forceSafe_gateShown (s.latchTask n t) n t _ _ (by intro l; rfl)).trans ?_
    rw [State.latchTask, State.ln_modLn]
    rfl

/-- A retry wait has all six gates off and notes what to resume (R471, R472). -/
theorem State.startWait_spec (s : State) (n : LaneIx) (t : Ticks) :
    let u := s.startWait n t
    (u.ln n).gateShown = (s.ln n).gateShown ∧ (u.ln n).gate.waiting = true ∧ (u.ln n).com.waitFrom = t ∧ (u.ln n).allOff = true ∧
    (u.ln n).com.restarts = (s.ln n).com.restarts ∧ (u.ln n).gate.resume = (s.ln n).resumeOf ∧
    ((s.ln n).resumeOf ≠ .pin → (u.ln n).com.state = .restartWait) := by
  intro u
  generalize hv : (if (s.ln n).resumeOf = .pin then s.modLn n (Lane.waitSet t)
    else (s.modLn n (Lane.waitSet t)).laneState n .restartWait : State) = v
  have off : u = v.gatesOff n t := by
    rw [← hv]
    rfl
  have lane : v.ln n = { (s.ln n).waitSet t with com := { ((s.ln n).waitSet t).com with
      state := if (s.ln n).resumeOf = .pin then (s.ln n).com.state else .restartWait } } := by
    rw [← hv]
    split
    · rw [State.ln_modLn]
      rfl
    · rw [State.ln_laneState, State.ln_modLn]
  have all := v.gatesOff_allOff n t
  have com : ((v.gatesOff n t).ln n).com = (v.ln n).com := State.gatesOff_com ..
  have gate : ((v.gatesOff n t).ln n).gate = (v.ln n).gate := State.gatesOff_gate ..
  rw [off]
  refine ⟨?_, ?_, ?_, all, ?_, ?_, fun serial => ?_⟩
  · rw [Lane.gateShown, gate, lane]
    rfl
  · rw [gate, lane]
    rfl
  · rw [com, lane]
    rfl
  · rw [com, lane]
    rfl
  · rw [gate, lane]
    rfl
  · rw [com, lane]
    exact if_neg serial

theorem LaneStep.startWait {r : State} (h : LaneStep n s r) (t : Ticks) : LaneStep n s (r.startWait n t) := by
  unfold State.startWait
  dsimp only
  split
  · exact (h.modLn _).gatesOff t
  · exact ((h.modLn _).laneState _).gatesOff t

theorem Lane.resumeOf_serial {l : Lane} (serial : l.pin = false) (idle : l.gate.waiting = false) : l.resumeOf ≠ .pin := by
  unfold Lane.resumeOf
  rw [if_neg (ne_true_of_eq_false idle)]
  cases l.com.state <;> simp [serial]

/-- A gate fault that its monitor asserts, by what the lane does next (R466 to R473). -/
theorem execGateFault_seen {v : State} (hv : s.laneTick n t = v) (k : PhaseIx) (kind : GateKind) (mv : Int)
    (watches : (v.ln n).gate.set.live.watches (v.ln n).car.bridges[k] kind t mv = true) :
    let w := (v.latchTask n t).gatesOff n t
    let escalates := (v.ln n).gate.set.live.retryMax ≤ (v.ln n).gate.recent w.bell.bellNo
    exec (.gateFault n k kind t mv) s = .next (
      if (v.ln n).com.state = .stopping then (w.gateReport n (gateKindCode kind) k false).toStopped n t
      else if escalates then ((w.gateReport n (gateKindCode kind) k escalates).setLatch n (BitVec.ofNat 8 (0x40 + k.val)) t).drive n t
      else (w.gateReport n (gateKindCode kind) k escalates).startWait n t) := by
  intro w escalates
  change execGateFault n k kind t mv s = _
  unfold execGateFault
  dsimp only
  rw [hv, if_pos watches]
  split
  · rfl
  · by_cases h : escalates
    · rw [if_pos h, if_pos (decide_eq_true h)]
    · rw [if_neg h, if_neg (ne_true_of_eq_false (decide_eq_false h))]

/-- Gates that go off leave what the lane's fault and retry show. -/
theorem State.faulted_ln (v : State) (n : LaneIx) (t : Ticks) : (((v.latchTask n t).gatesOff n t).ln n).com = (v.ln n).com ∧
    (((v.latchTask n t).gatesOff n t).ln n).gate = (v.ln n).gate ∧ (((v.latchTask n t).gatesOff n t).ln n).latch = (v.ln n).latch := by
  rw [State.gatesOff_com, State.gatesOff_gate, State.gatesOff_latch, State.latchTask, State.ln_modLn]
  exact ⟨rfl, rfl, rfl⟩

/-- A retry wait is over (R472). -/
theorem execRetryResume_due {v : State} (hv : s.laneTick n t = v) (waiting : (v.ln n).gate.waiting = true)
    (time : (v.ln n).com.waitFrom + (v.ln n).gate.set.live.retryWait * Config.ticksPerMs ≤ t) :
    exec (.retryResume n t) s = .next ((v.modLn n (Lane.retrySet v.bell.bellNo)).resume n t) := by
  rw [← hv] at waiting time ⊢
  exact if_pos ⟨waiting, time⟩

theorem LaneStep.resume {r : State} (h : LaneStep n s r) (t : Ticks) : LaneStep n s (r.resume n t) := by
  unfold State.resume
  dsimp only
  split
  · exact h.drivePins t
  · exact h.toStopped t
  · exact h.enterAlign t
  · split
    · exact h.enterRunTurning ..
    · exact h.enterAlign t

end Sys2Proof.Machine
end


section
/-! SUPPORT. The gate rows: GATE_FAULT, RETRY_RESUME, VGD_FAULT, VGD_RECOVER and PIN_INPUT_CHANGE. -/

namespace Sys2Proof.Machine

set_option Elab.async false

variable {s : State} {n : LaneIx} {t : Ticks}

/-! ### VGD -/

/-- A lane under a VGD fault stops, or has its gates off (R467). -/
def State.vgdStop (t : Ticks) (s : State) (n : LaneIx) : State :=
  if (s.ln n).running then ((s.gateReport n 6 0 false).endStart n 7).toStopped n t else s.gatesOff n t

theorem LaneStep.vgdStop (t : Ticks) (s : State) (n : LaneIx) : LaneStep n s (s.vgdStop t n) := by
  unfold State.vgdStop
  split
  · exact (((LaneStep.refl n s).gateReport ..).endStart _).toStopped t
  · exact (LaneStep.refl n s).gatesOff t

theorem State.vgdStop_spec (s : State) (n : LaneIx) (t : Ticks) (vgd : s.pwr.vgdOk = false) :
    ((s.vgdStop t n).ln n).com.state = .stopped ∧ ((s.vgdStop t n).ln n).allOff = true := by
  unfold State.vgdStop
  split
  · refine ⟨State.toStopped_state .., State.toStopped_allOff _ n t ?_⟩
    rw [(((LaneStep.refl n s).gateReport 6 0 false).endStart 7).pwr]
    exact vgd
  · next halted =>
    rw [State.gatesOff_com]
    exact ⟨by simpa [Lane.running] using halted, State.gatesOff_allOff ..⟩

/-- The device with VGD out of its window. -/
def State.vgdLost (s : State) (ov : Bool) : State :=
  { s with pwr := { s.pwr with vgdOk := false, buckOn := false, vgdUv := !ov, vgdOv := ov } }

theorem execVgdFault_eq {v : State} (hv : s.lanesTick t = v) (ov : Bool) : exec (.vgdFault t ov) s = .next (
    if v.pwr.vgdOk then ((v.vgdLost ov).abortDiags.eachLane (State.vgdStop t)).wsTryAll else (v.vgdLost ov).abortDiags) := by
  change execVgdFault t ov s = _
  unfold execVgdFault
  rw [hv]
  dsimp only
  cases v.pwr.vgdOk <;> rfl

/-- The device with VGD back in its window (R467, R656). -/
def State.vgdBack (s : State) : State :=
  { s with pwr := { s.pwr with vgdOk := true, vgdUv := false, vgdOv := false, buckOn := s.pwr.buckOn || (s.pwr.lineOk && !s.pwr.ovStop) } }

theorem execVgdRecover_eq {v : State} (hv : s.lanesTick t = v) (settled : v.atSettled = true) :
    exec (.vgdRecover t) s = .next (v.vgdBack.eachLane fun s n => s.drivePins n t).wsTryAll := by
  change execVgdRecover t s = _
  unfold execVgdRecover
  rw [hv]
  exact if_pos settled

theorem State.q_eachLane (f : State → LaneIx → State) (s : State) (hf : ∀ s n, (f s n).q = s.q) : (s.eachLane f).q = s.q :=
  List.foldlRecOn _ _ (motive := fun r : State => r.q = s.q) rfl fun r h n _ => (hf r n).trans h

/-! ### The pins of a half-bridge -/

/-- The levels taken from PULSE and EN, and the trip hold. -/
def HalfBridge.pins (b : HalfBridge) : Bool × Bool × Bool := (b.pulse, b.en, b.tripHold)

theorem HalfBridge.pins_turnOn (u : Ticks) (side : Side) (b : HalfBridge) : (b.turnOn u side).pins = b.pins := by cases side <;> rfl

theorem HalfBridge.pins_turnOff (u : Ticks) (side : Side) (b : HalfBridge) : (b.turnOff u side).pins = b.pins := by cases side <;> rfl

theorem HalfBridge.pins_leave (u : Ticks) (side : Side) (b : HalfBridge) : (b.leave u side).pins = b.pins := by cases side <;> rfl

theorem HalfBridge.pins_settle (r : EdgeRule) (u : Ticks) (b : HalfBridge) : (b.settle r u).pins = b.pins := by
  have late : (b.endLate u).pins = b.pins := by
    unfold HalfBridge.endLate
    split
    · split
      · exact pins_turnOff ..
      · rfl
    · rfl
  unfold HalfBridge.settle
  dsimp only
  split
  · split
    · exact (pins_turnOn ..).trans late
    · exact late
  · exact late

theorem HalfBridge.pins_endSide (r : EdgeRule) (u : Ticks) (side : Side) (b : HalfBridge) : (b.endSide r u side).1.pins = b.pins := by
  unfold HalfBridge.endSide
  dsimp only
  split
  · split
    · exact (pins_leave ..).trans ((pins_turnOff ..).trans (pins_turnOn ..))
    · exact pins_leave ..
  · split
    · split
      · exact pins_leave ..
      · exact (pins_leave ..).trans (pins_turnOff ..)
    · exact pins_leave ..

theorem HalfBridge.pins_endWanted (r : EdgeRule) (u : Ticks) (b : HalfBridge) : (b.endWanted r u).1.pins = b.pins := by
  unfold HalfBridge.endWanted
  split
  · exact pins_endSide ..
  · rfl

theorem HalfBridge.pins_start (r : EdgeRule) (u : Ticks) (p : Option Ticks) (side : Side) (b : HalfBridge) :
    (b.start r u p side).pins = b.pins := by
  unfold HalfBridge.start
  dsimp only
  split
  · rfl
  · split
    · rfl
    · split
      · exact pins_turnOn ..
      · rfl

theorem HalfBridge.pins_drive (r : EdgeRule) (u extra : Ticks) (p : Option Ticks) (w : Option Side) (b : HalfBridge) :
    (b.drive r u extra p w).1.pins = b.pins := by
  have ended : ((b.settle r u).endWanted r u).1.pins = b.pins := (pins_endWanted ..).trans (pins_settle ..)
  unfold HalfBridge.drive
  dsimp only
  split
  · exact pins_settle ..
  · split
    · exact ended
    · split
      · exact (pins_start ..).trans ended
      · exact ended

theorem State.drive_pins (s : State) (n : LaneIx) (t : Ticks) (k : PhaseIx) :
    ((s.drive n t).ln n).car.bridges[k].pins = (s.ln n).car.bridges[k].pins := by
  rw [State.drive_bridge, HalfBridge.pins_drive]

/-- Without a pin that trips, the guard of R462 holds nothing off. -/
theorem State.pinGuard_none (h : s.pinTrip n = none) : s.pinGuard n = s := by
  unfold State.pinGuard
  dsimp only
  rw [h]

/-- The guard of R462 changes the lane's trip holds, where it counts a trip. -/
theorem State.pinGuard_held (s : State) (n : LaneIx) : s.pinGuard n = s ∨ ∃ (i : Nat) (hold : Lane → PhaseIx → Bool), s.pinGuard n =
    (s.countTrip n i).modLn n fun l =>
      { l with car.bridges := Vector.ofFn fun k => { l.car.bridges[k] with tripHold := hold l k } } := by
  unfold State.pinGuard
  dsimp only
  split
  · split
    · exact .inr ⟨_, fun l k => l.car.bridges[k].tripHold || _, rfl⟩
    · exact .inl rfl
  · exact .inl rfl

theorem State.drivePins_levels (s : State) (n : LaneIx) (t : Ticks) (k : PhaseIx) :
    ((s.drivePins n t).ln n).car.bridges[k].pulse = (s.ln n).car.bridges[k].pulse ∧
    ((s.drivePins n t).ln n).car.bridges[k].en = (s.ln n).car.bridges[k].en := by
  have driven := State.drive_pins (s.pinGuard n) n t k
  have guarded : ((s.pinGuard n).ln n).car.bridges[k].pulse = (s.ln n).car.bridges[k].pulse ∧
      ((s.pinGuard n).ln n).car.bridges[k].en = (s.ln n).car.bridges[k].en := by
    rcases s.pinGuard_held n with h | ⟨i, hold, h⟩
    · rw [h]
      exact ⟨rfl, rfl⟩
    · rw [h, State.ln_modLn, State.ln_countTrip]
      simp
  exact ⟨(congrArg (·.1) driven).trans guarded.1, (congrArg (·.2.1) driven).trans guarded.2⟩

/-- New levels of a half-bridge's pins. -/
def Lane.pinned (k : PhaseIx) (pulse en : Bool) (l : Lane) : Lane :=
  { l with car.bridges := vmod l.car.bridges k fun b => { b with pulse := pulse, en := en, tripHold := b.tripHold && pulse && en } }

theorem execPinInputChange_eq {h : LaneIx} {k : PhaseIx} {v : State} (hv : s.laneTick n t = v) (pulse en : Bool) (alive : v.alive = true)
    (half : h.val = 3 * n.val + k.val) :
    exec (.pinInputChange h pulse en t) s = .next ((v.modLn n (Lane.pinned k pulse en)).drivePins n t) := by
  have k3 := k.isLt
  have lane : (⟨h.val / 3, by omega⟩ : LaneIx) = n := Fin.ext (by show h.val / 3 = n.val; omega)
  have phase : (⟨h.val % 3, by omega⟩ : PhaseIx) = k := Fin.ext (by show h.val % 3 = k.val; omega)
  change execPinInputChange h pulse en t s = _
  unfold execPinInputChange
  dsimp only
  rw [lane, phase, hv]
  exact if_pos alive

theorem LaneStep.pinned {r : State} (h : LaneStep n s r) (k : PhaseIx) (pulse en : Bool) : LaneStep n s (r.modLn n (Lane.pinned k pulse en)) := by
  refine h.setLn _ fun sound j => ?_
  simp only [Lane.pinned, vmod_eq, Fin.getElem_fin, vset_get]
  split
  · exact (sound k).same rfl rfl rfl rfl rfl rfl
  · exact sound j

end Sys2Proof.Machine
end


section
/-! SUPPORT. Gate faults retry or latch; VGD faults and recoveries act on every lane. -/

namespace Sys2Proof.Machine

set_option Elab.async false

variable {s : State} {n : LaneIx} {t : Ticks}

/-! ### GATE_FAULT -/

/-- A gate fault's row, on the lane with its gates off. -/
def State.faultActs (w : State) (n : LaneIx) (k : PhaseIx) (code : BitVec 4) (t : Ticks) (stops escalates : Bool) : State :=
  if stops then (w.gateReport n code k false).toStopped n t
  else if escalates then ((w.gateReport n code k true).setLatch n (BitVec.ofNat 8 (0x40 + k.val)) t).drive n t
  else (w.gateReport n code k false).startWait n t

theorem LaneStep.faultActs {w : State} (h : LaneStep n s w) (k : PhaseIx) (code : BitVec 4) (t : Ticks) (stops escalates : Bool) :
    LaneStep n s (w.faultActs n k code t stops escalates) := by
  unfold State.faultActs
  split
  · exact (h.gateReport ..).toStopped t
  · split
    · exact ((h.gateReport ..).setLatch ..).drive t
    · exact (h.gateReport ..).startWait t

theorem State.faultActs_shown (w : State) (n : LaneIx) (k : PhaseIx) (code : BitVec 4) (t : Ticks) (stops escalates : Bool) :
    ((w.faultActs n k code t stops escalates).ln n).gateShown = (code, BitVec.ofNat 2 k.val, satInc (w.ln n).gate.faultCount) := by
  have reported (e : Bool) : ((w.gateReport n code k e).ln n).gateShown = (code, BitVec.ofNat 2 k.val, satInc (w.ln n).gate.faultCount) := by
    rw [State.gateReport_ln]
    rfl
  unfold State.faultActs
  split
  · exact (State.toStopped_gateShown ..).trans (reported _)
  · split
    · rw [Lane.gateShown, State.drive_gate]
      exact (State.setLatch_gateShown ..).trans (reported _)
    · exact (State.startWait_spec ..).1.trans (reported _)

/-- An escalated gate fault latches the lane. -/
theorem State.faultActs_latch (w : State) (n : LaneIx) (k : PhaseIx) (code : BitVec 4) (t : Ticks) :
    let u := w.faultActs n k code t false true
    (u.ln n).latch.latched = true ∧ ((w.ln n).latch.latched = false →
      (u.ln n).latch.src = BitVec.ofNat 8 (0x40 + k.val) ∧ (u.ln n).com.state = .stopped) := by
  intro u
  have lane : (w.gateReport n code k true).ln n = _ := State.gateReport_ln ..
  obtain ⟨latched, newly⟩ := (w.gateReport n code k true).setLatch_spec n (BitVec.ofNat 8 (0x40 + k.val)) t
  rw [lane] at newly
  have com : (u.ln n).com = (((w.gateReport n code k true).setLatch n (BitVec.ofNat 8 (0x40 + k.val)) t).ln n).com := State.drive_com ..
  have latch : (u.ln n).latch = (((w.gateReport n code k true).setLatch n (BitVec.ofNat 8 (0x40 + k.val)) t).ln n).latch :=
    State.drive_latch ..
  rw [com, latch]
  exact ⟨latched, newly⟩

/-! ### RETRY_RESUME -/

/-- What a lane that enters ALIGN, or is past it at once, leaves of its retries. -/
theorem Lane.Aligns.retries {l k : Lane} (h : l.Aligns k) (idle : l.gate.waiting = false) :
    k.gate.waiting = false ∧ k.gate.retries = l.gate.retries := by
  obtain ⟨m, course, -, -, -, retries, waits⟩ := h.source
  exact ⟨course.waiting (waits idle), course.retries.trans retries⟩

/-- A lane resumes, its retry counted and its wait over (R472). -/
theorem State.resume_idle (s : State) (n : LaneIx) (t : Ticks) (idle : (s.ln n).gate.waiting = false) :
    ((s.resume n t).ln n).gate.waiting = false ∧ ((s.resume n t).ln n).gate.retries = (s.ln n).gate.retries := by
  unfold State.resume
  dsimp only
  split
  · exact ⟨(State.drivePins_waiting ..).trans idle, (s.course_drivePins n t).retries⟩
  · exact ⟨State.toStopped_waiting .., (s.course_toStopped n t).retries⟩
  · exact (s.enterAlign_aligns n t).retries idle
  · split
    · obtain ⟨-, -, waiting, course⟩ := s.enterRunTurning_spec n t ((s.ln n).tracked t).1 ((s.ln n).tracked t).2.1 ((s.ln n).tracked t).2.2
      exact ⟨waiting, course.retries⟩
    · exact (s.enterAlign_aligns n t).retries idle

theorem State.resume_pin (h : (s.ln n).gate.resume = .pin) : s.resume n t = s.drivePins n t := by
  unfold State.resume
  dsimp only
  rw [h]

theorem State.resume_stopped (h : (s.ln n).gate.resume = .stopped) : s.resume n t = s.toStopped n t := by
  unfold State.resume
  dsimp only
  rw [h]

theorem State.resume_align (h : (s.ln n).gate.resume = .align) : s.resume n t = s.enterAlign n t := by
  unfold State.resume
  dsimp only
  rw [h]

theorem State.resume_run (h : (s.ln n).gate.resume = .run) : s.resume n t = s.startTurning n t := by
  unfold State.resume
  dsimp only
  rw [h]
  rfl

/-- Settles O47: each row by its cases; a VGD fault meets every lane with VGD out of its window. -/
theorem gateFaultsRetryOrLatch : Obligations.GateFaultsRetryOrLatch := by
  unfold Obligations.GateFaultsRetryOrLatch
  refine ⟨fun s n k kind t mv => ?_, fun s n t => ?_, fun s t ov => ?_, fun s t settled => ?_, fun s h n k pulse en t alive half => ?_⟩
  · intro v l watches
    have row := execGateFault_seen (v := v) rfl k kind mv watches
    have step := ((LaneStep.laneTick n t s).latchTask t).gatesOff t
    obtain ⟨com, gate, latch⟩ := State.faulted_ln v n t
    change LaneStep n _ ((v.latchTask n t).gatesOff n t) at step
    generalize (v.latchTask n t).gatesOff n t = w at row step com gate latch
    have bell : w.bell.bellNo = s.bell.bellNo := by rw [step.bell]; rfl
    have acts : exec (.gateFault n k kind t mv) s = .next (w.faultActs n k (gateKindCode kind) t (decide (l.com.state = .stopping))
        (decide (l.gate.set.live.retryMax ≤ l.gate.recent s.bell.bellNo))) := by
      rw [row, State.faultActs, bell]
      simp only [decide_eq_true_eq]
      congr 1
      refine if_congr Iff.rfl rfl ?_
      by_cases h : l.gate.set.live.retryMax ≤ l.gate.recent s.bell.bellNo
      · rw [if_pos h, if_pos h, decide_eq_true h]
      · rw [if_neg h, if_neg h, decide_eq_false h]
    have shown := w.faultActs_shown n k (gateKindCode kind) t (decide (l.com.state = .stopping))
      (decide (l.gate.set.live.retryMax ≤ l.gate.recent s.bell.bellNo))
    rw [gate] at shown
    refine ⟨_, acts, (step.faultActs ..).laneOnly, congrArg (·.1) shown, congrArg (·.2.1) shown, congrArg (·.2.2) shown,
      fun stops => ?_, fun goes many => ?_, fun goes few => ?_⟩
    · rw [decide_eq_true stops]
      exact State.toStopped_state ..
    · rw [decide_eq_false goes, decide_eq_true many]
      obtain ⟨latched, newly⟩ := w.faultActs_latch n k (gateKindCode kind) t
      rw [latch] at newly
      exact ⟨latched, newly⟩
    · rw [decide_eq_false goes, decide_eq_false (by omega)]
      have lane : (w.gateReport n (gateKindCode kind) k false).ln n = _ := State.gateReport_ln ..
      obtain ⟨-, waits, since, off, restarts, resume, serial⟩ := (w.gateReport n (gateKindCode kind) k false).startWait_spec n t
      have same : ((w.gateReport n (gateKindCode kind) k false).ln n).resumeOf = l.resumeOf := by
        rw [lane]
        unfold Lane.resumeOf Lane.pin
        dsimp only
        rw [com, gate]
      rw [same] at resume serial
      rw [lane] at restarts
      exact ⟨waits, since, off, restarts.trans (congrArg LaneCommut.restarts com), resume,
        fun pin idle => serial (Lane.resumeOf_serial pin idle)⟩
  · intro v l p aligns waiting time
    have row := execRetryResume_due (v := v) rfl waiting time
    have step := LaneStep.laneTick n t s
    have bell : v.bell.bellNo = s.bell.bellNo := by rw [show v.bell = (s.tick t).bell from step.bell]; rfl
    have stepped := step.modLn (Lane.retrySet v.bell.bellNo)
    have lane : (v.modLn n (Lane.retrySet v.bell.bellNo)).ln n = l.retrySet v.bell.bellNo := State.ln_modLn ..
    change LaneStep n _ (v.modLn n (Lane.retrySet v.bell.bellNo)) at stepped
    rw [bell] at row stepped lane
    generalize v.modLn n (Lane.retrySet s.bell.bellNo) = w at row stepped lane
    have same : (w.ln n).com = l.com ∧ (w.ln n).gate.resume = l.gate.resume := by
      rw [lane]
      exact ⟨rfl, rfl⟩
    obtain ⟨com, resume⟩ := same
    obtain ⟨idle, retries⟩ := w.resume_idle n t (by rw [lane]; rfl)
    have entered (h : w.resume n t = w.enterAlign n t) : aligns (w.resume n t) := by
      have entry := w.enterAlign_aligns n t
      rw [h]
      refine ⟨fun time => (entry.align (by rw [com]; exact time)).1, fun time => ?_, fun time => ?_, fun time => ?_⟩
      all_goals
        have past := entry.unaligned (by rw [com]; exact time)
        rw [com] at past
        obtain ⟨ramp, handover, stall⟩ := past
      · exact ramp
      · exact handover
      · exact stall
    refine ⟨_, row, (stepped.resume t).laneOnly, idle, ?_, fun h => ?_, fun h => ?_, fun h => ?_, fun h => ?_⟩
    · rw [retries, lane]
      rfl
    · rw [State.resume_pin (resume.trans h), State.drivePins_com, com]
    · rw [State.resume_stopped (resume.trans h)]
      exact State.toStopped_state ..
    · exact entered (State.resume_align (resume.trans h))
    · have turns := State.resume_run (t := t) (resume.trans h)
      rw [State.startTurning_of, com] at turns
      split
      · next fast =>
        rw [if_pos fast] at turns
        rw [turns]
        exact (w.enterRunTurning_spec ..).1
      · next slow =>
        rw [if_neg slow] at turns
        exact entered turns
  · have row := execVgdFault_eq (s := s) (t := t) rfl ov
    have before := LanesStep.lanesTick s t
    generalize s.lanesTick t = v at row before
    have aborted : LanesStep (v.vgdLost ov) (v.vgdLost ov).abortDiags :=
      LanesStep.eachLane fun r n _ => (LaneStep.refl n r).abortDiag
    have lost : (v.vgdLost ov).abortDiags.pwr = { s.pwr with vgdOk := false, buckOn := false, vgdUv := !ov, vgdOv := ov } := by
      rw [aborted.pwr, State.vgdLost, before.pwr]
      rfl
    have kept (u : State) (h : LanesStep (v.vgdLost ov) u) : u.now = max s.now t ∧ u.dev = s.dev ∧ u.bell = s.bell ∧ u.pit = s.pit ∧
        u.clk = s.clk ∧ u.ring = s.ring ∧ u.host = s.host ∧ u.fuse = s.fuse :=
      ⟨h.now.trans before.now, h.dev.trans before.dev, h.bell.trans before.bell, h.pit.trans before.pit, h.clk.trans before.clk,
        h.ring.trans before.ring, h.host.trans before.host, h.fuse.trans before.fuse⟩
    by_cases was : v.pwr.vgdOk = true
    · rw [if_pos was] at row
      generalize (v.vgdLost ov).abortDiags = w at row aborted lost
      have each : LanesStep w (w.eachLane (State.vgdStop t)) := LanesStep.eachLane fun r n _ => LaneStep.vgdStop t r n
      have stops (n : LaneIx) : ((w.eachLane (State.vgdStop t)).ln n).com.state = .stopped ∧
          ((w.eachLane (State.vgdStop t)).ln n).allOff = true := by
        obtain ⟨r, step, -, -, last⟩ := State.eachLane_at (s := w) (f := State.vgdStop t) (fun r n _ => LaneStep.vgdStop t r n) n
        rw [last]
        exact r.vgdStop_spec n t (by rw [step.pwr, lost])
      have pwr := each.pwr.trans lost
      obtain ⟨now, dev, bell, pit, clk, ring, host, fuse⟩ := kept _ (aborted.trans each)
      generalize w.eachLane (State.vgdStop t) = x at row stops pwr now dev bell pit clk ring host fuse
      have tried := x.wsTryAll_eq
      generalize x.wsTryAll = u at row tried
      refine ⟨u, row, ?_⟩
      rw [tried]
      refine ⟨now, ?_, dev, bell, pit, clk, ring, host, fuse, fun _ => stops⟩
      dsimp only
      rw [pwr]
    · rw [if_neg was] at row
      obtain ⟨now, dev, bell, pit, clk, ring, host, fuse⟩ := kept _ aborted
      refine ⟨_, row, now, ?_, dev, bell, pit, clk, ring, host, fuse, fun vgd => absurd (by rw [before.pwr]; exact vgd) was⟩
      rw [lost]
  · intro v
    have row := execVgdRecover_eq (s := s) (t := t) (v := v) rfl ((State.lanesTick_atSettled ..).trans settled)
    have before := LanesStep.lanesTick s t
    change LanesStep _ v at before
    clear_value v
    have each : LanesStep v.vgdBack (v.vgdBack.eachLane fun s n => s.drivePins n t) :=
      LanesStep.eachLane fun r n _ => (LaneStep.refl n r).drivePins t
    have queues := State.q_eachLane (fun s n => s.drivePins n t) v.vgdBack fun r n => r.drivePins_q n t
    have lanes (n : LaneIx) : ((v.vgdBack.eachLane fun s n => s.drivePins n t).ln n).com = (v.ln n).com ∧
        ((v.vgdBack.eachLane fun s n => s.drivePins n t).ln n).latch = (v.ln n).latch := by
      obtain ⟨r, -, same, -, last⟩ := State.eachLane_at (s := v.vgdBack) (f := fun s n => s.drivePins n t)
        (fun r n _ => (LaneStep.refl n r).drivePins t) n
      rw [last, State.drivePins_com, State.drivePins_latch, same]
      exact ⟨rfl, rfl⟩
    have rest := each.rest
    rw [queues] at rest
    generalize (v.vgdBack.eachLane fun s n => s.drivePins n t) = x at row rest lanes
    have tried := x.wsTryAll_eq
    generalize x.wsTryAll = u at row tried
    have pwr : x.pwr = { s.pwr with
        vgdOk := true, vgdUv := false, vgdOv := false, buckOn := s.pwr.buckOn || (s.pwr.lineOk && !s.pwr.ovStop) } := by
      rw [rest, State.vgdBack, before.pwr]
      rfl
    refine ⟨u, row, ?_, ?_, ?_⟩
    · rw [tried, rest]
      rfl
    · rw [tried]
      dsimp only
      rw [pwr]
    · rw [tried]
      exact lanes
  · intro v
    have row := execPinInputChange_eq (s := s) (t := t) (v := v) (k := k) (n := n) rfl pulse en
      (by rw [State.alive, (LaneStep.laneTick n t s).dev]; exact alive) half
    have step := (LaneStep.laneTick n t s).pinned k pulse en
    have lane : (v.modLn n (Lane.pinned k pulse en)).ln n = (v.ln n).pinned k pulse en := State.ln_modLn ..
    have trips : (v.modLn n (Lane.pinned k pulse en)).pinTrip n = v.pinTrip n := by
      unfold State.pinTrip State.asserts
      rw [lane]
      rfl
    change LaneStep n _ (v.modLn n (Lane.pinned k pulse en)) at step
    generalize v.modLn n (Lane.pinned k pulse en) = w at row step lane trips
    have here : (w.ln n).car.bridges[k] = { (v.ln n).car.bridges[k] with
        pulse := pulse, en := en, tripHold := (v.ln n).car.bridges[k].tripHold && pulse && en } := by
      rw [lane]
      exact vmod_self ..
    obtain ⟨levelPulse, levelEn⟩ := w.drivePins_levels n t k
    refine ⟨_, row, (step.drivePins t).laneOnly, ?_, ?_, fun quiet => ?_⟩
    · rw [levelPulse, here]
    · rw [levelEn, here]
    · rw [State.drivePins, State.pinGuard_none (trips.trans quiet)]
      refine (congrArg (·.2.2) (w.drive_pins n t k) : _).trans ?_
      show (w.ln n).car.bridges[k].tripHold = _
      rw [here]

end Sys2Proof.Machine
end


section
/-! SUPPORT. Comparators and the sources of ROUTE (R378 to R387, R462). -/

namespace Sys2Proof.Machine

set_option Elab.async false

variable {s : State} {n : LaneIx} {t : Ticks}

/-! ### What a source that acts keeps -/

/-- The assertions of OC and UC counted so far. -/
def Lane.asserted (l : Lane) : Word × Word := (l.sense.ocCount, l.sense.ucCount)

theorem Lane.asserted_setBridges (l : Lane) (bs : Vector HalfBridge 3) (k : Nat) : (l.setBridges bs k).asserted = l.asserted := by
  unfold Lane.asserted Lane.setBridges
  dsimp only
  split <;> rfl

theorem State.asserted_drive (s : State) (n : LaneIx) (t : Ticks) : ((s.drive n t).ln n).asserted = (s.ln n).asserted := by
  obtain ⟨bs, k, h⟩ := s.ln_drive n t
  rw [h, Lane.asserted_setBridges]

theorem State.asserted_gatesOff (s : State) (n : LaneIx) (t : Ticks) : ((s.gatesOff n t).ln n).asserted = (s.ln n).asserted := by
  obtain ⟨bs, h⟩ := s.ln_gatesOff n t
  rw [h, Lane.asserted_setBridges]

theorem State.asserted_toStopped (s : State) (n : LaneIx) (t : Ticks) : ((s.toStopped n t).ln n).asserted = (s.ln n).asserted := by
  obtain ⟨bs, k, bs', k', h⟩ := s.ln_toStopped n t
  rw [h, Lane.asserted_setBridges, Lane.asserted_setBridges]
  rfl

theorem State.asserted_setLatch (s : State) (n : LaneIx) (src : Byte) (t : Ticks) :
    ((s.setLatch n src t).ln n).asserted = (s.ln n).asserted := by
  unfold State.setLatch
  split
  · rfl
  · rw [State.ln_traceLane, State.ln_laneEvent]
    unfold State.forceSafe
    dsimp only
    generalize hv : State.modLn _ n (Lane.force _ t) = v
    have same : (v.ln n).asserted = (s.ln n).asserted := by
      rw [← hv, State.ln_modLn, State.ln_modLn, State.ln_endStart, State.latchTask, State.ln_modLn]
      rfl
    split
    · exact (State.asserted_toStopped ..).trans same
    · split
      · exact (State.asserted_drive ..).trans same
      · exact (State.asserted_drive ..).trans ((State.asserted_gatesOff ..).trans same)

/-- A trip at the task input is counted, or counted as discarded or deferred. -/
theorem State.onTask_trip (s : State) (n : LaneIx) (t : Ticks) (i : Fin 5) :
    ((s.onTask n t (.trip i)).ln n).asserted = (s.ln n).asserted ∧
    ((s.onTask n t (.trip i)).ln n).car.onPhase = (s.ln n).car.onPhase := by
  unfold State.onTask
  dsimp only
  split
  · rw [State.ln_modLn]
    exact ⟨rfl, rfl⟩
  · split
    · rw [State.taskAct, State.ln_countTrip, State.ln_modLn]
      exact ⟨rfl, rfl⟩
    · rw [State.ln_modLn]
      exact ⟨rfl, rfl⟩

/-- The on-phase has ended, and nothing counts as asserted anew. -/
theorem State.endOn_spec (s : State) (n : LaneIx) (t : Ticks) (trip : Bool) : ((s.endOn n t trip).ln n).car.onPhase = false ∧
    ((s.endOn n t trip).ln n).asserted = (s.ln n).asserted := by
  unfold State.endOn
  obtain ⟨bs, k, h⟩ := State.ln_drive (s.modLn n fun l =>
    { l with car.onPhase := false, car.phaseEnd := t, car.valley := false, car.tripped := l.car.tripped || trip }) n t
  rw [h, Lane.asserted_setBridges, Lane.setBridges_car, State.ln_modLn]
  exact ⟨rfl, rfl⟩

theorem State.tripBy_spec (s : State) (n : LaneIx) (i : Fin 5) (t : Ticks) : ((s.tripBy n i t).ln n).car.onPhase = false ∧
    ((s.tripBy n i t).ln n).asserted = (s.ln n).asserted := by
  unfold State.tripBy
  split
  · obtain ⟨phase, counts⟩ := s.endOn_spec n t true
    obtain ⟨counts', phase'⟩ := (s.endOn n t true).onTask_trip n t i
    exact ⟨phase'.trans phase, counts'.trans counts⟩
  · next off =>
    obtain ⟨counts', phase'⟩ := s.onTask_trip n t i
    exact ⟨phase'.trans (by simpa using off), counts'⟩

/-- A trip of a PIN-mode lane counts and holds off each half-bridge whose high side is wanted (R462). -/
theorem State.pinTripped_spec (s : State) (n : LaneIx) (i : Nat) (t : Ticks) :
    let u := (s.countTrip n i).pinTripHold n t
    (u.ln n).asserted = (s.ln n).asserted ∧ (u.ln n).sense.tripCount = satInc (s.ln n).sense.tripCount ∧
    ∀ k : PhaseIx, (s.ln n).car.bridges[k].cmd = some .high → (u.ln n).car.bridges[k].tripHold = true := by
  intro u
  generalize hw : ((s.countTrip n i).modLn n fun l =>
    { l with car.bridges := vmap (fun b => { b with tripHold := b.tripHold || b.highGoes }) l.car.bridges }) = w
  have driven : u = w.drive n t := by
    rw [← hw]
    rfl
  have lane := (State.ln_modLn (s.countTrip n i) n fun l =>
    { l with car.bridges := vmap (fun b => { b with tripHold := b.tripHold || b.highGoes }) l.car.bridges })
  rw [hw, State.ln_countTrip] at lane
  rw [driven]
  refine ⟨?_, ?_, fun k high => ?_⟩
  · rw [State.asserted_drive, lane]
    rfl
  · obtain ⟨bs, j, h⟩ := w.ln_drive n t
    rw [h]
    unfold Lane.setBridges
    dsimp only
    rw [lane]
    split <;> rfl
  · refine (congrArg (·.2.2) (w.drive_pins n t k) : _).trans ?_
    show (w.ln n).car.bridges[k].tripHold = true
    rw [lane]
    simp only [Fin.getElem_fin, vmap_get]
    simp only [Fin.getElem_fin] at high
    simp [HalfBridge.highGoes, high]

theorem LaneStep.sourceActs {r : State} (h : LaneStep n s r) (i : Fin 5) (t : Ticks) : LaneStep n s (r.sourceActs n i t) := by
  unfold State.sourceActs
  dsimp only
  split
  · exact h.setLatch ..
  · split
    · split
      · exact (h.countTrip _).pinTripHold t
      · exact h.tripBy i t
    · exact h

/-- What a source does by its route (R384, R386, R462). -/
theorem State.sourceActs_spec (s : State) (n : LaneIx) (i : Fin 5) (t : Ticks) :
    let l := s.ln n
    let u := s.sourceActs n i t
    let route := l.sense.set.live.routeOf i.val
    (u.ln n).asserted = l.asserted ∧
    (route = 2 → (u.ln n).latch.latched = true ∧ (l.latch.latched = false → (u.ln n).latch.src = sourceCode i.val)) ∧
    (route ≠ 2 → l.trips i.val = true → l.pin = false → (u.ln n).car.onPhase = false) ∧
    (route ≠ 2 → l.trips i.val = true → l.pin = true → (u.ln n).sense.tripCount = satInc l.sense.tripCount ∧
      ∀ k : PhaseIx, l.car.bridges[k].cmd = some .high → (u.ln n).car.bridges[k].tripHold = true) := by
  intro l u route
  have acts : u = if route = 2 then s.setLatch n (sourceCode i.val) t
      else if l.trips i.val then if l.pin then (s.countTrip n i.val).pinTripHold n t else s.tripBy n i t else s := rfl
  by_cases latches : route = 2
  · rw [if_pos latches] at acts
    obtain ⟨latched, newly⟩ := s.setLatch_spec n (sourceCode i.val) t
    rw [acts]
    exact ⟨State.asserted_setLatch .., fun _ => ⟨latched, fun clear => (newly clear).1⟩, fun no => absurd latches no,
      fun no => absurd latches no⟩
  · rw [if_neg latches] at acts
    by_cases trips : l.trips i.val = true
    · rw [if_pos trips] at acts
      by_cases pin : l.pin = true
      · rw [if_pos pin] at acts
        obtain ⟨counts, tripped, holds⟩ := s.pinTripped_spec n i.val t
        rw [acts]
        exact ⟨counts, fun h => absurd h latches, fun _ _ serial => absurd pin (ne_true_of_eq_false serial), fun _ _ _ => ⟨tripped, holds⟩⟩
      · rw [if_neg pin] at acts
        obtain ⟨phase, counts⟩ := s.tripBy_spec n i t
        rw [acts]
        exact ⟨counts, fun h => absurd h latches, fun _ _ _ => phase, fun _ _ h => absurd h pin⟩
    · rw [if_neg trips] at acts
      rw [acts]
      exact ⟨rfl, fun h => absurd h latches, fun _ h => absurd h trips, fun _ h => absurd h trips⟩

/-! ### COMPARATOR_ASSERT -/

theorem State.modLn_modLn (s : State) (n : LaneIx) (f g : Lane → Lane) : (s.modLn n f).modLn n g = s.modLn n fun l => g (f l) := by
  show (s.setLn n (f (s.ln n))).setLn n (g ((s.setLn n (f (s.ln n))).ln n)) = s.setLn n (g (f (s.ln n)))
  rw [State.ln_setLn]
  unfold State.setLn
  congr 1
  exact Vector.set_set ..

section
variable {v : State} (hv : s.laneTick n t = v) (c : Comparator) (out : BitVec 10)
include hv

theorem comparatorAssert_deaf (deaf : v.hears n t = false) : exec (.comparatorAssert n c t out) s = .next v := by
  rw [← hv] at deaf ⊢
  exact if_neg (ne_true_of_eq_false deaf)

theorem comparatorAssert_follows (hears : v.hears n t = true) (old : v.newlyBeyond n c t out = false) :
    exec (.comparatorAssert n c t out) s = .next (v.modLn n fun l => { l with sense := l.sense.shows c (l.beyond c t out) }) := by
  change execComparatorAssert n c t out s = _
  unfold execComparatorAssert
  rw [hv]
  dsimp only
  rw [if_pos hears, if_neg (ne_true_of_eq_false old)]

/-- The lane on which a new assertion acts: it shows, and counts. -/
def Lane.newlyShown (c : Comparator) (t : Ticks) (out : BitVec 10) (l : Lane) : Lane :=
  { l with sense := (l.sense.shows c (l.beyond c t out)).countAssert c }

theorem comparatorAssert_new (new : v.newlyBeyond n c t out = true) :
    exec (.comparatorAssert n c t out) s = .next ((v.modLn n (Lane.newlyShown c t out)).sourceActs n (sourceOf c) t) := by
  have hears : v.hears n t = true := by
    simp only [State.newlyBeyond, Bool.and_eq_true] at new
    exact new.1.1
  change execComparatorAssert n c t out s = _
  unfold execComparatorAssert
  rw [hv]
  dsimp only
  rw [if_pos hears, if_pos new]
  rw [State.modLn_modLn]
  rfl
end

end Sys2Proof.Machine
end


section
/-! SUPPORT. The level codes of PEAK, OC and UC (R378 to R380, R388, R420). -/

namespace Sys2Proof.Machine

set_option Elab.async false

variable {s : State} {n : LaneIx} {t : Ticks}

/-! ### Levels -/

theorem LaneSense.dac_cast (x : LaneSense) (level : Int) :
    (x.dac level : Int) = max 0 (min 1023 (128 + roundHalfAway x.offset 4 + level)) :=
  Int.toNat_of_nonneg (le_max_left ..)

theorem Lane.tripLevel_cast (l : Lane) (t : Ticks) : (l.tripLevel t : Int) = if l.running = true ∧ l.car.set.live.mode = 0 then
    max 0 ((l.tripLimit : Int) - ↑(l.sense.set.live.slope.toNat % 256 * (t - l.car.periodStart) / 256)) else l.tripLimit := by
  unfold Lane.tripLevel
  split
  · rw [bits, Nat.pow_zero, Nat.div_one]
    show ((l.tripLimit - l.sense.set.live.slope.toNat % 256 * (t - l.car.periodStart) / 256 : Nat) : Int) = _
    omega
  · rfl

theorem SenseSet.low_cast (x : SenseSet) : x.low =
    if x.winLo.toNat % 2048 < 1024 then ((x.winLo.toNat % 2048 : Nat) : Int) else ((x.winLo.toNat % 2048 : Nat) : Int) - 2048 := by
  have narrow : (x.winLo.setWidth 11).toNat = x.winLo.toNat % 2048 := BitVec.toNat_setWidth ..
  unfold SenseSet.low
  rw [BitVec.toInt_eq_toNat_cond, narrow]
  split <;> split <;> omega

/-- PEAK, OC and UC against their codes, as integers. -/
theorem Lane.beyond_iff (l : Lane) (t : Ticks) (out : BitVec 10) :
    (l.beyond .peak t out = true ↔ (l.sense.dac (l.tripLevel t) : Int) < out.toNat) ∧
    (l.beyond .oc t out = true ↔ (l.sense.dac (bits l.sense.set.live.winHi 0 10) : Int) < out.toNat) ∧
    (l.beyond .uc t out = true ↔ (out.toNat : Int) < l.sense.dac l.sense.set.live.low) := by
  refine ⟨?_, ?_, ?_⟩
  all_goals
    refine decide_eq_true_iff.trans ?_
    omega

theorem LaneSense.limitNow_toNat (x : LaneSense) :
    x.limitNow.toNat = min (x.set.live.ilim.toNat % 1024) (min x.ilimTh.toNat x.ilimFr.toNat) := by
  have limit : x.set.live.limit.toNat = x.set.live.ilim.toNat % 1024 := BitVec.toNat_setWidth ..
  unfold LaneSense.limitNow
  simp only [BitVec.lt_def]
  rw [← limit]
  split <;> split <;> omega

/-! ### A comparator by its level -/

section
variable {v : State} (hv : s.laneTick n t = v) (c : Comparator) (out : BitVec 10) (hears : v.hears n t = true)
include hv hears

/-- An output that is not beyond its level unasserts. -/
theorem comparatorAssert_within (within : (v.ln n).beyond c t out = false) :
    exec (.comparatorAssert n c t out) s = .next (v.modLn n fun l => { l with sense := l.sense.shows c false }) := by
  rw [comparatorAssert_follows hv c out hears (by simp [State.newlyBeyond, within])]
  show Host.Outcome.next (v.setLn n { v.ln n with sense := (v.ln n).sense.shows c ((v.ln n).beyond c t out) }) = _
  rw [within]
  rfl

/-- An output that is newly beyond its level counts, and acts by its route. -/
theorem comparatorAssert_beyond (beyond : (v.ln n).beyond c t out = true) (fresh : v.asserts n (sourceOf c).val = false) :
    exec (.comparatorAssert n c t out) s = .next ((v.modLn n (Lane.newlyShown c t out)).sourceActs n (sourceOf c) t) :=
  comparatorAssert_new hv c out (by simp [State.newlyBeyond, hears, beyond, fresh])
end

theorem LaneStep.comparatorAssert {u : State} {c : Comparator} {out : BitVec 10} (row : exec (.comparatorAssert n c t out) s = .next u) :
    LaneStep n (s.tick t) u := by
  have step := LaneStep.laneTick n t s
  by_cases hears : (s.laneTick n t).hears n t = true
  · by_cases new : (s.laneTick n t).newlyBeyond n c t out = true
    · rw [comparatorAssert_new rfl c out new] at row
      cases row
      exact (step.modLn _).sourceActs ..
    · rw [comparatorAssert_follows rfl c out hears (by simpa using new)] at row
      cases row
      exact step.modLn _
  · rw [comparatorAssert_deaf rfl c out (by simpa using hears)] at row
    cases row
    exact step

/-- Some state follows every comparator row. -/
theorem comparatorAssert_next (s : State) (n : LaneIx) (c : Comparator) (t : Ticks) (out : BitVec 10) :
    ∃ u, exec (.comparatorAssert n c t out) s = .next u := by
  by_cases hears : (s.laneTick n t).hears n t = true
  · by_cases new : (s.laneTick n t).newlyBeyond n c t out = true
    · exact ⟨_, comparatorAssert_new rfl c out new⟩
    · exact ⟨_, comparatorAssert_follows rfl c out hears (by simpa using new)⟩
  · exact ⟨_, comparatorAssert_deaf rfl c out (by simpa using hears)⟩

/-- What a new assertion leaves, by its route. -/
theorem State.newlyShown_acts (v : State) (n : LaneIx) (c : Comparator) (t : Ticks) (out : BitVec 10) :
    let l := v.ln n
    let u := (v.modLn n (Lane.newlyShown c t out)).sourceActs n (sourceOf c) t
    let route := l.sense.set.live.routeOf (sourceOf c).val
    (u.ln n).sense.ocCount = (if c = .oc then satInc l.sense.ocCount else l.sense.ocCount) ∧
    (u.ln n).sense.ucCount = (if c = .uc then satInc l.sense.ucCount else l.sense.ucCount) ∧
    (route = 2 → (u.ln n).latch.latched = true ∧ (l.latch.latched = false → (u.ln n).latch.src = sourceCode (sourceOf c).val)) ∧
    (route ≠ 2 → l.trips (sourceOf c).val = true → l.pin = false → (u.ln n).car.onPhase = false) ∧
    (route ≠ 2 → l.trips (sourceOf c).val = true → l.pin = true → (u.ln n).sense.tripCount = satInc l.sense.tripCount ∧
      ∀ k : PhaseIx, l.car.bridges[k].cmd = some .high → (u.ln n).car.bridges[k].tripHold = true) := by
  intro l u route
  have lane : (v.modLn n (Lane.newlyShown c t out)).ln n = l.newlyShown c t out := State.ln_modLn ..
  obtain ⟨counts, acts⟩ := (v.modLn n (Lane.newlyShown c t out)).sourceActs_spec n (sourceOf c) t
  rw [lane] at counts acts
  have set : (l.newlyShown c t out).sense.set = l.sense.set ∧ (l.newlyShown c t out).sense.tripCount = l.sense.tripCount := by
    cases c <;> exact ⟨rfl, rfl⟩
  have trips : (l.newlyShown c t out).trips (sourceOf c).val = l.trips (sourceOf c).val := by
    unfold Lane.trips
    rw [set.1]
    rfl
  rw [set.1, trips, set.2] at acts
  refine ⟨(congrArg (·.1) counts).trans ?_, (congrArg (·.2) counts).trans ?_, acts⟩
  · cases c <;> rfl
  · cases c <;> rfl

/-- Settles O45: each comparator is read against its own code. -/
theorem tripLevelsFollowTheLimit : Obligations.TripLevelsFollowTheLimit := by
  unfold Obligations.TripLevelsFollowTheLimit
  intro code
  refine ⟨fun s n t out => ?_, fun s n t out => ?_, LaneSense.limitNow_toNat⟩
  · intro v l limit slope level hears
    have peak := ((v.ln n).beyond_iff t out).1
    rw [LaneSense.dac_cast, Lane.tripLevel_cast] at peak
    change _ ↔ code l.sense level < out.toNat at peak
    obtain ⟨u, row⟩ := comparatorAssert_next s n .peak t out
    refine ⟨u, row, (LaneStep.comparatorAssert row).laneOnly, fun within => ?_, fun above fresh => ?_⟩
    · have quiet : (v.ln n).beyond .peak t out = false := by
        rw [← Bool.not_eq_true, peak]
        omega
      have stays := comparatorAssert_within (v := v) rfl .peak out hears quiet
      rw [row] at stays
      exact Host.Outcome.next.inj stays
    · have acts := comparatorAssert_beyond (v := v) rfl .peak out hears (peak.2 above) fresh
      obtain ⟨-, -, latches, trips, -⟩ := v.newlyShown_acts n .peak t out
      rw [row] at acts
      obtain rfl := Host.Outcome.next.inj acts
      refine ⟨fun route => (latches route).1, fun route serial => trips (fun h => ?_) ?_ serial⟩
      · exact absurd (route.symm.trans h) (by decide)
      · show (_ || _) = true
        rw [show ((v.ln n).sense.set.live.routeOf (sourceOf .peak).val == 1) = true from beq_iff_eq.2 route]
        rfl
  · intro v x hi lo hears
    obtain ⟨-, oc, uc⟩ := (v.ln n).beyond_iff t out
    rw [LaneSense.dac_cast] at oc uc
    have high : ((bits (v.ln n).sense.set.live.winHi 0 10 : Nat) : Int) = hi := by
      rw [bits, Nat.pow_zero, Nat.div_one]
      rfl
    have low : (v.ln n).sense.set.live.low = lo := SenseSet.low_cast _
    rw [high] at oc
    rw [low] at uc
    change _ ↔ code x hi < out.toNat at oc
    change _ ↔ (out.toNat : Int) < code x lo at uc
    refine ⟨fun within => ?_, fun within => ?_, fun above fresh => ?_, fun under fresh => ?_⟩
    · exact comparatorAssert_within (v := v) rfl .oc out hears (by rw [← Bool.not_eq_true, oc]; omega)
    · exact comparatorAssert_within (v := v) rfl .uc out hears (by rw [← Bool.not_eq_true, uc]; omega)
    · exact ⟨_, comparatorAssert_beyond (v := v) rfl .oc out hears (oc.2 above) fresh, (v.newlyShown_acts n .oc t out).1⟩
    · exact ⟨_, comparatorAssert_beyond (v := v) rfl .uc out hears (uc.2 under) fresh, (v.newlyShown_acts n .uc t out).2.1⟩

end Sys2Proof.Machine
end


section
/-! SUPPORT. Captures, fault pins, converter slots and rail windows (R377, R386, R392 to R396, R407 to R409). -/

namespace Sys2Proof.Machine

set_option Elab.async false

variable {s : State} {n : LaneIx} {t : Ticks}

/-! ### Fault pins -/

/-- `s` with the level of a fault pin shown. -/
def State.withPin (s : State) (pin : FaultPin) : State :=
  { s with ana := if pin = .flt0 then { s.ana with flt0 := true } else { s.ana with flt1 := true } }

theorem execFaultPinAssert_eq (pin : FaultPin) (settled : s.atSettled = true) : exec (.faultPinAssert pin t) s =
    .next (((s.tick t).withPin pin).eachLane (State.pinActs (pinSource pin) t)) := by
  change execFaultPinAssert pin t s = _
  unfold execFaultPinAssert
  dsimp only
  rw [if_pos (show (s.tick t).atSettled = true from settled)]
  cases pin <;> rfl

theorem LaneStep.pinActs {r : State} (i : Fin 5) (late : t ≤ r.now) : LaneStep n r (r.pinActs i t n) := by
  unfold State.pinActs
  split
  · have step := LaneStep.laneTick n t r
    rw [State.tick_eq_self late] at step
    exact step.sourceActs i t
  · exact .refl n r

/-! ### Converter slots -/

theorem execAdcSlot_unsettled (adc : Fin 2) (slot : Fin 32) (odd : Bool) (code : BitVec 12) (off : s.atSettled = false) :
    exec (.adcSlot adc slot odd code) s = .next s :=
  if_neg (ne_true_of_eq_false off)

theorem execAdcSlot_ain {adc : Fin 2} {slot : Fin 32} (odd : Bool) (code : BitVec 12) (settled : s.atSettled = true) {m : AinIx}
    (input : m.val = 4 * adc.val + (slot.val - 1) / 2 % 4) (turn : slot.val % 2 = 1) :
    exec (.adcSlot adc slot odd code) s = .next (s.convertAin m code) := by
  change execAdcSlot adc slot odd code s = _
  unfold execAdcSlot
  dsimp only
  rw [if_pos settled, if_pos (by omega)]
  congr 2
  exact Fin.ext input.symm

theorem execAdcSlot_lane {adc : Fin 2} {slot : Fin 32} (odd : Bool) (code : BitVec 12) (settled : s.atSettled = true) {n : LaneIx}
    (lane : n.val = 3 * adc.val + slot.val % 8 / 2 % 3) (turn : slot.val % 2 = 0) (other : slot.val % 8 ≠ 6)
    (taken : (s.ln n).pin = true ∨ (s.ln n).sense.captured = true) :
    exec (.adcSlot adc slot odd code) s = .next (s.convertLane n code) := by
  have same : (⟨3 * adc.val + slot.val % 8 / 2 % 3, by omega⟩ : LaneIx) = n := Fin.ext lane.symm
  change execAdcSlot adc slot odd code s = _
  unfold execAdcSlot
  dsimp only
  rw [if_pos settled, if_neg (by omega), if_neg other, same]
  exact if_pos taken

theorem execAdcSlot_rotating {adc : Fin 2} {slot : Fin 32} (odd : Bool) (code : BitVec 12) (settled : s.atSettled = true)
    (turn : slot.val % 8 = 6) : exec (.adcSlot adc slot odd code) s =
      .next (s.convertRotating adc ((slot.val - 6) / 8 + 4 * bit01 odd) code) := by
  change execAdcSlot adc slot odd code s = _
  unfold execAdcSlot
  dsimp only
  rw [if_pos settled, if_neg (by omega), if_pos turn]

/-- A lane's conversion, and its verdict on the row it was taken in. -/
theorem State.convertLane_spec (s : State) (n : LaneIx) (raw : BitVec 12) : LaneStep n s (s.convertLane n raw) ∧
    ((s.convertLane n raw).ln n).sense = ((s.ln n).converted raw (s.netOf n raw)).sense := by
  have step := (LaneStep.refl n s).modLn (Lane.converted raw (s.netOf n raw))
  unfold State.convertLane
  dsimp only
  split
  · refine ⟨(step.judgeRow ..).modLn _, ?_⟩
    rw [State.ln_modLn, State.judgeRow_ln, State.ln_modLn]
    rfl
  · refine ⟨step.modLn _, ?_⟩
    rw [State.ln_modLn, State.ln_modLn]

/-- The burst in progress on an input, with one conversion more. -/
def Burst.taken (b : Burst) (c : Nat) : Burst :=
  { b with left := b.left - 1, sum := b.sum + c, least := min b.least c, most := max b.most c }

/-- An analogue input takes its code, and its burst goes on or ends. -/
theorem State.convertAin_spec (s : State) (m : AinIx) (code : BitVec 12) :
    let u := s.convertAin m code
    u = { s with ana := u.ana, q := u.q, obs := u.obs } ∧ u.ana = { s.ana with ain := vset s.ana.ain m code, burst := u.ana.burst } ∧
    (s.ana.burst[m] = none → u.ana.burst = s.ana.burst ∧ u.q = s.q) ∧
    ∀ b, s.ana.burst[m] = some b → (b.left ≤ 1 ↔ u.ana.burst[m] = none) := by
  cases burst : s.ana.burst[m] with
  | none =>
    have u : s.convertAin m code = { s with ana := { s.ana with ain := vset s.ana.ain m code } } := by
      unfold State.convertAin
      dsimp only
      rw [burst]
    rw [u]
    exact ⟨rfl, rfl, fun _ => ⟨rfl, rfl⟩, fun b h => absurd h (by simp)⟩
  | some b =>
    by_cases last : b.left - 1 = 0
    · obtain ⟨p, idx, w4, w5, w6, w7, u⟩ : ∃ (p : Pitch) (idx : Nat) (w4 w5 w6 w7 : Word), s.convertAin m code =
          (({ s with ana := { s.ana with ain := vset s.ana.ain m code, burst := vset s.ana.burst m none } } : State).count 0x20 m.val).eventFor
            p 0x02 idx 0x21 w4 w5 w6 w7 := by
        unfold State.convertAin
        dsimp only
        rw [burst]
        dsimp only
        rw [if_pos last]
        exact ⟨_, _, _, _, _, _, rfl⟩
      rw [u, State.count_eq]
      refine ⟨rfl, rfl, fun h => absurd h (by simp), fun b' h => ?_⟩
      obtain rfl := Option.some.inj h
      exact ⟨fun _ => vset_self s.ana.burst m none, fun _ => by omega⟩
    · have u : s.convertAin m code = { s with
          ana := { s.ana with ain := vset s.ana.ain m code, burst := vset s.ana.burst m (some (b.taken code.toNat)) } } := by
        unfold State.convertAin
        dsimp only
        rw [burst]
        exact if_neg last
      rw [u]
      refine ⟨rfl, rfl, fun h => absurd h (by simp), fun b' h => ?_⟩
      obtain rfl := Option.some.inj h
      refine ⟨fun few => absurd last (by omega), fun ended => ?_⟩
      exact absurd ((vset_self s.ana.burst m _).symm.trans ended) (by simp)

/-! ### Rail windows -/

/-- BULK_STATUS of a rail in its new window. -/
def State.bulked (s : State) (rail : Rail) (b : BitVec 4) : State :=
  { s with ana := if rail = .a then { s.ana with bulk := b, bulkChangedA := true } else { s.ana with bulk := b, bulkChangedB := true } }

/-- A diagnosis on the rail is aborted where the rail leaves its window (R480). -/
def State.bulkLane (rail : Rail) (out : Bool) (s : State) (n : LaneIx) : State := if railOf n = rail ∧ out then s.abortDiag n else s

theorem execBulkWindowChange_eq (rail : Rail) (low high : Bool) {b : BitVec 4}
    (value : (if rail = .a then (s.ana.bulk &&& 0xC) ||| BitVec.ofNat 4 (bit01 low + 2 * bit01 high)
      else (s.ana.bulk &&& 0x3) ||| (BitVec.ofNat 4 (bit01 low + 2 * bit01 high) <<< 2)) = b) (change : b ≠ s.ana.bulk) :
    exec (.bulkWindowChange rail low high) s = .next ((s.bulked rail b).eachLane (State.bulkLane rail (low || high))) := by
  have lane (r : State) (n : LaneIx) : (if railOf n = rail ∧ (low = true ∨ high = true) then r.abortDiag n else r) =
      r.bulkLane rail (low || high) n := if_congr (by simp) rfl rfl
  change execBulkWindowChange rail low high s = _
  unfold execBulkWindowChange
  dsimp only
  simp only [lane]
  cases rail
  · rw [if_neg (by rw [← value] at change; exact change), ← value]
    rfl
  · rw [if_neg (by rw [← value] at change; exact change), ← value]
    rfl

theorem LaneStep.bulkLane (rail : Rail) (out : Bool) (r : State) (n : LaneIx) : LaneStep n r (r.bulkLane rail out n) := by
  unfold State.bulkLane
  split
  · exact (LaneStep.refl n r).abortDiag
  · exact .refl n r

theorem State.abortDiag_obs (s : State) (n : LaneIx) : (s.abortDiag n).obs = s.obs := by
  unfold State.abortDiag
  repeat' split
  all_goals rfl

theorem State.obs_eachLane (f : State → LaneIx → State) (s : State) (hf : ∀ s n, (f s n).obs = s.obs) : (s.eachLane f).obs = s.obs :=
  List.foldlRecOn _ _ (motive := fun r : State => r.obs = s.obs) rfl fun r h n _ => (hf r n).trans h

/-- Settles O43: each row by its lane's step, or by the part of the analogue inputs that it names. -/
theorem senseSourcesAndConversionsAct : Obligations.SenseSourcesAndConversionsAct := by
  unfold Obligations.SenseSourcesAndConversionsAct
  refine ⟨fun s n t => ?_, fun s n c t out => ?_, fun s pin t settled => ?_, fun s => ⟨rfl, rfl⟩, fun s adc slot odd code settled => ⟨?_, ?_⟩,
    fun s rail low high => ?_⟩
  · intro v m running serial due
    exact if_pos ⟨running, by rw [serial]; rfl, due⟩
  · intro v l route
    refine ⟨fun deaf => comparatorAssert_deaf rfl c out deaf, fun hears old => comparatorAssert_follows rfl c out hears old, fun new => ?_⟩
    have row := comparatorAssert_new (v := v) rfl c out new
    exact ⟨_, row, (LaneStep.comparatorAssert row).laneOnly, v.newlyShown_acts n c t out⟩
  · intro a
    have row := execFaultPinAssert_eq (t := t) pin settled
    have now : t ≤ ((s.tick t).withPin pin).now := Nat.le_max_right ..
    have base : (s.tick t).withPin pin = { s.tick t with ana := a } := rfl
    generalize hw : (s.tick t).withPin pin = w at row now base
    have acts (r : State) (n : LaneIx) (h : LanesStep w r) : LaneStep n r (r.pinActs (pinSource pin) t n) :=
      LaneStep.pinActs _ (h.now ▸ now)
    have each : LanesStep w (w.eachLane (State.pinActs (pinSource pin) t)) := LanesStep.eachLane acts
    refine ⟨_, row, by rw [each.rest, base], fun n => ?_⟩
    obtain ⟨r, step, same, -, last⟩ := State.eachLane_at (s := w) acts n
    have licence : r.licensed n = s.licensed n := by
      unfold State.licensed
      rw [step.fuse, base]
      rfl
    have lane : w.ln n = s.ln n := by
      rw [base]
      rfl
    rw [last]
    unfold State.pinActs
    refine ⟨fun no => ?_, fun yes => ⟨r, by rw [step.rest, base], same.trans lane, ?_⟩⟩
    · rw [if_neg (by rw [licence, no]; decide)]
      exact same.trans lane
    · intro v
      rw [if_pos (licence.trans yes)]
      obtain ⟨-, latches, -⟩ := v.sourceActs_spec n (pinSource pin) t
      refine ⟨rfl, fun route => ⟨(latches route).1, fun clear => ((latches route).2 clear).trans ?_⟩⟩
      cases pin <;> rfl
  · intro m input turn
    exact ⟨_, execAdcSlot_ain odd code settled input turn, s.convertAin_spec m code⟩
  · intro n lane turn other taken
    obtain ⟨step, sense⟩ := s.convertLane_spec n code
    refine ⟨_, execAdcSlot_lane odd code settled lane turn other taken, step.laneOnly, ?_, ?_, ?_⟩
    all_goals
      rw [sense]
      rfl
  · intro v b change
    have row := execBulkWindowChange_eq (s := s) rail low high (b := b) rfl change
    have base : s.bulked rail b = { s with ana := (s.bulked rail b).ana } := rfl
    have shown : (s.bulked rail b).ana = _ := rfl
    have each : LanesStep (s.bulked rail b) ((s.bulked rail b).eachLane (State.bulkLane rail (low || high))) :=
      LanesStep.eachLane fun r n _ => LaneStep.bulkLane ..
    have obs := State.obs_eachLane (State.bulkLane rail (low || high)) (s.bulked rail b) fun r n => by
      unfold State.bulkLane
      split
      · exact r.abortDiag_obs n
      · rfl
    refine ⟨_, row, ?_, each.ana, fun n idle => ?_⟩
    · have rest := each.rest
      rw [obs] at rest
      rw [rest, base]
    · obtain ⟨r, -, same, -, last⟩ := State.eachLane_at (s := s.bulked rail b) (f := State.bulkLane rail (low || high))
        (fun r n _ => LaneStep.bulkLane ..) n
      rw [last, State.bulkLane, if_neg, same]
      · rfl
      · rintro ⟨on, out⟩
        rcases idle with h | ⟨h, h'⟩
        · exact h on
        · simp [h, h'] at out

end Sys2Proof.Machine
end


section
/-! SUPPORT. The rotating converter slots (R392, R396, R546). -/

namespace Sys2Proof.Machine

set_option Elab.async false

variable {s : State}

/-! ### NTCs that become stale or not -/

/-- The NTC of lane `n` becomes stale or not, where its ADC converts it (R546). -/
def State.staleLane (adc : Fin 2) (b : Bool) (s : State) (n : LaneIx) : State :=
  if n.val / 3 = adc.val then (s.modSn (ntcIx n) fun x => { x with stale := b }).drivePins n s.now else s

theorem State.staleLane_sn (adc : Fin 2) (b : Bool) (s : State) (n : LaneIx) (i : SensorIx) : (s.staleLane adc b n).sn i =
    if n.val / 3 = adc.val ∧ i = ntcIx n then { s.sn i with stale := b } else s.sn i := by
  unfold State.staleLane
  by_cases here : n.val / 3 = adc.val
  · have driven : ((s.modSn (ntcIx n) fun x => { x with stale := b }).drivePins n s.now).sn i =
        (s.modSn (ntcIx n) fun x => { x with stale := b }).sn i := by
      unfold State.sn
      rw [((LaneStep.refl n (s.modSn (ntcIx n) fun x => { x with stale := b })).drivePins s.now).heat]
    rw [if_pos here, driven]
    by_cases same : i = ntcIx n
    · subst same
      rw [if_pos ⟨here, rfl⟩]
      exact vmod_self ..
    · rw [if_neg fun h => same h.2]
      exact vmod_ne _ _ _ _ (Ne.symm same)
  · rw [if_neg here, if_neg fun h => here h.1]

theorem State.staleLane_rest (adc : Fin 2) (b : Bool) (s : State) (n : LaneIx) :
    let u := s.staleLane adc b n
    u = { s with heat := u.heat, lane := u.lane, obs := u.obs } ∧ ∀ m : LaneIx, m.val / 3 ≠ adc.val → u.ln m = s.ln m := by
  intro u
  by_cases here : n.val / 3 = adc.val
  · have step := (LaneStep.refl n (s.modSn (ntcIx n) fun x => { x with stale := b })).drivePins s.now
    have same : u = (s.modSn (ntcIx n) fun x => { x with stale := b }).drivePins n s.now := if_pos here
    have rest := step.rest
    rw [State.drivePins_q] at rest
    have others := step.others
    rw [← same] at rest others
    clear_value u
    refine ⟨?_, fun m other => others m fun h => other (h ▸ here)⟩
    rw [rest]
    rfl
  · have same : u = s := if_neg here
    rw [same]
    exact ⟨rfl, fun _ _ => rfl⟩

theorem State.staleLanes (adc : Fin 2) (b : Bool) (l : List LaneIx) (s : State) :
    let u := l.foldl (State.staleLane adc b) s
    u = { s with heat := u.heat, lane := u.lane, obs := u.obs } ∧ (∀ m : LaneIx, m.val / 3 ≠ adc.val → u.ln m = s.ln m) ∧
    ∀ i : SensorIx, (u.sn i = if ∃ n ∈ l, n.val / 3 = adc.val ∧ i = ntcIx n then { s.sn i with stale := b } else s.sn i) := by
  induction l generalizing s with
  | nil => exact ⟨rfl, fun _ _ => rfl, fun i => by simp⟩
  | cons n l ih =>
    obtain ⟨rest, lanes⟩ := s.staleLane_rest adc b n
    obtain ⟨rest', lanes', sensors'⟩ := ih (s.staleLane adc b n)
    have sensor := s.staleLane_sn adc b n
    rw [List.foldl_cons]
    generalize s.staleLane adc b n = r at rest lanes rest' lanes' sensors' sensor
    generalize List.foldl (State.staleLane adc b) r l = u at rest' lanes' sensors'
    refine ⟨?_, fun m other => (lanes' m other).trans (lanes m other), fun i => ?_⟩
    · rw [rest', rest]
    · rw [sensors' i, sensor i]
      by_cases head : n.val / 3 = adc.val ∧ i = ntcIx n
      · have all : ∃ m ∈ n :: l, m.val / 3 = adc.val ∧ i = ntcIx m := ⟨n, List.mem_cons_self .., head⟩
        rw [if_pos head, if_pos all]
        split <;> rfl
      · rw [if_neg head]
        have tail : (∃ m ∈ n :: l, m.val / 3 = adc.val ∧ i = ntcIx m) ↔ ∃ m ∈ l, m.val / 3 = adc.val ∧ i = ntcIx m := by
          simp only [List.mem_cons, exists_eq_or_imp, or_iff_right head]
        simp only [tail]

theorem mem_laneIxs (n : LaneIx) : n ∈ laneIxs := by revert n; decide

/-- The NTCs of one ADC, and what else their staleness touches. -/
theorem State.ntcStale_spec (s : State) (adc : Fin 2) (b : Bool) :
    let u := s.ntcStale adc b
    u = { s with heat := u.heat, lane := u.lane, obs := u.obs } ∧
    (∀ n : LaneIx, n.val / 3 = adc.val → u.sn (ntcIx n) = { s.sn (ntcIx n) with stale := b }) ∧
    (∀ n : LaneIx, n.val / 3 ≠ adc.val → u.ln n = s.ln n) ∧
    ∀ i : SensorIx, (∀ n : LaneIx, n.val / 3 = adc.val → i ≠ ntcIx n) → u.sn i = s.sn i := by
  obtain ⟨rest, lanes, sensors⟩ := State.staleLanes adc b laneIxs s
  refine ⟨rest, fun n here => (sensors _).trans (if_pos ⟨n, mem_laneIxs n, here, rfl⟩), lanes, fun i none => ?_⟩
  exact (sensors i).trans (if_neg fun ⟨n, _, here, same⟩ => none n here same)

/-! ### The check of the converter (R396) -/

/-- The pair's verdict: whether the ADC is bad. -/
def Analogue.badAfter (a : Analogue) (adc : Fin 2) (fail : Bool) : Bool :=
  if fail then a.adcBad[adc] || decide (3 ≤ a.failRun[adc]) else a.adcBad[adc] && decide (a.passRun[adc] < 3)

/-- The runs of failing and passing pairs, once a pair is judged. -/
def Analogue.judged (a : Analogue) (adc : Fin 2) (fail : Bool) : Analogue :=
  { a with
    failRun := vset a.failRun adc (if fail then min 4 (a.failRun[adc] + 1) else 0)
    passRun := vset a.passRun adc (if fail then 0 else min 4 (a.passRun[adc] + 1))
    pairFail := vset a.pairFail adc false
    adcBad := vset a.adcBad adc (a.badAfter adc fail) }

theorem State.judgePair_eq (s : State) (adc : Fin 2) (fail : Bool) : s.judgePair adc fail =
    if s.ana.badAfter adc fail = s.ana.adcBad[adc] then { s with ana := s.ana.judged adc fail }
    else ({ s with ana := s.ana.judged adc fail } : State).ntcStale adc (s.ana.badAfter adc fail) := by
  have verdict : (if 4 ≤ (if fail then min 4 (s.ana.failRun[adc] + 1) else 0) then true
      else if 4 ≤ (if fail then 0 else min 4 (s.ana.passRun[adc] + 1)) then false else s.ana.adcBad[adc]) = s.ana.badAfter adc fail := by
    unfold Analogue.badAfter
    generalize s.ana.failRun[adc] = f
    generalize s.ana.passRun[adc] = p
    generalize s.ana.adcBad[adc] = bad
    cases fail
    · by_cases few : p < 3
      · simp [few, show ¬ 4 ≤ p + 1 by omega]
      · simp [few, show 4 ≤ p + 1 by omega]
    · by_cases many : 3 ≤ f
      · simp [many, show 4 ≤ f + 1 by omega]
      · simp [many, show ¬ 4 ≤ f + 1 by omega]
  unfold State.judgePair
  dsimp only
  rw [verdict]
  rfl

theorem State.judgePair_spec (s : State) (adc : Fin 2) (fail : Bool) :
    let u := s.judgePair adc fail
    let bad := s.ana.badAfter adc fail
    u = { s with ana := u.ana, heat := u.heat, lane := u.lane, obs := u.obs } ∧ u.ana = s.ana.judged adc fail ∧
    (bad = s.ana.adcBad[adc] → u.heat = s.heat ∧ u.lane = s.lane ∧ u.obs = s.obs) ∧
    (bad ≠ s.ana.adcBad[adc] →
      (∀ n : LaneIx, n.val / 3 = adc.val → u.sn (ntcIx n) = { s.sn (ntcIx n) with stale := bad }) ∧
      (∀ n : LaneIx, n.val / 3 ≠ adc.val → u.ln n = s.ln n) ∧
      ∀ i : SensorIx, (∀ n : LaneIx, n.val / 3 = adc.val → i ≠ ntcIx n) → u.sn i = s.sn i) := by
  intro u bad
  have judged : u = _ := s.judgePair_eq adc fail
  clear_value u
  subst judged
  by_cases same : bad = s.ana.adcBad[adc]
  · rw [if_pos same]
    exact ⟨rfl, rfl, fun _ => ⟨rfl, rfl, rfl⟩, fun h => absurd same h⟩
  · rw [if_neg same]
    obtain ⟨rest, stale, lanes, sensors⟩ := ({ s with ana := s.ana.judged adc fail } : State).ntcStale_spec adc bad
    generalize State.ntcStale _ adc bad = w at rest stale lanes sensors
    refine ⟨?_, ?_, fun h => absurd h same, fun _ => ⟨stale, lanes, sensors⟩⟩
    · rw [rest]
    · rw [rest]

theorem State.convertNtc_held {n : LaneIx} {adc : Fin 2} (code : BitVec 12) (bad : s.ana.adcBad[adc] = true) : s.convertNtc n adc code = s :=
  if_pos bad

theorem State.convertRotating_ntc {adc : Fin 2} {k : Nat} {n : LaneIx} (code : BitVec 12) (lane : n.val = 3 * adc.val + k) (k3 : k < 3) :
    s.convertRotating adc k code = s.convertNtc n adc code := by
  unfold State.convertRotating
  dsimp only
  rw [dif_pos k3]
  congr 1
  exact Fin.ext lane.symm

/-- Settles O44: the slot's channel, and nothing else, is converted. -/
theorem rotatingSlotsConvertTheirChannel : Obligations.RotatingSlotsConvertTheirChannel := by
  unfold Obligations.RotatingSlotsConvertTheirChannel
  refine ⟨fun s adc slot odd code off => execAdcSlot_unsettled adc slot odd code off, fun s adc slot odd code settled turn => ?_⟩
  intro k run
  have row : run = .next (s.convertRotating adc k code) := by
    have channel : (slot.val - 6) / 8 + 4 * bit01 odd = k := by cases odd <;> rfl
    rw [← channel]
    exact execAdcSlot_rotating odd code settled turn
  clear_value run
  subst row
  refine ⟨fun n lane k3 => ⟨fun bad => ?_, fun good => ?_⟩, fun h => ?_, fun h => ?_, fun h => ?_, fun h => ?_, fun h => ?_⟩
  · rw [State.convertRotating_ntc code lane k3, State.convertNtc_held code bad]
  · rw [State.convertRotating_ntc code lane k3]
    exact congrArg Host.Outcome.next (if_neg (ne_true_of_eq_false good))
  · rw [h]
    refine congrArg Host.Outcome.next ?_
    by_cases first : adc = 0
    · exact (if_pos first).trans (by rw [if_pos first])
    · exact (if_neg first).trans (by rw [if_neg first])
  · rw [h]
    refine congrArg Host.Outcome.next ?_
    by_cases first : adc = 0
    · exact (if_pos first).trans (by rw [if_pos first])
    · exact (if_neg first).trans (by rw [if_neg first])
  · rw [h]
    rfl
  · rw [h]
    have off : checkOff true code = decide (code.toNat + 16 < 4095) := by
      unfold checkOff
      simp only [if_true]
      exact decide_eq_decide.2 (by omega)
    rw [← off]
    rfl
  · intro fail bad
    rw [h]
    exact ⟨s.judgePair adc fail, rfl, s.judgePair_spec adc fail⟩

end Sys2Proof.Machine
end


section
/-! SUPPORT. The predicted time, the derating factor and the heat frontage as numbers (R562, R570 to R574). -/

namespace Sys2Proof.Machine

set_option Elab.async false

variable {s : State} {n : LaneIx}

/-! ### The predicted time (R562) -/

/-- What one sensor predicts. -/
def State.predictOne (s : State) (i : SensorIx) : Option Rat :=
  if (s.sn i).available ∧ 2000 * (s.sn i).rate > 8192 then some (512 * ((s.ceiling i - (s.sn i).temp : Int) : Rat) / ((s.sn i).rate : Rat))
  else none

theorem State.predict_eq (s : State) (n : LaneIx) : s.predict n = ((sensorsOf n).map s.predictOne).foldl shorter none := by
  rw [List.foldl_map]
  unfold State.predict
  dsimp only
  congr 1

theorem foldl_shorter_none (l : List (Option Rat)) (a : Option Rat) : l.foldl shorter a = none ↔ a = none ∧ ∀ o ∈ l, o = none := by
  induction l generalizing a with
  | nil => simp
  | cons o l ih =>
    rw [List.foldl_cons, ih]
    cases a <;> cases o <;> simp [shorter]

theorem foldl_shorter_some (l : List (Option Rat)) (a : Option Rat) {x : Rat} (h : l.foldl shorter a = some x) :
    (a = some x ∨ some x ∈ l) ∧ (∀ y, a = some y → x ≤ y) ∧ ∀ y, some y ∈ l → x ≤ y := by
  induction l generalizing a with
  | nil =>
    rw [List.foldl_nil] at h
    exact ⟨.inl h, fun y hy => by rw [h] at hy; exact (Option.some.inj hy).le, fun y hy => by cases hy⟩
  | cons o l ih =>
    rw [List.foldl_cons] at h
    obtain ⟨found, first, others⟩ := ih _ h
    cases a with
    | none =>
      refine ⟨?_, by simp, fun y hy => ?_⟩
      · rcases found with found | found
        · exact .inr (found ▸ List.mem_cons_self ..)
        · exact .inr (List.mem_cons_of_mem _ found)
      · rcases List.mem_cons.1 hy with rfl | hy
        · exact first y rfl
        · exact others y hy
    | some b =>
      cases o with
      | none =>
        refine ⟨?_, first, fun y hy => ?_⟩
        · rcases found with found | found
          · exact .inl found
          · exact .inr (List.mem_cons_of_mem _ found)
        · rcases List.mem_cons.1 hy with hy | hy
          · cases hy
          · exact others y hy
      | some c =>
        have least := first _ rfl
        refine ⟨?_, fun y hy => ?_, fun y hy => ?_⟩
        · rcases found with found | found
          · obtain rfl := Option.some.inj found
            rcases le_total b c with le | le
            · exact .inl (by rw [min_eq_left le])
            · exact .inr (by rw [min_eq_right le]; exact List.mem_cons_self ..)
          · exact .inr (List.mem_cons_of_mem _ found)
        · obtain rfl := Option.some.inj hy
          exact least.trans (min_le_left ..)
        · rcases List.mem_cons.1 hy with hy | hy
          · obtain rfl := Option.some.inj hy
            exact least.trans (min_le_right ..)
          · exact others y hy

/-- The prediction is the least of the sensors that rise. -/
theorem State.predict_spec (s : State) (n : LaneIx) :
    let rises (i : SensorIx) : Prop := i ∈ sensorsOf n ∧ (s.sn i).available = true ∧ 8192 < 2000 * (s.sn i).rate
    let time (i : SensorIx) : Rat := 512 * ((s.ceiling i - (s.sn i).temp : Int) : Rat) / ((s.sn i).rate : Rat)
    (s.predict n = none ↔ ∀ i, ¬ rises i) ∧
    ∀ x, s.predict n = some x → (∃ i, rises i ∧ x = time i) ∧ ∀ i, rises i → x ≤ time i := by
  intro rises time
  have one (i : SensorIx) (h : i ∈ sensorsOf n) : s.predictOne i = some (time i) ↔ rises i := by
    unfold State.predictOne
    split
    · next yes => exact ⟨fun _ => ⟨h, yes⟩, fun _ => rfl⟩
    · next no => exact ⟨fun e => (by cases e), fun e => absurd e.2 no⟩
  have idle (i : SensorIx) (h : i ∈ sensorsOf n) : s.predictOne i = none ↔ ¬ rises i := by
    rw [← one i h]
    unfold State.predictOne
    split
    · exact ⟨fun e => (by cases e), fun e => absurd rfl e⟩
    · exact ⟨fun _ e => (by cases e), fun _ => rfl⟩
  rw [s.predict_eq]
  refine ⟨?_, fun x h => ?_⟩
  · rw [foldl_shorter_none]
    simp only [true_and, List.mem_map, forall_exists_index, and_imp, forall_apply_eq_imp_iff₂]
    exact ⟨fun h i r => (idle i r.1).1 (h i r.1) r, fun h i mem => (idle i mem).2 (h i)⟩
  · obtain ⟨found, -, least⟩ := foldl_shorter_some _ _ h
    refine ⟨?_, fun i r => least _ (List.mem_map.2 ⟨i, r.1, (one i r.1).2 r⟩)⟩
    rcases found with none | found
    · cases none
    · obtain ⟨i, mem, value⟩ := List.mem_map.1 found
      by_cases r : rises i
      · exact ⟨i, r, Option.some.inj (value.symm.trans ((one i mem).2 r))⟩
      · rw [(idle i mem).2 r] at value
        cases value

/-! ### ILIM_TH (R570) -/

theorem foldl_min_spec {α : Type} (f : α → Rat) (l : List α) (a : Rat) :
    (l.foldl (fun m i => min m (f i)) a ≤ a) ∧ (∀ i ∈ l, l.foldl (fun m i => min m (f i)) a ≤ f i) ∧
    (l.foldl (fun m i => min m (f i)) a = a ∨ ∃ i ∈ l, l.foldl (fun m i => min m (f i)) a = f i) := by
  induction l generalizing a with
  | nil => exact ⟨le_rfl, by simp, .inl rfl⟩
  | cons i l ih =>
    obtain ⟨below, least, found⟩ := ih (min a (f i))
    rw [List.foldl_cons]
    refine ⟨below.trans (min_le_left ..), fun j mem => ?_, ?_⟩
    · rcases List.mem_cons.1 mem with rfl | mem
      · exact below.trans (min_le_right ..)
      · exact least j mem
    · rcases found with found | ⟨j, mem, found⟩
      · rcases le_total a (f i) with le | le
        · exact .inl (found.trans (min_eq_left le))
        · exact .inr ⟨i, List.mem_cons_self .., found.trans (min_eq_right le)⟩
      · exact .inr ⟨j, List.mem_cons_of_mem _ mem, found⟩

/-- The least factor of the sensors that derate lane `n`. -/
def State.factor (s : State) (n : LaneIx) : Rat :=
  ((sensorsOf n).filter fun i => (s.sn i).counts).foldl (fun m i => min m (s.derate i)) 1

theorem State.derate_nonneg (s : State) (i : SensorIx) : 0 ≤ s.derate i := by
  unfold State.derate
  dsimp only
  split
  · exact le_min (le_max_left ..) (by norm_num)
  · exact le_max_left ..

theorem State.factor_nonneg (s : State) (n : LaneIx) : 0 ≤ s.factor n := by
  obtain ⟨-, -, found⟩ := foldl_min_spec s.derate ((sensorsOf n).filter fun i => (s.sn i).counts) 1
  unfold State.factor
  rcases found with h | ⟨i, -, h⟩ <;> rw [h]
  · norm_num
  · exact s.derate_nonneg i

theorem State.factor_le (s : State) {n : LaneIx} {i : SensorIx} (acts : i ∈ sensorsOf n ∧ (s.sn i).counts = true) : s.factor n ≤ s.derate i :=
  (foldl_min_spec s.derate _ 1).2.1 i (List.mem_filter.2 acts)

theorem State.factor_le_one (s : State) (n : LaneIx) : s.factor n ≤ 1 := (foldl_min_spec s.derate _ 1).1

theorem State.factor_found (s : State) {n : LaneIx} (below : s.factor n ≠ 1) :
    ∃ i, (i ∈ sensorsOf n ∧ (s.sn i).counts = true) ∧ s.factor n = s.derate i := by
  rcases (foldl_min_spec s.derate ((sensorsOf n).filter fun i => (s.sn i).counts) 1).2.2 with h | ⟨i, mem, h⟩
  · exact absurd h below
  · exact ⟨i, List.mem_filter.1 mem, h⟩

/-- ILIM_TH as a number: all ones without derating, else the floor of the product. -/
theorem State.thermalLimit_toNat (s : State) (n : LaneIx) : ((s.thermalLimit n).toNat : Int) =
    if s.factor n = 1 then 0x3FF else (((s.ln n).sense.set.live.limit.toNat : Rat) * s.factor n).floor := by
  have shape : s.thermalLimit n = if s.factor n = 1 then 0x3FF
      else BitVec.ofNat 10 (((s.ln n).sense.set.live.limit.toNat : Rat) * s.factor n).floor.toNat := rfl
  rw [shape]
  split
  · rfl
  · have small := (s.ln n).sense.set.live.limit.isLt
    have product : 0 ≤ ((s.ln n).sense.set.live.limit.toNat : Rat) * s.factor n := mul_nonneg (Nat.cast_nonneg _) (s.factor_nonneg n)
    have below : ((s.ln n).sense.set.live.limit.toNat : Rat) * s.factor n ≤ (s.ln n).sense.set.live.limit.toNat :=
      mul_le_of_le_one_right (Nat.cast_nonneg _) (s.factor_le_one n)
    generalize ((s.ln n).sense.set.live.limit.toNat : Rat) * s.factor n = y at product below
    generalize (s.ln n).sense.set.live.limit.toNat = k at small below
    have floor0 : 0 ≤ y.floor := by
      rw [Rat.le_floor_iff]
      exact_mod_cast product
    have floorK : y.floor ≤ k := by
      have h : (y.floor : Rat) ≤ k := (Rat.floor_le y).trans below
      exact_mod_cast h
    rw [BitVec.toNat_ofNat, Nat.mod_eq_of_lt (by omega)]
    omega

end Sys2Proof.Machine
end


section
/-! SUPPORT. Derating by the sensors of a lane and by the heat sum of its pitch (R570 to R574). -/

namespace Sys2Proof.Machine

set_option Elab.async false

variable {s : State} {n : LaneIx}

/-! ### One sensor's factor -/

/-- How far a sensor is below its stop level, as a share of the way from its warn level. -/
def State.share (s : State) (i : SensorIx) : Rat :=
  (((s.levels i).2 - (s.sn i).temp : Int) : Rat) / (((s.levels i).2 - (s.levels i).1 : Int) : Rat)

theorem State.derate_eq (s : State) (i : SensorIx) : s.derate i =
    if (s.sn i).rateFlag then min (max 0 (min 1 (s.share i))) (1 / 2) else max 0 (min 1 (s.share i)) := rfl

theorem State.derate_le_share (s : State) (i : SensorIx) : s.derate i ≤ max 0 (s.share i) := by
  have clamped : max 0 (min 1 (s.share i)) ≤ max 0 (s.share i) := max_le_max le_rfl (min_le_right ..)
  rw [s.derate_eq]
  split
  · exact (min_le_left ..).trans clamped
  · exact clamped

section
variable {i : SensorIx} (fit : (s.levels i).1 < (s.levels i).2)
include fit

theorem State.span_pos : (0 : Rat) < (((s.levels i).2 - (s.levels i).1 : Int) : Rat) := by
  exact_mod_cast (by omega : (0 : Int) < (s.levels i).2 - (s.levels i).1)

theorem State.derate_cool (cool : (s.sn i).temp ≤ (s.levels i).1) (steady : (s.sn i).rateFlag = false) : s.derate i = 1 := by
  have full : 1 ≤ s.share i := by
    unfold State.share
    rw [le_div_iff₀ (State.span_pos fit), one_mul]
    exact_mod_cast (by omega : (s.levels i).2 - (s.levels i).1 ≤ (s.levels i).2 - (s.sn i).temp)
  rw [s.derate_eq, if_neg (ne_true_of_eq_false steady), min_eq_left full]
  norm_num

theorem State.share_nonpos (hot : (s.levels i).2 ≤ (s.sn i).temp) : s.share i ≤ 0 := by
  unfold State.share
  refine div_nonpos_of_nonpos_of_nonneg ?_ (State.span_pos fit).le
  exact_mod_cast (by omega : (s.levels i).2 - (s.sn i).temp ≤ 0)

theorem State.share_lt_one (warm : (s.levels i).1 < (s.sn i).temp) : s.share i < 1 := by
  unfold State.share
  rw [div_lt_one (State.span_pos fit)]
  exact_mod_cast (by omega : (s.levels i).2 - (s.sn i).temp < (s.levels i).2 - (s.levels i).1)

/-- The share, spread over the span again. -/
theorem State.share_mul_span : max 0 (s.share i) * (((s.levels i).2 - (s.levels i).1 : Int) : Rat) =
    ((max 0 ((s.levels i).2 - (s.sn i).temp) : Int) : Rat) := by
  have span := State.span_pos fit
  rw [max_mul_of_nonneg _ _ span.le, zero_mul, State.share, div_mul_cancel₀ _ span.ne']
  push_cast
  rfl
end

/-! ### ILIM_TH -/

/-- Where the lane is derated, ILIM_TH is the floor of the product. -/
theorem State.thermalLimit_of_below (below : s.factor n ≠ 1) :
    ((s.thermalLimit n).toNat : Int) = (((s.ln n).sense.set.live.limit.toNat : Rat) * s.factor n).floor := by
  rw [s.thermalLimit_toNat, if_neg below]

theorem State.thermalLimit_le {x : Rat} (below : s.factor n ≠ 1) (bound : s.factor n ≤ x) :
    ((s.thermalLimit n).toNat : Rat) ≤ ((s.ln n).sense.set.live.limit.toNat : Rat) * x := by
  have floor := Rat.floor_le (((s.ln n).sense.set.live.limit.toNat : Rat) * s.factor n)
  rw [← State.thermalLimit_of_below below] at floor
  exact (by exact_mod_cast floor : ((s.thermalLimit n).toNat : Rat) ≤ _).trans (mul_le_mul_of_nonneg_left bound (Nat.cast_nonneg _))

/-- ILIM_TH follows the worst of the sensors that derate the lane. -/
theorem State.thermalLimit_spec (s : State) (n : LaneIx) :
    let th := (s.thermalLimit n).toNat
    let ilim := (s.ln n).sense.set.live.limit.toNat
    let acts (i : SensorIx) : Prop := i ∈ sensorsOf n ∧ (s.sn i).counts = true
    let warn (i : SensorIx) : Int := (s.levels i).1
    let stop (i : SensorIx) : Int := (s.levels i).2
    (∀ i, acts i → warn i < stop i) →
    ((∀ i, acts i → (s.sn i).temp ≤ warn i ∧ (s.sn i).rateFlag = false) → th = 0x3FF) ∧
    (∀ i, acts i → stop i ≤ (s.sn i).temp → th = 0) ∧
    (∀ i, acts i → (s.sn i).rateFlag = true → 2 * th ≤ ilim) ∧
    (∀ i, acts i → warn i < (s.sn i).temp → (th : Int) * (stop i - warn i) ≤ ilim * max 0 (stop i - (s.sn i).temp)) ∧
    (th ≠ 0x3FF → ∃ i, acts i ∧ (th : Int) = ((ilim : Rat) * s.derate i).floor) := by
  intro th ilim acts warn stop fit
  refine ⟨fun cool => ?_, fun i h hot => ?_, fun i h flag => ?_, fun i h warm => ?_, fun derated => ?_⟩
  · have full : s.factor n = 1 := by
      by_contra below
      obtain ⟨i, h, value⟩ := s.factor_found below
      exact below (value.trans (State.derate_cool (fit i h) (cool i h).1 (cool i h).2))
    have value := s.thermalLimit_toNat n
    rw [if_pos full] at value
    exact_mod_cast value
  · have zero : s.factor n ≤ 0 := (s.factor_le h).trans ((s.derate_le_share i).trans (by rw [max_eq_left (State.share_nonpos (fit i h) hot)]))
    have bound := State.thermalLimit_le (x := 0) (by linarith) zero
    rw [mul_zero] at bound
    exact Nat.le_zero.1 (by exact_mod_cast bound)
  · have half : s.factor n ≤ 1 / 2 := (s.factor_le h).trans (by rw [s.derate_eq, if_pos flag]; exact min_le_right ..)
    have bound := State.thermalLimit_le (x := 1 / 2) (by linarith) half
    have twice : (2 * th : Rat) ≤ ilim := by linarith
    exact_mod_cast twice
  · have span := State.span_pos (fit i h)
    have least := (s.factor_le h).trans (s.derate_le_share i)
    have below : s.factor n < 1 := least.trans_lt (max_lt (by norm_num) (State.share_lt_one (fit i h) warm))
    have bound := mul_le_mul_of_nonneg_right (State.thermalLimit_le below.ne least) span.le
    rw [mul_assoc, State.share_mul_span (fit i h)] at bound
    exact_mod_cast bound
  · have below : s.factor n ≠ 1 := fun full => derated (by
      have value := s.thermalLimit_toNat n
      rw [if_pos full] at value
      exact_mod_cast value)
    obtain ⟨i, h, value⟩ := s.factor_found below
    exact ⟨i, h, by rw [← value]; exact State.thermalLimit_of_below below⟩

/-! ### ILIM_FR (R574) -/

/-- The part of a range that satisfies a test true up to some bound alone is an initial one. -/
theorem List.length_filter_range_of_le {p : Nat → Bool} (down : ∀ a b, a ≤ b → p b = true → p a = true) (k : Nat) :
    (∀ m < ((List.range k).filter p).length, p m = true) ∧
    (((List.range k).filter p).length < k → p ((List.range k).filter p).length = false) ∧ ((List.range k).filter p).length ≤ k := by
  induction k with
  | zero => simp
  | succ k ih =>
    obtain ⟨below, above, most⟩ := ih
    rw [List.range_succ, List.filter_append, List.length_append]
    by_cases last : p k = true
    · have full : ((List.range k).filter p).length = k := by
        by_contra few
        exact absurd (down _ _ most last) (ne_true_of_eq_false (above (by omega)))
      simp only [List.filter_cons, last, if_true, List.filter_nil, List.length_singleton, full]
      refine ⟨fun m lt => down m k (by omega) last, fun h => absurd h (by omega), le_rfl⟩
    · have off : p k = false := by simpa using last
      simp only [List.filter_cons, off, Bool.false_eq_true, if_false, List.filter_nil, List.length_nil, Nat.add_zero]
      refine ⟨below, fun _ => ?_, by omega⟩
      rcases Nat.lt_or_ge ((List.range k).filter p).length k with lt | ge
      · exact above lt
      · rw [show ((List.range k).filter p).length = k by omega]
        exact off

/-- The limit by the heat frontage is floor(limit x sqrt(front / sum)). -/
theorem frontLimit_spec {limit front sum : Nat} (hot : front < sum) : frontLimit limit front sum ≤ limit ∧
    frontLimit limit front sum * frontLimit limit front sum * sum ≤ limit * limit * front ∧
    (0 < limit → limit * limit * front < (frontLimit limit front sum + 1) * (frontLimit limit front sum + 1) * sum) := by
  have down : ∀ a b : Nat, a ≤ b → decide ((b + 1) * (b + 1) * sum ≤ limit * limit * front) = true →
      decide ((a + 1) * (a + 1) * sum ≤ limit * limit * front) = true := by
    intro a b le h
    rw [decide_eq_true_eq] at h ⊢
    exact (Nat.mul_le_mul_right _ (Nat.mul_le_mul (by omega) (by omega))).trans h
  obtain ⟨below, above, most⟩ := List.length_filter_range_of_le down limit
  change ∀ m < frontLimit limit front sum, _ at below
  change frontLimit limit front sum < limit → decide ((frontLimit limit front sum + 1) * (frontLimit limit front sum + 1) * sum ≤
    limit * limit * front) = false at above
  change frontLimit limit front sum ≤ limit at most
  generalize frontLimit limit front sum = m at below above most ⊢
  refine ⟨most, ?_, fun some => ?_⟩
  · cases m with
    | zero => simp
    | succ m => exact of_decide_eq_true (below m (by omega))
  · rcases Nat.lt_or_ge m limit with lt | ge
    · exact Nat.lt_of_not_le (of_decide_eq_false (above lt))
    · obtain rfl : m = limit := by omega
      calc m * m * front < m * m * sum := Nat.mul_lt_mul_of_pos_left hot (Nat.mul_pos some some)
        _ ≤ (m + 1) * (m + 1) * sum := Nat.mul_le_mul_right _ (Nat.mul_le_mul (by omega) (by omega))

/-- ILIM_FR of one lane at a boundary. -/
def State.frontLane (s : State) (n : LaneIx) : State :=
  s.modLn n fun l => ({ l with sense := { l.sense with ilimFr := s.frontageLimit n } } : Lane).limitsChanged

/-- The heat sum of a pitch, of its lanes' estimates (R572). -/
def State.pitchHeat (r : State) (p : Pitch) : Nat := (laneIxs.map fun n => if r.laneOwner n = some p then (r.ln n).heat.est else 0).sum

/-- The sums of a boundary. -/
def State.withSums (r : State) : State := { r with heat := { r.heat with heatSum := Vector.ofFn fun p => min 32767 (r.pitchHeat p) } }

theorem State.withSums_sum (r : State) (p : Pitch) : r.withSums.heat.heatSum[p] = min 32767 (r.pitchHeat p) := by
  simp [State.withSums]

/-- The estimates of a boundary, and its limits in force. -/
def State.estimated (s : State) : State :=
  ({ s with heat := s.heat.takeLimits } : State).eachLane fun s n => s.modLn n Lane.heatBoundary

theorem State.heatBoundary_eq (s : State) : s.heatBoundary = s.estimated.withSums.eachLane State.frontLane := rfl

theorem LaneStep.frontLane (s : State) (n : LaneIx) : LaneStep n s (s.frontLane n) :=
  (LaneStep.refl n s).modLn _ fun l => by
    unfold Lane.limitsChanged
    split <;> rfl

theorem State.frontLane_ln (s : State) (n : LaneIx) : ((s.frontLane n).ln n).heat = (s.ln n).heat ∧
    ((s.frontLane n).ln n).sense.set = (s.ln n).sense.set ∧ ((s.frontLane n).ln n).sense.ilimFr = s.frontageLimit n := by
  unfold State.frontLane
  dsimp only
  rw [State.ln_modLn]
  unfold Lane.limitsChanged
  split <;> exact ⟨rfl, rfl, rfl⟩

theorem State.estimated_step (s : State) : LanesStep ({ s with heat := s.heat.takeLimits } : State) s.estimated :=
  LanesStep.eachLane fun r n _ => (LaneStep.refl n r).modLn _

/-- The heat boundary limits each lane of a pitch by the sum of its estimates. -/
theorem State.heatBoundary_spec (s : State) (p : Pitch) :
    let u := s.heatBoundary
    let sum := (laneIxs.map fun n => if s.laneOwner n = some p then (u.ln n).heat.est else 0).sum
    u.heat.heatSum[p] = min 32767 sum ∧
    ∀ n : LaneIx, s.laneOwner n = some p →
      let m := (u.ln n).sense.ilimFr.toNat
      let ilim := (u.ln n).sense.set.live.limit.toNat
      (u.heat.warm = true → s.pit.front.heat[p] < min 32767 sum →
        m * m * min 32767 sum ≤ ilim * ilim * s.pit.front.heat[p] ∧
        (0 < ilim → ilim * ilim * s.pit.front.heat[p] < (m + 1) * (m + 1) * min 32767 sum)) ∧
      (u.heat.warm = false ∨ min 32767 sum ≤ s.pit.front.heat[p] → m = 0x3FF) := by
  intro u sum
  have estimates := s.estimated_step
  have shape := s.heatBoundary_eq
  generalize s.estimated = r at estimates shape
  have step : LanesStep r.withSums u := by
    show LanesStep _ s.heatBoundary
    rw [shape]
    exact LanesStep.eachLane fun r n _ => LaneStep.frontLane r n
  have lanes (n : LaneIx) : (u.ln n).heat = (r.ln n).heat ∧ (u.ln n).sense.set = (r.ln n).sense.set ∧
      (u.ln n).sense.ilimFr = r.withSums.frontageLimit n := by
    obtain ⟨w, before, same, -, last⟩ := State.eachLane_at (s := r.withSums) (f := State.frontLane) (fun r n _ => LaneStep.frontLane r n) n
    obtain ⟨heat, set, limit⟩ := w.frontLane_ln n
    rw [← shape] at last
    change u.ln n = _ at last
    rw [last, heat, set, limit, same]
    refine ⟨rfl, rfl, ?_⟩
    unfold State.frontageLimit
    rw [before.laneOwner, before.heat, before.pit, same]
  have owner (n : LaneIx) : r.laneOwner n = s.laneOwner n := estimates.laneOwner n
  have pit : r.withSums.pit = s.pit := estimates.pit
  have total : r.withSums.heat.heatSum[p] = min 32767 sum := by
    rw [r.withSums_sum]
    refine congrArg (min 32767) (congrArg List.sum (List.map_congr_left fun n _ => ?_))
    rw [(lanes n).1, owner n]
  have heat : u.heat = r.withSums.heat := step.heat
  refine ⟨by rw [heat, total], fun n own => ?_⟩
  intro m ilim
  have limit : (u.ln n).sense.ilimFr = if r.withSums.heat.warm = true ∧ s.pit.front.heat[p] < min 32767 sum then
      BitVec.ofNat 10 (frontLimit ilim s.pit.front.heat[p] (min 32767 sum)) else 0x3FF := by
    rw [(lanes n).2.2]
    unfold State.frontageLimit
    rw [show r.withSums.laneOwner n = some p from (owner n).trans own]
    dsimp only
    rw [total, pit, show (r.withSums.ln n).sense.set = (u.ln n).sense.set from (lanes n).2.1.symm]
  have small := (u.ln n).sense.set.live.limit.isLt
  rw [heat]
  refine ⟨fun warm hot => ?_, fun cool => ?_⟩
  · obtain ⟨most, below, above⟩ := frontLimit_spec (limit := ilim) hot
    have value : m = frontLimit ilim s.pit.front.heat[p] (min 32767 sum) := by
      show BitVec.toNat _ = _
      rw [limit, if_pos ⟨warm, hot⟩, BitVec.toNat_ofNat, Nat.mod_eq_of_lt (by omega)]
    rw [value]
    exact ⟨below, above⟩
  · show BitVec.toNat _ = _
    rw [limit, if_neg]
    · rfl
    · rintro ⟨warm, hot⟩
      rcases cool with cold | few
      · exact absurd warm (ne_true_of_eq_false cold)
      · omega

end Sys2Proof.Machine
end


section
/-! SUPPORT. A thermal sample: what it touches, and the value it leaves of its sensor (R544 to R556). -/

namespace Sys2Proof.Machine

set_option Elab.async false

variable {s r u : State} {n : LaneIx} {i : SensorIx} {t : Ticks}

/-! ### What a heat stop and a closure touch -/

/-- From `s` to `t` only the device's record, reports, fuses, lanes, trackers, tallies and trace may have changed. -/
def Heating (s t : State) : Prop := t = { s with dev := t.dev, q := t.q, fuse := t.fuse, lane := t.lane, trk := t.trk, obs := t.obs }

namespace Heating

protected theorem refl (s : State) : Heating s s := rfl

theorem trans (h : Heating s r) (k : Heating r u) : Heating s u := by
  unfold Heating at *
  rw [h] at k
  exact k

theorem heat (h : Heating s r) : r.heat = s.heat := by
  unfold Heating at h
  rw [h]

theorem sn (h : Heating s r) (j : SensorIx) : r.sn j = s.sn j := by rw [State.sn, h.heat, State.sn]

end Heating

theorem LanesStep.heating (h : LanesStep s r) : Heating s r := h.rest.trans (by rw [h.rest])

theorem LaneStep.heating (h : LaneStep n s r) : Heating s r := h.lanes.heating

/-- From `s` to `t` the sensor `i` may have changed besides. -/
structure Sampling (i : SensorIx) (s t : State) : Prop where
  rest : t = { s with dev := t.dev, q := t.q, fuse := t.fuse, lane := t.lane, trk := t.trk, heat := t.heat, obs := t.obs }
  heat : t.heat = { s.heat with sensor := t.heat.sensor }
  others : ∀ j, j ≠ i → t.sn j = s.sn j

namespace Sampling

theorem trans (h : Sampling i s r) (k : Sampling i r u) : Sampling i s u where
  rest := k.rest.trans (by rw [h.rest])
  heat := k.heat.trans (by rw [h.heat])
  others j other := (k.others j other).trans (h.others j other)

end Sampling

theorem Heating.sampling (h : Heating s r) (i : SensorIx) : Sampling i s r where
  rest := by
    have heat := h.heat
    unfold Heating at h
    rw [h]
  heat := by rw [h.heat]
  others j _ := h.sn j

theorem Sampling.modSn (s : State) (i : SensorIx) (f : Sensor → Sensor) : Sampling i s (s.modSn i f) :=
  ⟨rfl, rfl, fun _ other => vmod_ne _ _ _ _ (Ne.symm other)⟩

/-! ### Lanes under a sample -/

theorem LaneStep.heatEvent (h : LaneStep n s r) (p : Pitch) (i : SensorIx) (k : Nat) (w5 w6 w7 : Word) :
    LaneStep n s (r.heatEvent p i k w5 w6 w7) := by
  unfold State.heatEvent
  split
  · exact h.eventFor ..
  · exact h.eventFor ..

theorem LanesStep.heatEvent (h : LanesStep s r) (p : Pitch) (i : SensorIx) (k : Nat) (w5 w6 w7 : Word) :
    LanesStep s (r.heatEvent p i k w5 w6 w7) := h.trans ((LaneStep.refl 0 r).heatEvent ..).lanes

theorem LaneStep.rederate (h : LaneStep n s r) : LaneStep n s (r.rederate n) := by
  unfold State.rederate
  exact h.modLn _ fun l => by
    unfold Lane.limitsChanged
    split <;> rfl

theorem LaneStep.heatOrderly (h : LaneStep n s r) (t : Ticks) : LaneStep n s (r.heatOrderly n t) := by
  unfold State.heatOrderly
  exact (h.beginStop ..).modLn _

theorem LaneStep.heatRecheck (h : LaneStep n s r) (i : SensorIx) (t : Ticks) : LaneStep n s (r.heatRecheck i n t) := by
  unfold State.heatRecheck
  dsimp only
  split
  · split
    · refine (h.applyStop ..).trans ((LaneStep.refl n _).foldl _ (fun w p k => ?_) _)
      split
      · exact k.heatEvent ..
      · exact k
    · exact h
  · exact h

theorem LaneStep.heatStopLane (h : LaneStep n s r) (t : Ticks) : LaneStep n s (r.heatStopLane n t).1 := by
  unfold State.heatStopLane
  dsimp only
  split
  · split
    · exact h.heatOrderly t
    · exact h.beginStop ..
  · split
    · exact h.heatOrderly t
    · exact h.beginStop ..

/-- One lane's part in a heat stop. -/
def State.heatStopOne (t : Ticks) (s : State) (n : LaneIx) : State := if (s.ln n).running then (s.heatStopLane n t).1 else s

theorem LaneStep.heatStopOne (t : Ticks) (s : State) (n : LaneIx) : LaneStep n s (s.heatStopOne t n) := by
  unfold State.heatStopOne
  split
  · exact (LaneStep.refl n s).heatStopLane t
  · exact .refl n s

theorem heatStopStep_fst (t : Ticks) (acc : State × List HeatStopped) (n : LaneIx) :
    (heatStopStep t acc n).1 = acc.1.heatStopOne t n := by
  unfold heatStopStep State.heatStopOne
  split <;> rfl

theorem foldl_heatStopStep_fst (t : Ticks) (l : List LaneIx) (acc : State × List HeatStopped) :
    (l.foldl (heatStopStep t) acc).1 = l.foldl (State.heatStopOne t) acc.1 := by
  induction l generalizing acc with
  | nil => rfl
  | cons n l ih => rw [List.foldl_cons, ih, heatStopStep_fst, List.foldl_cons]

theorem LanesStep.foldl {f : State → LaneIx → State} (hf : ∀ s n, LaneStep n s (f s n)) (l : List LaneIx) (s : State) :
    LanesStep s (l.foldl f s) :=
  List.foldlRecOn _ _ (motive := LanesStep s) (.refl s) fun r h n _ => h.trans (hf r n).lanes

theorem LanesStep.eachPitch {f : State → Pitch → State} (hf : ∀ s p, LanesStep s (f s p)) (s : State) : LanesStep s (s.eachPitch f) :=
  List.foldlRecOn _ _ (motive := LanesStep s) (.refl s) fun r h p _ => h.trans (hf r p)

/-- The lanes of a heat stop, before it is told. -/
def State.heatStopped (s : State) (i : SensorIx) (t : Ticks) : State := (lanesOf i).foldl (State.heatStopOne t) s

theorem LanesStep.heatStopped (s : State) (i : SensorIx) (t : Ticks) : LanesStep s (s.heatStopped i t) :=
  .foldl (fun r n => LaneStep.heatStopOne t r n) _ s

/-- A heat stop tells its owners, and changes no lane beyond its stops. -/
theorem State.heatStop_told (s : State) (i : SensorIx) (t : Ticks) : LanesStep (s.heatStopped i t) (s.heatStop i t) ∧
    (s.heatStop i t).lane = (s.heatStopped i t).lane := by
  have first : ((lanesOf i).foldl (heatStopStep t) (s, [])).1 = s.heatStopped i t := foldl_heatStopStep_fst ..
  unfold State.heatStop
  dsimp only
  rw [first]
  generalize ((lanesOf i).foldl (heatStopStep t) (s, [])).2 = l
  generalize s.heatStopped i t = r
  have event (w : State) (p : Pitch) (l : List HeatStopped) : (w.heatStopEvent i p l).lane = w.lane := by
    unfold State.heatStopEvent State.heatEvent
    split <;> rfl
  have step (w : State) (p : Pitch) (l : List HeatStopped) : LanesStep w (w.heatStopEvent i p l) := (LanesStep.refl w).heatEvent ..
  constructor
  · refine (step r _ l).trans (LanesStep.eachPitch (fun w p => ?_) _)
    split
    · exact .refl w
    · exact step ..
  · refine (List.foldlRecOn _ _ (motive := fun w : State => w.lane = (r.heatStopEvent i (r.sensorPitch i) l).lane) rfl
      fun w h p _ => ?_).trans (event ..)
    split
    · exact h
    · exact (event ..).trans h

theorem LanesStep.heatStop (s : State) (i : SensorIx) (t : Ticks) : LanesStep s (s.heatStop i t) :=
  (LanesStep.heatStopped s i t).trans (s.heatStop_told i t).1

/-- One lane's part in what every sample does. -/
def State.sampleLane (i : SensorIx) (t : Ticks) (s : State) (n : LaneIx) : State :=
  let s := (s.rederate n).heatRecheck i n t
  if (s.ln n).pin then s.drivePins n t else s

theorem LaneStep.sampleLane (i : SensorIx) (t : Ticks) (s : State) (n : LaneIx) : LaneStep n s (s.sampleLane i t n) := by
  have step := ((LaneStep.refl n s).rederate.heatRecheck i t)
  unfold State.sampleLane
  dsimp only
  split
  · exact step.drivePins t
  · exact step

theorem LanesStep.sampleActs (s : State) (i : SensorIx) (t : Ticks) : LanesStep s (s.sampleActs i t) :=
  .foldl (fun r n => LaneStep.sampleLane i t r n) _ s

/-! ### A declared cause -/

theorem State.closeWindow_ana (s : State) (n : TrkIx) (t : Ticks) (w : WinIx) (stay : Bool) : (s.closeWindow n t w stay).ana = s.ana := by
  have edge (r : State) (o : Bool) : (r.windowEdge n w o t).ana = r.ana := by
    unfold State.windowEdge State.trkEvent State.eventTo
    dsimp only
    split <;> rfl
  unfold State.closeWindow
  dsimp only
  split
  · have traced (r : State) (k d : Nat) (a : Word) : (r.traceWheel n k d a).ana = r.ana := by
      unfold State.traceWheel State.traceTo
      split
      · rw [State.trace_eq]
      · rfl
    split
    · exact (edge ..).trans (traced ..)
    · exact traced ..
  · rfl

theorem State.closeWindows_ana (s : State) (n : TrkIx) (t : Ticks) : (s.closeWindows n t).ana = s.ana :=
  List.foldlRecOn _ _ (motive := fun r : State => r.ana = s.ana) rfl fun r h w _ => (r.closeWindow_ana n t w true).trans h

theorem State.fuseStop_ana (s : State) : s.fuseStop.ana = s.ana := by
  have part : s.leavePartial.ana = s.ana := by
    unfold State.leavePartial
    repeat' split
    all_goals rfl
  unfold State.fuseStop
  repeat' split
  · rfl
  · exact part
  · rfl

theorem State.closureEvents_ana (s : State) (c : Nat) (j : Option SensorIx) : (s.closureEvents c j).ana = s.ana :=
  List.foldlRecOn _ _ (motive := fun w : State => w.ana = s.ana) rfl fun _ h _ _ => h

theorem State.closeAllWindows_ana (s : State) (t : Ticks) : (s.eachTrk fun r m => r.closeWindows m t).ana = s.ana :=
  List.foldlRecOn _ _ (motive := fun r : State => r.ana = s.ana) rfl fun r h m _ => (r.closeWindows_ana m t).trans h

theorem State.declareCause_ana (s : State) (c : Nat) (t : Ticks) (j : Option SensorIx) : (s.declareCause c t j).ana = s.ana := by
  have closing (r : State) (a b : Bool) (held : Vector Bool 6) :
      (r.eachLane fun x m => x.closeLane a held[m] b t m).ana = r.ana :=
    (LanesStep.eachLane (s := r) fun x m _ => (LaneStep.refl m x).closeLane ..).ana
  unfold State.declareCause
  dsimp only
  split
  · rfl
  · split
    · rfl
    · refine (closing ..).trans ?_
      split
      · exact State.closureEvents_ana ..
      · exact (State.closeAllWindows_ana ..).trans ((State.abortDiags_spec _).1.ana.trans
          ((State.fuseStop_ana _).trans (State.closureEvents_ana { s with dev := s.dev.recordCause c s.bell.epoch } c j)))

theorem State.declareCause_heating (s : State) (c : Nat) (t : Ticks) (j : Option SensorIx) : Heating s (s.declareCause c t j) := by
  by_cases done : s.atJoined = true → bit s.dev.arisen (c - 1) = true
  · rw [State.declareCause_of_arisen t j done]
    exact .refl s
  · obtain ⟨joined, fresh⟩ := Classical.not_imp.1 done
    obtain ⟨closing, -⟩ := State.declareCause_spec t j joined (by simpa using fresh)
    have rest := closing.rest
    rw [s.declareCause_ana] at rest
    unfold Heating
    rw [rest]

end Sys2Proof.Machine
end


section
/-! SUPPORT. The row THERMAL_SAMPLE, and the row RATE_UPDATE (R542 to R556). -/

namespace Sys2Proof.Machine

set_option Elab.async false

variable {s r u v : State} {n : LaneIx} {i : SensorIx} {t : Ticks}

/-! ### The cases of a sample -/

/-- A sensor's own sample: the mean of the conversions since the last, rounded half away from zero. -/
def Sensor.mean (x : Sensor) : Int := if x.count = 0 then x.own else roundHalfAway x.sum x.count

/-- A sensor whose samples are evaluated. -/
def Sensor.inUse (x : Sensor) : Prop := ¬ (x.notEvaluated = true ∨ x.unavailable = true ∨ x.stale = true)

theorem Sensor.inUse_of {x : Sensor} (h : x.notEvaluated = false) (k : x.unavailable = false) (l : x.stale = false) : x.inUse := by
  simp [Sensor.inUse, h, k, l]

/-- The state in which a sensor has taken its own sample. -/
def State.sampled (s : State) (i : SensorIx) : State := s.modSn i fun x => { x with own := (s.sn i).mean, sum := 0, count := 0 }

theorem execThermalSample_unused (hv : s.lanesTick t = v) (settled : v.atSettled = true)
    (out : (v.sn i).notEvaluated = true ∨ (v.sn i).unavailable = true ∨ (v.sn i).stale = true) :
    exec (.thermalSample i t) s = .next (v.modSn i fun x => { x with sum := 0, count := 0, rung := 0 }) := by
  change execThermalSample i t s = _
  unfold execThermalSample
  rw [hv]
  dsimp only
  rw [if_neg (by simp [settled]), if_pos out]

theorem execThermalSample_substituted (hv : s.lanesTick t = v) (settled : v.atSettled = true) (used : (v.sn i).inUse)
    (sub : (v.sn i).substituted = true) : exec (.thermalSample i t) s = .next ((v.sampled i).takeSample i t) := by
  change execThermalSample i t s = _
  unfold execThermalSample
  rw [hv]
  dsimp only
  rw [if_neg (by simp [settled]), if_neg used, if_pos sub]
  rfl

theorem execThermalSample_judged (hv : s.lanesTick t = v) (settled : v.atSettled = true) (used : (v.sn i).inUse)
    (own : (v.sn i).substituted = false) :
    exec (.thermalSample i t) s = .next ((((v.sampled i).judge i t (v.sn i).mean).2.elim ((v.sampled i).judge i t (v.sn i).mean).1
      fun reason =>
        let r := ((v.sampled i).judge i t (v.sn i).mean).1
        let w := r.modSn i fun x => { x with substituted := true }
        w.heatEvent (w.sensorPitch i) i 0x32 (sword (v.sn i).mean) ((r.heat.median i).elim 0x8000 sword) (word reason)).takeSample i t) := by
  change execThermalSample i t s = _
  unfold execThermalSample
  rw [hv]
  dsimp only
  rw [if_neg (by simp [settled]), if_neg used, if_neg (ne_true_of_eq_false own)]
  unfold State.sampled Sensor.mean
  generalize State.judge _ i t _ = y
  obtain ⟨r, reason⟩ := y
  cases reason with
  | none => rfl
  | some k =>
    dsimp only [Option.elim]
    cases r.heat.median i <;> rfl

/-- A sensor judged sound takes its own sample. -/
theorem execThermalSample_sound (hv : s.lanesTick t = v) (settled : v.atSettled = true) (used : (v.sn i).inUse)
    (own : (v.sn i).substituted = false) (sound : ((v.sampled i).judge i t (v.sn i).mean).2 = none) :
    exec (.thermalSample i t) s = .next (((v.sampled i).judge i t (v.sn i).mean).1.takeSample i t) := by
  rw [execThermalSample_judged hv settled used own, sound]
  rfl

/-! ### What a sample leaves of the sensor -/

/-- What a judgement writes of a sensor: its runs. -/
theorem State.judge_fst (s : State) (i : SensorIx) (t : Ticks) (own : Int) : ∃ a b c,
    (s.judge i t own).1 = s.modSn i fun x => { x with openRun := a, shortRun := b, breakRun := c } := ⟨_, _, _, rfl⟩

/-- WARN of a sensor with its value taken (R556). -/
def State.warnNext (s : State) (i : SensorIx) : Bool :=
  if (s.levels i).1 ≤ (s.sn i).temp then true else if (s.sn i).temp < (s.levels i).1 - 80 then false else (s.sn i).warn

/-- STOP of a sensor with its value taken (R556). -/
def State.stopNext (s : State) (i : SensorIx) : Bool :=
  if (s.levels i).2 ≤ (s.sn i).temp then true else if (s.sn i).temp < (s.levels i).1 then false else (s.sn i).stop

/-- The flags of a sensor's new value. -/
def State.flagged (s : State) (i : SensorIx) : State := s.modSn i fun x => { x with warn := s.warnNext i, stop := s.stopNext i }

/-- The flags of a sensor's new value, WARN told. -/
def State.warned (s : State) (i : SensorIx) : State :=
  let r := s.flagged i
  if s.warnNext i = (s.sn i).warn then r
  else r.heatEvent (r.sensorPitch i) i 0x30 (s.sn i).tempWord (word (bit01 (s.warnNext i))) 0

theorem LanesStep.warned (s : State) (i : SensorIx) : LanesStep (s.flagged i) (s.warned i) := by
  unfold State.warned
  dsimp only
  split
  · exact .refl _
  · exact (LanesStep.refl _).heatEvent ..

theorem State.heatEvent_lane (s : State) (p : Pitch) (i : SensorIx) (k : Nat) (w5 w6 w7 : Word) :
    (s.heatEvent p i k w5 w6 w7).lane = s.lane := by
  unfold State.heatEvent
  split <;> rfl

theorem State.warned_lane (s : State) (i : SensorIx) : (s.warned i).lane = s.lane := by
  unfold State.warned
  dsimp only
  split
  · rfl
  · exact State.heatEvent_lane ..

theorem State.limitsOf_eq (s : State) (i : SensorIx) (t : Ticks) : s.limitsOf i t =
    let r := if s.stopNext i = true ∧ (!(s.sn i).stop) = true then (s.warned i).heatStop i t else s.warned i
    if i.val < 8 ∧ Config.tClose ≤ (s.sn i).temp then r.declareCause 1 t (some i) else r := rfl

theorem State.limitsOf_heating (s : State) (i : SensorIx) (t : Ticks) : Heating (s.flagged i) (s.limitsOf i t) := by
  rw [State.limitsOf_eq]
  dsimp only
  have first : Heating (s.flagged i) (if s.stopNext i = true ∧ (!(s.sn i).stop) = true then (s.warned i).heatStop i t else s.warned i) := by
    split
    · exact ((LanesStep.warned s i).trans (.heatStop ..)).heating
    · exact (LanesStep.warned s i).heating
  split
  · exact first.trans (State.declareCause_heating ..)
  · exact first

/-- A sensor takes the value `x`, and what follows from it. -/
def State.takeValue (s : State) (i : SensorIx) (t : Ticks) (x : Int) : State :=
  let s := s.modSn i fun y => { y with temp := x, hasSample := true }
  let s := s.limitsOf i t
  let r := s.rungOf i
  (s.modSn i fun x => { x with rung := r }).sampleActs i t

theorem State.takeSample_own (own : (s.sn i).substituted = false) : s.takeSample i t = s.takeValue i t (s.sn i).own :=
  if_neg (ne_true_of_eq_false own)

theorem State.takeSample_median {m : Int} (sub : (s.sn i).substituted = true) (median : s.heat.median i = some m) :
    s.takeSample i t = s.takeValue i t m := by
  refine (if_pos sub).trans ?_
  rw [median]
  rfl

theorem State.takeSample_none (sub : (s.sn i).substituted = true) (median : s.heat.median i = none) :
    s.takeSample i t = (s.becomeUnavailable i t).sampleActs i t := by
  refine (if_pos sub).trans ?_
  rw [median]

/-- A value taken: the sensor's value, flags and rung change. -/
theorem State.takeValue_spec (s : State) (i : SensorIx) (t : Ticks) (x : Int) : Sampling i s (s.takeValue i t x) ∧
    ∃ w r, (s.takeValue i t x).sn i = { s.sn i with
      temp := x, hasSample := true, warn := w, rung := r
      stop := (s.modSn i fun y => { y with temp := x, hasSample := true }).stopNext i } := by
  unfold State.takeValue
  dsimp only
  generalize hw : s.modSn i (fun y => { y with temp := x, hasSample := true }) = w
  have valued : w.sn i = { s.sn i with temp := x, hasSample := true } := by rw [← hw, State.sn_modSn]
  have first : Sampling i s w := hw ▸ Sampling.modSn ..
  have limits := w.limitsOf_heating i t
  have flags : (w.limitsOf i t).sn i = { w.sn i with warn := w.warnNext i, stop := w.stopNext i } :=
    (limits.sn i).trans (by rw [State.flagged, State.sn_modSn])
  have sampling : Sampling i w (w.limitsOf i t) := (Sampling.modSn w i _).trans (limits.sampling i)
  generalize w.limitsOf i t = l at flags sampling
  generalize l.rungOf i = g
  have last := (LanesStep.sampleActs (l.modSn i fun y => { y with rung := g }) i t).heating
  refine ⟨first.trans (sampling.trans ((Sampling.modSn ..).trans (last.sampling i))), w.warnNext i, g, ?_⟩
  rw [last.sn, State.sn_modSn, flags, valued]

/-- A substituted sensor becomes unavailable. -/
theorem State.becomeUnavailable_spec (s : State) (i : SensorIx) (t : Ticks) :
    LanesStep (s.modSn i fun x => { x with unavailable := true, warn := false, stop := false, rateFlag := false, rung := 0 })
      (s.becomeUnavailable i t) := by
  unfold State.becomeUnavailable
  dsimp only
  generalize hw : s.modSn i (fun x => { x with unavailable := true, warn := false, stop := false, rateFlag := false, rung := 0 }) = w
  clear hw
  generalize hr : State.heatEvent _ _ i 0x32 _ _ _ = r
  have base : LanesStep w r := by
    rw [← hr]
    refine LanesStep.heatEvent ?_ ..
    split <;> split
    · exact ((LanesStep.refl w).heatEvent ..).heatEvent ..
    · exact (LanesStep.refl w).heatEvent ..
    · exact (LanesStep.refl w).heatEvent ..
    · exact .refl w
  clear hr
  split
  · rename_i n _
    split
    · have stop := base.trans ((LaneStep.refl n r).heatOrderly t).lanes
      split
      · exact stop.heatEvent ..
      · exact stop
    · exact base
  · exact base

/-- A sample in general: the sensor takes its own sample, and its value where it is not substituted afterwards. -/
theorem State.takeSample_spec (s : State) (i : SensorIx) (t : Ticks) : Sampling i s (s.takeSample i t) ∧
    ((s.takeSample i t).sn i).own = (s.sn i).own ∧ ((s.takeSample i t).sn i).sum = (s.sn i).sum ∧
    ((s.takeSample i t).sn i).count = (s.sn i).count ∧ ((s.takeSample i t).sn i).substituted = (s.sn i).substituted ∧
    ((s.sn i).substituted = false → ((s.takeSample i t).sn i).temp = (s.sn i).own ∧ ((s.takeSample i t).sn i).hasSample = true) := by
  have value (x : Int) := s.takeValue_spec i t x
  cases sub : (s.sn i).substituted with
  | false =>
    rw [State.takeSample_own sub]
    obtain ⟨sampling, w, r, last⟩ := value (s.sn i).own
    rw [last]
    exact ⟨sampling, rfl, rfl, rfl, sub, fun _ => ⟨rfl, rfl⟩⟩
  | true =>
    cases median : s.heat.median i with
    | some m =>
      rw [State.takeSample_median sub median]
      obtain ⟨sampling, w, r, last⟩ := value m
      rw [last]
      exact ⟨sampling, rfl, rfl, rfl, sub, fun h => absurd h (by simp)⟩
    | none =>
      rw [State.takeSample_none sub median]
      have step := ((s.becomeUnavailable_spec i t).trans (LanesStep.sampleActs (s.becomeUnavailable i t) i t)).heating
      rw [step.sn, State.sn_modSn]
      exact ⟨(Sampling.modSn ..).trans (step.sampling i), rfl, rfl, rfl, sub, fun h => absurd h (by simp)⟩

/-- A sample of a sensor in use. -/
theorem execThermalSample_used (hv : s.lanesTick t = v) (settled : v.atSettled = true) (used : (v.sn i).inUse) :
    ∃ u, exec (.thermalSample i t) s = .next u ∧ Sampling i v u ∧ (u.sn i).own = (v.sn i).mean ∧ (u.sn i).sum = 0 ∧
      (u.sn i).count = 0 ∧ ((u.sn i).substituted = false → (u.sn i).temp = (v.sn i).mean ∧ (u.sn i).hasSample = true) := by
  have base : Sampling i v (v.sampled i) := .modSn ..
  have own : (v.sampled i).sn i = { v.sn i with own := (v.sn i).mean, sum := 0, count := 0 } := by rw [State.sampled, State.sn_modSn]
  have taken (r : State) (from_ : Sampling i v r) (mean : (r.sn i).own = (v.sn i).mean) (sum : (r.sn i).sum = 0) (count : (r.sn i).count = 0) :
      Sampling i v (r.takeSample i t) ∧ ((r.takeSample i t).sn i).own = (v.sn i).mean ∧ ((r.takeSample i t).sn i).sum = 0 ∧
        ((r.takeSample i t).sn i).count = 0 ∧ (((r.takeSample i t).sn i).substituted = false →
          ((r.takeSample i t).sn i).temp = (v.sn i).mean ∧ ((r.takeSample i t).sn i).hasSample = true) := by
    obtain ⟨sampling, a, b, c, sub, d⟩ := r.takeSample_spec i t
    exact ⟨from_.trans sampling, a.trans mean, b.trans sum, c.trans count, fun h => by rw [← mean]; exact d (sub ▸ h)⟩
  cases sub : (v.sn i).substituted with
  | true =>
    exact ⟨_, execThermalSample_substituted hv settled used sub, taken _ base (by rw [own]) (by rw [own]) (by rw [own])⟩
  | false =>
    refine ⟨_, execThermalSample_judged hv settled used sub, taken _ ?_ ?_ ?_ ?_⟩
    all_goals
      obtain ⟨a, b, c, runs⟩ := (v.sampled i).judge_fst i t (v.sn i).mean
      cases ((v.sampled i).judge i t (v.sn i).mean).2 <;> dsimp only [Option.elim] <;> rw [runs]
    · exact base.trans (.modSn ..)
    · exact base.trans ((Sampling.modSn ..).trans ((Sampling.modSn ..).trans (((LanesStep.refl _).heatEvent ..).heating.sampling i)))
    all_goals simp [(((LanesStep.refl _).heatEvent _ _ _ _ _ _)).heating.sn, own]

/-! ### A rate update -/

/-- From `s` to `t` only sensors changed, and events joined those on their way. -/
structure Rating (s t : State) : Prop where
  rest : t = { s with heat := t.heat, q := t.q }
  heat : t.heat = { s.heat with sensor := t.heat.sensor }
  events : t.q = { s.q with events := t.q.events }

namespace Rating

protected theorem refl (s : State) : Rating s s := ⟨rfl, rfl, rfl⟩

theorem trans (h : Rating s r) (k : Rating r u) : Rating s u where
  rest := k.rest.trans (by rw [h.rest])
  heat := k.heat.trans (by rw [h.heat])
  events := k.events.trans (by rw [h.events])

theorem modSn (s : State) (i : SensorIx) (f : Sensor → Sensor) : Rating s (s.modSn i f) := ⟨rfl, rfl, rfl⟩

theorem heatEvent (s : State) (p : Pitch) (i : SensorIx) (k : Nat) (w5 w6 w7 : Word) :
    Rating s (s.heatEvent p i k w5 w6 w7) ∧ (s.heatEvent p i k w5 w6 w7).heat = s.heat := by
  unfold State.heatEvent
  split <;> exact ⟨⟨rfl, rfl, rfl⟩, rfl⟩

end Rating

/-- What a rate update makes of a sensor's history, rate and flags. -/
def Sensor.Rated (i : SensorIx) (x y : Sensor) : Prop :=
  y.temp = x.temp ∧ y.warn = x.warn ∧ y.stop = x.stop ∧
    (x.counts = true → y.hist = (x.temp :: x.hist).take 64 ∧ ∀ old, x.hist[(if i.val < 8 then 8 else 64) - 1]? = some old →
      y.rate = (x.temp - old) * (if i.val < 8 then 8 else 1))

/-- A sensor takes a rate, with the runs and the flag `f` that follow. -/
def State.rateTaken (s : State) (i : SensorIx) (x : Int) (a b : Nat) (f : Bool) : State :=
  let w := s.modSn i fun y => { y with hist := ((s.sn i).temp :: (s.sn i).hist).take 64, rate := x, rateHigh := a, rateLow := b, rateFlag := f }
  if f = (s.sn i).rateFlag then w else w.heatEvent (w.sensorPitch i) i 0x33 (sword (rateShown x)) (word (bit01 f)) 0

theorem State.rateTaken_spec (s : State) {x : Int} (rate : (s.sn i).newRate i = some x) (a b : Nat) (f : Bool) :
    Rating s (s.rateTaken i x a b f) ∧ (∀ j, i ≠ j → (s.rateTaken i x a b f).sn j = s.sn j) ∧
      Sensor.Rated i (s.sn i) ((s.rateTaken i x a b f).sn i) := by
  unfold State.rateTaken
  dsimp only
  have rated : Sensor.Rated i (s.sn i) { s.sn i with
      hist := ((s.sn i).temp :: (s.sn i).hist).take 64, rate := x, rateHigh := a, rateLow := b, rateFlag := f } := by
    refine ⟨rfl, rfl, rfl, fun _ => ⟨rfl, fun old h => ?_⟩⟩
    rw [Sensor.newRate, rateWindow, h] at rate
    exact (Option.some.inj rate).symm
  generalize hg : (fun y : Sensor => { y with
    hist := ((s.sn i).temp :: (s.sn i).hist).take 64, rate := x, rateHigh := a, rateLow := b, rateFlag := f }) = g
  replace rated : Sensor.Rated i (s.sn i) (g (s.sn i)) := hg ▸ rated
  have other (j : SensorIx) (h : i ≠ j) : (s.modSn i g).sn j = s.sn j := State.sn_modSn_ne s i j g h
  have mine : (s.modSn i g).sn i = g (s.sn i) := State.sn_modSn ..
  have step := Rating.modSn s i g
  generalize s.modSn i g = w at other mine step
  split
  · exact ⟨step, other, mine ▸ rated⟩
  · obtain ⟨more, same⟩ := Rating.heatEvent w (w.sensorPitch i) i 0x33 (sword (rateShown x)) (word (bit01 f)) 0
    generalize w.heatEvent (w.sensorPitch i) i 0x33 (sword (rateShown x)) (word (bit01 f)) 0 = e at more same
    have sn (j : SensorIx) : e.sn j = w.sn j := by rw [State.sn, same, State.sn]
    exact ⟨step.trans more, fun j h => (sn j).trans (other j h), (sn i).trans mine ▸ rated⟩

theorem State.rateStep_spec (s : State) (i : SensorIx) : Rating s (s.rateStep i) ∧ (∀ j, i ≠ j → (s.rateStep i).sn j = s.sn j) ∧
    Sensor.Rated i (s.sn i) ((s.rateStep i).sn i) := by
  have other (f : Sensor → Sensor) (j : SensorIx) (h : i ≠ j) : (s.modSn i f).sn j = s.sn j := State.sn_modSn_ne s i j f h
  unfold State.rateStep
  dsimp only
  split
  · rename_i out
    refine ⟨.modSn .., other _, ?_⟩
    rw [State.sn_modSn]
    refine ⟨rfl, rfl, rfl, fun counts => ?_⟩
    simp only [Sensor.counts, Sensor.available, Bool.and_eq_true, Bool.not_eq_true'] at counts out
    grind
  · split
    · rename_i rate
      refine ⟨.modSn .., other _, ?_⟩
      rw [State.sn_modSn]
      refine ⟨rfl, rfl, rfl, fun _ => ⟨rfl, fun old h => ?_⟩⟩
      rw [Sensor.newRate, rateWindow, h] at rate
      cases rate
    · rename_i rate
      exact s.rateTaken_spec rate ..

theorem foldl_rateStep_spec (l : List SensorIx) (nodup : l.Nodup) (s : State) : Rating s (l.foldl State.rateStep s) ∧
    (∀ j, j ∉ l → (l.foldl State.rateStep s).sn j = s.sn j) ∧ ∀ j ∈ l, Sensor.Rated j (s.sn j) ((l.foldl State.rateStep s).sn j) := by
  induction l generalizing s with
  | nil => exact ⟨.refl s, fun _ _ => rfl, fun _ h => nomatch h⟩
  | cons i l ih =>
    obtain ⟨step, others, mine⟩ := s.rateStep_spec i
    obtain ⟨notin, nodup⟩ := List.nodup_cons.1 nodup
    obtain ⟨steps, outside, inside⟩ := ih nodup (s.rateStep i)
    refine ⟨step.trans steps, fun j h => ?_, fun j h => ?_⟩
    · obtain ⟨head, tail⟩ := not_or.1 (List.mem_cons.not.1 h)
      exact (outside j tail).trans (others j (Ne.symm head))
    · by_cases e : j = i
      · subst e
        rw [List.foldl_cons, outside j notin]
        exact mine
      · have k := inside j (List.mem_of_ne_of_mem e h)
        rwa [others j (Ne.symm e)] at k

theorem sensorIxs_nodup : sensorIxs.Nodup := by decide
theorem mem_sensorIxs (i : SensorIx) : i ∈ sensorIxs := by revert i; decide

/-! ### The obligation -/

/-- Settles O50: a sample changes its own sensor beside lanes, reports and what a closure stops, and a rate update each sensor in turn. -/
theorem temperaturesAreSampledAndRated : Obligations.TemperaturesAreSampledAndRated := by
  unfold Obligations.TemperaturesAreSampledAndRated
  refine ⟨fun s i j raw settled same => ?_, fun s i t settled out => ?_, fun s i t settled evaluated available fresh => ?_, fun s t settled => ?_⟩
  · obtain rfl : (⟨i.val, Nat.lt_trans i.isLt (by decide)⟩ : SensorIx) = j := Fin.ext same.symm
    exact if_pos settled
  · have heat := State.lanesTick_heat s t
    generalize hv : s.lanesTick t = v at heat
    have sn : v.sn i = s.sn i := by rw [State.sn, heat, State.sn]
    refine execThermalSample_unused hv ?_ (sn ▸ out)
    rw [← hv]
    simpa using settled
  · have step := LanesStep.lanesTick s t
    have settled : (s.lanesTick t).atSettled = true := by simpa using settled
    generalize hv : s.lanesTick t = v at step settled
    have sn (j : SensorIx) : v.sn j = s.sn j := by rw [State.sn, step.heat]; rfl
    obtain ⟨u, next, sampling, own, sum, count, value⟩ :=
      execThermalSample_used (i := i) hv settled (sn i ▸ Sensor.inUse_of evaluated available fresh)
    rw [sn i] at own value
    refine ⟨u, next, sampling.rest.trans (by rw [step.rest]), sampling.heat.trans (by rw [step.heat]; rfl),
      fun j h => (sampling.others j h).trans (sn j), own, sum, count, value⟩
  · obtain ⟨rating, -, each⟩ := foldl_rateStep_spec sensorIxs sensorIxs_nodup (s.tick t)
    refine ⟨_, if_pos settled, rating.rest, rating.heat, rating.events, fun i => each i (mem_sensorIxs i)⟩

end Sys2Proof.Machine
end


section
/-! SUPPORT. The thermal limit after a sample (R570). -/

namespace Sys2Proof.Machine

set_option Elab.async false

variable {s r u v : State} {n : LaneIx} {i : SensorIx} {t : Ticks}

/-! ### What a sample's stops keep of a lane's limits -/

/-- What a lane's thermal limit is formed from and what it is: ILIM_TH, the SENSE set and the HEAT set in force. -/
def Lane.thermal (l : Lane) : BitVec 10 × Batten SenseSet × HeatSet := (l.sense.ilimTh, l.sense.set, l.heat.live)

theorem Lane.thermal_setBridges (l : Lane) (bs : Vector HalfBridge 3) (k : Nat) : (l.setBridges bs k).thermal = l.thermal := by
  unfold Lane.thermal Lane.setBridges
  dsimp only
  split <;> rfl

namespace State

theorem thermal_drive (s : State) (n : LaneIx) (t : Ticks) : ((s.drive n t).ln n).thermal = (s.ln n).thermal := by
  obtain ⟨bs, k, h⟩ := s.ln_drive n t
  rw [h, Lane.thermal_setBridges]

theorem thermal_gatesOff (s : State) (n : LaneIx) (t : Ticks) : ((s.gatesOff n t).ln n).thermal = (s.ln n).thermal := by
  obtain ⟨bs, h⟩ := s.ln_gatesOff n t
  rw [h, Lane.thermal_setBridges]

theorem thermal_drivePins (s : State) (n : LaneIx) (t : Ticks) : ((s.drivePins n t).ln n).thermal = (s.ln n).thermal := by
  refine (thermal_drive (s.pinGuard n) n t).trans ?_
  rcases s.pinGuard_cases n with h | ⟨i, bs, h⟩ <;> rw [h]
  rw [ln_modLn]
  change ((s.countTrip n i).ln n).thermal = _
  rw [ln_countTrip]
  rfl

theorem thermal_toStopped (s : State) (n : LaneIx) (t : Ticks) : ((s.toStopped n t).ln n).thermal = (s.ln n).thermal := by
  obtain ⟨bs, k, bs', k', h⟩ := s.ln_toStopped n t
  rw [h, Lane.thermal_setBridges, Lane.thermal_setBridges]
  rfl

theorem thermal_applyStop (s : State) (n : LaneIx) (t : Ticks) (m : StopMode) (ms : Nat) (heat : Bool) :
    ((s.applyStop n t m ms heat).ln n).thermal = (s.ln n).thermal := by
  cases m with
  | coast => exact thermal_toStopped ..
  | brake =>
    refine (thermal_drive ..).trans ((thermal_gatesOff ..).trans ?_)
    rw [ln_laneState, ln_modLn]
    rfl
  | ramp =>
    refine (thermal_drive ..).trans ?_
    rw [ln_laneState, ln_modLn]
    rfl

/-- What follows an immediate heat stop are reports. -/
theorem heatRecheck_cases (s : State) (i : SensorIx) (n : LaneIx) (t : Ticks) : s.heatRecheck i n t = s ∨
    ∃ m ms, LanesStep (s.applyStop n t m ms true) (s.heatRecheck i n t) ∧ (s.heatRecheck i n t).lane = (s.applyStop n t m ms true).lane := by
  unfold heatRecheck
  dsimp only
  split
  · split
    · refine .inr ⟨(s.ln n).stopMode .brake true, (s.ln n).declaredMs ((s.ln n).stopMode .brake true), ?_⟩
      generalize s.applyStop n t _ _ true = w
      refine ⟨LanesStep.eachPitch (fun x p => ?_) w, ?_⟩
      · split
        · exact (LanesStep.refl x).heatEvent ..
        · exact .refl x
      · refine List.foldlRecOn _ _ (motive := fun x : State => x.lane = w.lane) rfl fun x h p _ => ?_
        split
        · exact (x.heatEvent_lane ..).trans h
        · exact h
    · exact .inl rfl
  · exact .inl rfl

theorem thermal_heatRecheck (s : State) (i : SensorIx) (n : LaneIx) (t : Ticks) :
    ((s.heatRecheck i n t).ln n).thermal = (s.ln n).thermal := by
  rcases s.heatRecheck_cases i n t with h | ⟨m, ms, -, h⟩
  · rw [h]
  · rw [ln_of_lane h, thermal_applyStop]

theorem ln_rederate (s : State) (n : LaneIx) : ∃ e, (s.rederate n).ln n =
    { s.ln n with sense := { (s.ln n).sense with ilimTh := s.thermalLimit n, ilimEff := e } } := by
  unfold rederate
  rw [ln_modLn]
  unfold Lane.limitsChanged
  split
  · exact ⟨_, rfl⟩
  · exact ⟨_, rfl⟩

theorem thermal_sampleLane (i : SensorIx) (t : Ticks) (s : State) (n : LaneIx) : ((s.sampleLane i t n).ln n).thermal =
    (s.thermalLimit n, (s.ln n).sense.set, (s.ln n).heat.live) := by
  obtain ⟨e, lane⟩ := s.ln_rederate n
  have step : (((s.rederate n).heatRecheck i n t).ln n).thermal = (s.thermalLimit n, (s.ln n).sense.set, (s.ln n).heat.live) := by
    rw [thermal_heatRecheck, lane]
    rfl
  unfold sampleLane
  dsimp only
  split
  · rw [thermal_drivePins, step]
  · exact step

/-! ### The thermal limit -/

theorem levels_of (s r : State) (i : SensorIx) (heat : r.heat = s.heat) (live : ∀ n, sensorLane i = some n → (r.ln n).heat.live = (s.ln n).heat.live) :
    r.levels i = s.levels i := by
  unfold levels
  rw [heat]
  split
  · rename_i n at_
    rw [live n at_]
  · rfl

/-- The sensors that act on a lane are its own and two of no lane. -/
theorem sensorLane_of_mem {i : SensorIx} {n m : LaneIx} (h : i ∈ sensorsOf n) (at_ : sensorLane i = some m) : m = n := by
  revert i n m
  decide

theorem thermalLimit_of (s r : State) (n : LaneIx) (heat : r.heat = s.heat) (set : (r.ln n).sense.set = (s.ln n).sense.set)
    (live : (r.ln n).heat.live = (s.ln n).heat.live) : r.thermalLimit n = s.thermalLimit n := by
  have sn (j : SensorIx) : r.sn j = s.sn j := by rw [sn, heat, sn]
  have one (j : SensorIx) (h : j ∈ sensorsOf n) : r.derate j = s.derate j := by
    have levels := s.levels_of r j heat fun m at_ => by rw [sensorLane_of_mem h at_, live]
    unfold derate
    rw [levels, sn]
  have factor : r.factor n = s.factor n := by
    unfold factor
    simp only [sn]
    exact List.foldl_ext _ _ _ fun m j h => by rw [one j (List.mem_of_mem_filter h)]
  have shape (x : State) : x.thermalLimit n = if x.factor n = 1 then 0x3FF
      else BitVec.ofNat 10 (((x.ln n).sense.set.live.limit.toNat : Rat) * x.factor n).floor.toNat := rfl
  rw [shape, shape, factor, set]

end State

theorem lanesOf_nodup (i : SensorIx) : (lanesOf i).Nodup := by
  revert i
  decide

/-- After what a sample does on its lanes, each of them has its thermal limit as it stands. -/
theorem State.sampleActs_limit (s : State) {i : SensorIx} {t : Ticks} {n : LaneIx} (acts : n ∈ lanesOf i) :
    ((s.sampleActs i t).ln n).sense.ilimTh = (s.sampleActs i t).thermalLimit n := by
  obtain ⟨w, -, -, rest, last⟩ := (LanesStep.refl s).foldl_at (f := fun r m => r.sampleLane i t m)
    (fun r m _ => LaneStep.sampleLane i t r m) (lanesOf_nodup i) acts
  change LanesStep (w.sampleLane i t n) (s.sampleActs i t) at rest
  change (s.sampleActs i t).ln n = _ at last
  generalize s.sampleActs i t = u at rest last
  have lane := State.thermal_sampleLane i t w n
  rw [← last] at lane
  have heat : u.heat = w.heat := rest.heat.trans (LaneStep.sampleLane i t w n).lanes.heat
  unfold Lane.thermal at lane
  obtain ⟨limit, rest⟩ := Prod.mk.inj lane
  obtain ⟨set, live⟩ := Prod.mk.inj rest
  rw [limit, w.thermalLimit_of u n heat set live]

/-! ### A sound sample that closes no market -/

/-- The state in which a sensor has taken its own sample as its value. -/
def State.valued (s : State) (i : SensorIx) (t : Ticks) : State :=
  ((s.sampled i).judge i t (s.sn i).mean).1.modSn i fun x => { x with temp := (s.sn i).mean, hasSample := true }

theorem State.sn_valued (s : State) (i : SensorIx) (t : Ticks) : ∃ a b c, (s.valued i t).sn i = { s.sn i with
    own := (s.sn i).mean, sum := 0, count := 0, openRun := a, shortRun := b, breakRun := c, temp := (s.sn i).mean, hasSample := true } := by
  obtain ⟨a, b, c, runs⟩ := (s.sampled i).judge_fst i t (s.sn i).mean
  refine ⟨a, b, c, ?_⟩
  rw [State.valued, runs, State.sn_modSn, State.sn_modSn, State.sampled, State.sn_modSn]

theorem State.valued_sampling (s : State) (i : SensorIx) (t : Ticks) : Sampling i s (s.valued i t) := by
  obtain ⟨a, b, c, runs⟩ := (s.sampled i).judge_fst i t (s.sn i).mean
  rw [State.valued, runs]
  exact (Sampling.modSn ..).trans ((Sampling.modSn ..).trans (.modSn ..))

/-- The state a sample leaves before what every sample does on its lanes, below T_CLOSE. -/
def State.heatTaken (s : State) (i : SensorIx) (t : Ticks) : State :=
  let r := if s.stopNext i = true ∧ (!(s.sn i).stop) = true then (s.warned i).heatStop i t else s.warned i
  r.modSn i fun x => { x with rung := r.rungOf i }

/-- A sound sample below T_CLOSE. -/
theorem execThermalSample_cool (hv : s.lanesTick t = v) (settled : v.atSettled = true) (used : (v.sn i).inUse)
    (own : (v.sn i).substituted = false) (sound : ((v.sampled i).judge i t (v.sn i).mean).2 = none)
    (cool : i.val < 8 → (v.sn i).mean < Config.tClose) :
    exec (.thermalSample i t) s = .next (((v.valued i t).heatTaken i t).sampleActs i t) := by
  rw [execThermalSample_sound hv settled used own sound]
  obtain ⟨a, b, c, lane⟩ := v.sn_valued i t
  have cold : ¬ (i.val < 8 ∧ Config.tClose ≤ ((v.valued i t).sn i).temp) := by
    rw [lane]
    rintro ⟨die, hot⟩
    exact absurd hot (not_le.2 (cool die))
  obtain ⟨a, b, c, runs⟩ := (v.sampled i).judge_fst i t (v.sn i).mean
  have mine : (((v.sampled i).judge i t (v.sn i).mean).1.sn i).substituted = false ∧
      (((v.sampled i).judge i t (v.sn i).mean).1.sn i).own = (v.sn i).mean := by
    rw [runs, State.sn_modSn, State.sampled, State.sn_modSn]
    exact ⟨own, rfl⟩
  rw [State.takeSample_own mine.1, mine.2]
  have limits := (v.valued i t).limitsOf_eq i t
  rw [if_neg cold] at limits
  have shape : ((v.sampled i).judge i t (v.sn i).mean).1.takeValue i t (v.sn i).mean =
    (((v.valued i t).limitsOf i t).modSn i fun x => { x with rung := ((v.valued i t).limitsOf i t).rungOf i }).sampleActs i t := rfl
  rw [shape, limits]
  rfl

/-- A sound sample below T_CLOSE: the sensor's value and its STOP. -/
theorem State.heatTaken_sn (s : State) (i : SensorIx) (t : Ticks) :
    (((s.heatTaken i t).sampleActs i t).sn i).temp = (s.sn i).temp ∧
    (((s.heatTaken i t).sampleActs i t).sn i).stop = s.stopNext i := by
  rw [(LanesStep.sampleActs ..).heating.sn]
  unfold State.heatTaken
  dsimp only
  rw [State.sn_modSn]
  have step : Heating (s.flagged i) (if s.stopNext i = true ∧ (!(s.sn i).stop) = true then (s.warned i).heatStop i t else s.warned i) := by
    split
    · exact ((LanesStep.warned s i).trans (.heatStop ..)).heating
    · exact (LanesStep.warned s i).heating
  rw [step.sn, State.flagged, State.sn_modSn]
  exact ⟨rfl, rfl⟩

/-! ### The obligation -/

/-- Settles O53: a sample forms the limits of its lanes anew, the limit is the least product, and a boundary forms sums and front limits. -/
theorem deratingFollowsTheSensors : Obligations.DeratingFollowsTheSensors := by
  unfold Obligations.DeratingFollowsTheSensors
  refine ⟨fun s i t settled evaluated available fresh own => ?_, State.thermalLimit_spec, State.heatBoundary_spec⟩
  have step := LanesStep.lanesTick s t
  have settled : (s.lanesTick t).atSettled = true := by simpa using settled
  generalize hv : s.lanesTick t = v at step settled
  have sn : v.sn i = s.sn i := by rw [State.sn, step.heat]; rfl
  intro mean sound cool
  have mean_eq : mean = (v.sn i).mean := by rw [sn]; rfl
  clear_value mean
  subst mean_eq
  have next := execThermalSample_cool hv settled (sn ▸ Sensor.inUse_of evaluated available fresh) (sn ▸ own) sound cool
  obtain ⟨temp, -⟩ := (v.valued i t).heatTaken_sn i t
  obtain ⟨a, b, c, lane⟩ := v.sn_valued i t
  rw [lane] at temp
  exact ⟨_, next, temp, fun n acts => State.sampleActs_limit _ acts⟩

end Sys2Proof.Machine
end


section
/-! SUPPORT. Heat stops: their path, what they tell, and their watch (R562 to R568). -/

namespace Sys2Proof.Machine

set_option Elab.async false

variable {s r u v : State} {n : LaneIx} {i : SensorIx} {t : Ticks}

/-! ### A prediction depends on the sensors and the lane's levels -/

/-- The sensors read alike where predictions look, and lane `n` has the same levels. -/
structure Predicts (n : LaneIx) (s r : State) : Prop where
  heat : r.heat = { s.heat with sensor := r.heat.sensor }
  live : (r.ln n).heat.live = (s.ln n).heat.live
  sensors : ∀ j, (r.sn j).available = (s.sn j).available ∧ (r.sn j).temp = (s.sn j).temp ∧ (r.sn j).rate = (s.sn j).rate

theorem State.levels_of_heat (s r : State) (i : SensorIx) (heat : r.heat = { s.heat with sensor := r.heat.sensor })
    (live : ∀ n, sensorLane i = some n → (r.ln n).heat.live = (s.ln n).heat.live) : r.levels i = s.levels i := by
  have warn : r.heat.tWarn = s.heat.tWarn := by rw [heat]; rfl
  have stop : r.heat.tStop = s.heat.tStop := by rw [heat]; rfl
  unfold State.levels
  rw [warn, stop]
  split
  · rename_i n at_
    rw [live n at_]
  · rfl

theorem Predicts.predict (h : Predicts n s r) : r.predict n = s.predict n := by
  rw [State.predict_eq, State.predict_eq]
  refine congrArg (List.foldl shorter none) (List.map_congr_left fun j mem => ?_)
  have levels := s.levels_of_heat r j h.heat fun m at_ => by rw [State.sensorLane_of_mem mem at_, h.live]
  obtain ⟨available, temp, rate⟩ := h.sensors j
  unfold State.predictOne State.ceiling
  rw [levels, available, temp, rate]

/-! ### The stop of one lane -/

theorem State.applyStop_stopping (s : State) (n : LaneIx) (t : Ticks) (m : StopMode) (ms : Nat) (heat : Bool) :
    ((s.applyStop n t m ms heat).ln n).com.stopping =
      if m = .coast then none else some { mode := m, since := t, declaredMs := ms, heat := heat } := by
  cases m with
  | coast =>
    obtain ⟨bs, k, bs', k', h⟩ := s.ln_toStopped n t
    rw [State.applyStop_coast, h]
    rfl
  | brake =>
    rw [if_neg (by decide)]
    refine (congrArg LaneCommut.stopping (State.drive_com ..)).trans ((congrArg LaneCommut.stopping (State.gatesOff_com ..)).trans ?_)
    rw [State.ln_laneState, State.ln_modLn]
    rfl
  | ramp =>
    rw [if_neg (by decide)]
    refine (congrArg LaneCommut.stopping (State.drive_com ..)).trans ?_
    rw [State.ln_laneState, State.ln_modLn]
    rfl

/-- A lane has stopped, or keeps the stop `m` that began at `t`. -/
structure Lane.Stops (t : Ticks) (m : StopMode) (ms : Nat) (heat orderly : Bool) (k : LaneCommut) : Prop where
  state : k.state = if m = .coast then .stopped else .stopping
  stopping : k.stopping = if m = .coast then none
    else some { mode := m, since := t, declaredMs := ms, heat := heat, orderlyHeat := orderly }

theorem State.applyStop_stops (s : State) (n : LaneIx) (t : Ticks) (m : StopMode) (ms : Nat) (heat : Bool) :
    Lane.Stops t m ms heat false ((s.applyStop n t m ms heat).ln n).com :=
  ⟨s.applyStop_state .., s.applyStop_stopping ..⟩

/-- A stop of a running lane that does not stop yet begins. -/
theorem State.beginStop_stops (s : State) (n : LaneIx) (t : Ticks) (m : StopMode) (heat : Bool) (cmd : Option Applied) (o : Word)
    (line : Bool) (running : (s.ln n).running = true) (free : (s.ln n).com.state ≠ .stopping) :
    Lane.Stops t ((s.ln n).stopMode m heat) ((s.ln n).declaredMs ((s.ln n).stopMode m heat)) heat false
      ((s.beginStop n t m heat cmd o line).ln n).com := by
  have fresh : ¬ (s.ln n).keepsStop t m heat = true := by simp [Lane.keepsStop, free]
  unfold State.beginStop
  dsimp only
  rw [if_neg (by simp [running]), if_neg fresh]
  exact State.applyStop_stops ..

theorem State.heatOrderly_stops (s : State) (n : LaneIx) (t : Ticks) (running : (s.ln n).running = true)
    (free : (s.ln n).com.state ≠ .stopping) :
    let m := (s.ln n).stopMode (s.ln n).com.set.live.stopMode false
    Lane.Stops t m ((s.ln n).declaredMs m) false true ((s.heatOrderly n t).ln n).com := by
  intro m
  obtain ⟨state, stopping⟩ := s.beginStop_stops n t (s.ln n).com.set.live.stopMode false none 6 false running free
  unfold State.heatOrderly
  dsimp only
  rw [State.ln_modLn]
  refine ⟨state, ?_⟩
  dsimp only
  rw [stopping]
  split
  · rfl
  · rw [Option.map_some, if_pos rfl]

/-- The safe levels leave nothing to brake with, or no time to. -/
theorem Lane.stopMode_brake (l : Lane) : l.stopMode .brake true =
    if l.com.set.live.brakeMs = 0 ∨ ∀ k : PhaseIx, safeLow l.car.policy k = false then .coast else .brake := by
  have all : (phaseIxs.any fun k => safeLow l.car.policy k) = true ↔ ¬ ∀ k : PhaseIx, safeLow l.car.policy k = false := by
    have mem : ∀ k : PhaseIx, k ∈ phaseIxs := by decide
    rw [List.any_eq_true]
    simp only [not_forall, Bool.not_eq_false]
    exact ⟨fun ⟨k, _, low⟩ => ⟨k, low⟩, fun ⟨k, low⟩ => ⟨k, mem k, low⟩⟩
  unfold Lane.stopMode Lane.modeAs
  rw [if_pos rfl]
  dsimp only
  by_cases none : ∀ k : PhaseIx, safeLow l.car.policy k = false
  · rw [if_neg fun h => all.1 h none, if_pos (.inr none)]
  · rw [if_pos (all.2 none)]
    simp [none]

/-- Whether a predicted time leaves an orderly stop its time (R562). -/
def State.orderlyAt (s : State) (n : LaneIx) : Bool := !(s.predict n).any fun x => decide (x ≤ (((s.ln n).declared + 10 : Nat) : Rat))

theorem State.heatStopLane_eq (s : State) (n : LaneIx) (t : Ticks) : s.heatStopLane n t =
    (if s.orderlyAt n = true then s.heatOrderly n t else s.beginStop n t .brake true none 6 false, s.orderlyAt n, s.predict n) := by
  unfold State.heatStopLane State.orderlyAt
  dsimp only
  cases s.predict n with
  | none => rfl
  | some x =>
    have same : decide (x > (((s.ln n).declared + 10 : Nat) : Rat)) = !decide (x ≤ (((s.ln n).declared + 10 : Nat) : Rat)) := by
      rw [← decide_not]
      exact decide_eq_decide.2 not_le.symm
    rw [Option.any_some, ← same]

/-! ### The watch over an orderly stop (R564) -/

theorem State.heatRecheck_idle (s : State) (i : SensorIx) (n : LaneIx) (t : Ticks)
    (idle : ∀ st x, (s.ln n).com.stopping = some st → s.predict n = some x → st.orderlyHeat = true → st.since < t →
      ((st.since + st.declaredMs * Config.ticksPerMs - t : Nat) : Rat) < x * Config.ticksPerMs) : s.heatRecheck i n t = s := by
  unfold State.heatRecheck
  dsimp only
  split
  · rename_i st x stopping time
    exact if_neg fun ⟨heat, before, due⟩ => absurd due (not_le.2 (idle st x stopping time heat before))
  · rfl

theorem State.heatRecheck_due (s : State) (i : SensorIx) (n : LaneIx) (t : Ticks) {st : Stopping} {x : Rat}
    (stopping : (s.ln n).com.stopping = some st) (time : s.predict n = some x) (heat : st.orderlyHeat = true) (before : st.since < t)
    (due : x * Config.ticksPerMs ≤ ((st.since + st.declaredMs * Config.ticksPerMs - t : Nat) : Rat)) :
    (s.heatRecheck i n t).lane = (s.applyStop n t ((s.ln n).stopMode .brake true)
      ((s.ln n).declaredMs ((s.ln n).stopMode .brake true)) true).lane := by
  unfold State.heatRecheck
  dsimp only
  rw [stopping, time]
  dsimp only
  rw [if_pos ⟨heat, before, due⟩]
  generalize s.applyStop n t _ _ true = w
  refine List.foldlRecOn _ _ (motive := fun x : State => x.lane = w.lane) rfl fun x h p _ => ?_
  split
  · exact (x.heatEvent_lane ..).trans h
  · exact h

theorem State.rederate_com (s : State) (n : LaneIx) : ((s.rederate n).ln n).com = (s.ln n).com := by
  obtain ⟨e, lane⟩ := s.ln_rederate n
  rw [lane]

theorem Predicts.rederate (s : State) (n : LaneIx) : Predicts n s (s.rederate n) where
  heat := rfl
  live := by
    obtain ⟨e, lane⟩ := s.ln_rederate n
    rw [lane]
  sensors _ := ⟨rfl, rfl, rfl⟩

theorem State.sampleLane_com (i : SensorIx) (t : Ticks) (s : State) (n : LaneIx) :
    ((s.sampleLane i t n).ln n).com = (((s.rederate n).heatRecheck i n t).ln n).com := by
  unfold State.sampleLane
  dsimp only
  split
  · exact State.drivePins_com ..
  · rfl

/-- A lane with no stop that R564 makes immediate keeps its commutation. -/
theorem State.sampleLane_idle (i : SensorIx) (t : Ticks) (s : State) (n : LaneIx)
    (idle : ∀ st x, (s.ln n).com.stopping = some st → s.predict n = some x → st.orderlyHeat = true → st.since < t →
      ((st.since + st.declaredMs * Config.ticksPerMs - t : Nat) : Rat) < x * Config.ticksPerMs) :
    ((s.sampleLane i t n).ln n).com = (s.ln n).com := by
  rw [State.sampleLane_com, State.heatRecheck_idle, State.rederate_com]
  intro st x stopping time
  rw [State.rederate_com] at stopping
  rw [(Predicts.rederate s n).predict] at time
  exact idle st x stopping time

/-- An orderly stop that the prediction does not cover becomes an immediate one. -/
theorem State.sampleLane_due (i : SensorIx) (t : Ticks) (s : State) (n : LaneIx) {st : Stopping} {x : Rat}
    (stopping : (s.ln n).com.stopping = some st) (time : s.predict n = some x) (heat : st.orderlyHeat = true) (before : st.since < t)
    (due : x * Config.ticksPerMs ≤ ((st.since + st.declaredMs * Config.ticksPerMs - t : Nat) : Rat)) :
    Lane.Stops t ((s.ln n).stopMode .brake true) ((s.ln n).declaredMs ((s.ln n).stopMode .brake true)) true false
      ((s.sampleLane i t n).ln n).com := by
  have lane := (s.rederate n).heatRecheck_due i n t (by rw [State.rederate_com]; exact stopping)
    ((Predicts.rederate s n).predict.trans time) heat before due
  rw [State.sampleLane_com, State.ln_of_lane lane]
  obtain ⟨e, same⟩ := s.ln_rederate n
  have mode : ((s.rederate n).ln n).stopMode .brake true = (s.ln n).stopMode .brake true := by rw [same]; rfl
  have ms (m : StopMode) : ((s.rederate n).ln n).declaredMs m = (s.ln n).declaredMs m := by rw [same]; rfl
  rw [mode, ms]
  exact State.applyStop_stops ..

/-- A lane that is STOPPED or STOPPING stays so through a sample. -/
theorem State.sampleLane_state (i : SensorIx) (t : Ticks) (s : State) (n : LaneIx)
    (h : (s.ln n).com.state = .stopping ∨ (s.ln n).com.state = .stopped) :
    ((s.sampleLane i t n).ln n).com.state = .stopping ∨ ((s.sampleLane i t n).ln n).com.state = .stopped := by
  rw [State.sampleLane_com]
  rcases (s.rederate n).heatRecheck_cases i n t with same | ⟨m, ms, -, same⟩
  · rw [same, State.rederate_com]
    exact h
  · rw [State.ln_of_lane same, State.applyStop_state]
    split
    · exact .inr rfl
    · exact .inl rfl

/-- What a sample does on its lanes, seen at one of them. -/
theorem State.sampleActs_at (s : State) {i : SensorIx} {n : LaneIx} (t : Ticks) (acts : n ∈ lanesOf i) :
    ∃ w, LanesStep s w ∧ w.ln n = s.ln n ∧ (s.sampleActs i t).ln n = (w.sampleLane i t n).ln n := by
  obtain ⟨w, steps, same, -, last⟩ := (LanesStep.refl s).foldl_at (f := fun r m => r.sampleLane i t m)
    (fun r m _ => LaneStep.sampleLane i t r m) (lanesOf_nodup i) acts
  exact ⟨w, steps, same, last⟩

/-- A heat stop seen at one of its lanes. -/
theorem State.heatStop_at (s : State) {i : SensorIx} {n : LaneIx} (t : Ticks) (acts : n ∈ lanesOf i) :
    ∃ w, LanesStep s w ∧ w.ln n = s.ln n ∧ (s.heatStop i t).ln n = (w.heatStopOne t n).ln n := by
  obtain ⟨w, steps, same, -, last⟩ := (LanesStep.refl s).foldl_at (f := fun r m => r.heatStopOne t m)
    (fun r m _ => LaneStep.heatStopOne t r m) (lanesOf_nodup i) acts
  exact ⟨w, steps, same, (State.ln_of_lane (s.heatStop_told i t).2 n).trans last⟩

/-! ### What a heat stop tells (R578) -/

theorem lanesOf_of (h : sensorLane i = some n) : lanesOf i = [n] := by
  rw [lanesOf, h]
  rfl

/-- A heat stop of a sensor with a lane tells that lane's recipient of its path and its time. -/
theorem State.heatStop_tells (s : State) {i : SensorIx} {n : LaneIx} (t : Ticks) (at_ : sensorLane i = some n)
    (running : (s.ln n).running = true) :
    ⟨s.sensorPitch i, s.eventEntry 0x01 n.val 0x31 (word i.val) (s.sn i).tempWord (word (bit01 (!s.orderlyAt n))) (predictWord (s.predict n))⟩ ∈
      (s.heatStop i t).q.events := by
  have step : LaneStep n s (s.heatStopLane n t).1 := (LaneStep.refl n s).heatStopLane t
  have shape := s.heatStopLane_eq n t
  have joined : heatStopStep t (s, []) n = ((s.heatStopLane n t).1,
      [{ owner := (s.heatStopLane n t).1.laneOwner n, immediate := !(s.heatStopLane n t).2.1, left := (s.heatStopLane n t).2.2 }]) :=
    if_pos running
  have orderly : (s.heatStopLane n t).2.1 = s.orderlyAt n := by rw [shape]
  have time : (s.heatStopLane n t).2.2 = s.predict n := by rw [shape]
  rw [orderly, time] at joined
  clear shape orderly time
  unfold State.heatStop
  dsimp only
  rw [lanesOf_of at_, List.foldl_cons, List.foldl_nil, joined]
  generalize (s.heatStopLane n t).1 = w at step
  dsimp only
  have told : ⟨s.sensorPitch i, s.eventEntry 0x01 n.val 0x31 (word i.val) (s.sn i).tempWord (word (bit01 (!s.orderlyAt n))) (predictWord (s.predict n))⟩ ∈
      (w.heatStopEvent i (w.sensorPitch i) [{ owner := w.laneOwner n, immediate := !s.orderlyAt n, left := s.predict n }]).q.events := by
    have pitch : w.sensorPitch i = s.sensorPitch i := by
      unfold State.sensorPitch
      rw [at_]
      exact congrArg (Option.getD · 0) (step.lanes.laneOwner n)
    have entry := step.lanes.eventEntry 0x01 n.val 0x31 (word i.val) (s.sn i).tempWord (word (bit01 (!s.orderlyAt n))) (predictWord (s.predict n))
    unfold State.heatStopEvent State.heatEvent
    rw [at_, pitch, step.lanes.heating.sn i, ← entry]
    refine List.mem_append_right _ (List.mem_singleton.2 ?_)
    dsimp only [List.any_cons, List.any_nil, List.map_cons, List.map_nil, List.foldl_cons, List.foldl_nil, shorter]
    rw [Bool.or_false]
    rfl
  generalize ([{ owner := w.laneOwner n, immediate := !s.orderlyAt n, left := s.predict n }] : List HeatStopped) = l at told ⊢
  generalize w.heatStopEvent i (w.sensorPitch i) l = x at told ⊢
  refine (LanesStep.eachPitch (s := x) fun y p => ?_).events.subset told
  split
  · exact .refl y
  · exact (LanesStep.refl y).heatEvent ..

/-! ### The state of a taken sample -/

theorem State.valued_eq (s : State) (i : SensorIx) (t : Ticks) : (s.valued i t).lane = s.lane ∧ (s.valued i t).q = s.q := by
  obtain ⟨a, b, c, runs⟩ := (s.sampled i).judge_fst i t (s.sn i).mean
  rw [State.valued, runs]
  exact ⟨rfl, rfl⟩

/-- What a prediction reads of a sensor with its sample taken. -/
theorem Predicts.valued (s : State) (i : SensorIx) (n : LaneIx) (t : Ticks) (h : Heating ((s.valued i t).flagged i) r) (lane : r.ln n = s.ln n) :
    Predicts n (s.modSn i fun x => { x with temp := (s.sn i).mean, hasSample := true }) r where
  heat := by rw [h.heat]; exact ((s.valued_sampling i t).trans (Sampling.modSn _ i _)).heat
  live := by rw [lane]; rfl
  sensors j := by
    rw [h.sn]
    by_cases same : i = j
    · subst same
      obtain ⟨a, b, c, mine⟩ := s.sn_valued i t
      rw [State.flagged, State.sn_modSn, State.sn_modSn, mine]
      exact ⟨rfl, rfl, rfl⟩
    · rw [State.flagged, State.sn_modSn_ne _ _ _ _ same, State.sn_modSn_ne _ _ _ _ same, (s.valued_sampling i t).others j (Ne.symm same)]
      exact ⟨rfl, rfl, rfl⟩

theorem State.warned_ln (s : State) (i : SensorIx) (t : Ticks) (n : LaneIx) : ((s.valued i t).warned i).ln n = s.ln n :=
  State.ln_of_lane ((State.warned_lane ..).trans (s.valued_eq i t).1) n

theorem State.levels_valued (s : State) (i : SensorIx) (t : Ticks) : (s.valued i t).levels i = s.levels i :=
  s.levels_of_heat _ i (s.valued_sampling i t).heat fun n _ => by rw [State.ln_of_lane (s.valued_eq i t).1 n]

/-- A sensor newly at its stop level takes a heat stop. -/
theorem State.heatTaken_newly (s : State) (i : SensorIx) (t : Ticks) (hot : (s.levels i).2 ≤ (s.sn i).mean) (fresh : (s.sn i).stop = false) :
    (s.valued i t).stopNext i = true ∧ (s.valued i t).heatTaken i t =
      (((s.valued i t).warned i).heatStop i t).modSn i fun x => { x with rung := (((s.valued i t).warned i).heatStop i t).rungOf i } := by
  obtain ⟨a, b, c, mine⟩ := s.sn_valued i t
  have next : (s.valued i t).stopNext i = true := by
    unfold State.stopNext
    rw [s.levels_valued, mine]
    exact if_pos hot
  have was : ((s.valued i t).sn i).stop = false := by
    rw [mine]
    exact fresh
  refine ⟨next, ?_⟩
  unfold State.heatTaken
  rw [if_pos ⟨next, by rw [was]; rfl⟩]

/-- Any other sensor takes none. -/
theorem State.heatTaken_otherwise (s : State) (i : SensorIx) (t : Ticks) (not : ¬ ((s.levels i).2 ≤ (s.sn i).mean ∧ (s.sn i).stop = false)) :
    (s.valued i t).heatTaken i t = ((s.valued i t).warned i).modSn i fun x => { x with rung := ((s.valued i t).warned i).rungOf i } := by
  obtain ⟨a, b, c, mine⟩ := s.sn_valued i t
  have idle : ¬ ((s.valued i t).stopNext i = true ∧ (!((s.valued i t).sn i).stop) = true) := by
    rintro ⟨next, was⟩
    unfold State.stopNext at next
    rw [s.levels_valued, mine] at next
    rw [mine] at was
    have was : (s.sn i).stop = false := by simpa using was
    refine not ⟨?_, was⟩
    by_contra cool
    rw [if_neg cool] at next
    split at next
    · exact absurd next (by decide)
    · exact absurd next (ne_true_of_eq_false was)
  unfold State.heatTaken
  rw [if_neg idle]

/-! ### The clauses -/

/-- A sensor newly at its stop level: STOP, each running lane's path, and what its own lane's recipient is told. -/
theorem execThermalSample_newly (hv : s.lanesTick t = v) (settled : v.atSettled = true) (used : (v.sn i).inUse)
    (own : (v.sn i).substituted = false) (sound : ((v.sampled i).judge i t (v.sn i).mean).2 = none)
    (cool : i.val < 8 → (v.sn i).mean < Config.tClose) (hot : (v.levels i).2 ≤ (v.sn i).mean) (fresh : (v.sn i).stop = false) :
    let left (n : LaneIx) := (v.modSn i fun x => { x with temp := (v.sn i).mean, hasSample := true }).predict n
    let late (n : LaneIx) := (left n).any fun x => decide (x ≤ (((v.ln n).declared + 10 : Nat) : Rat))
    ∃ u, exec (.thermalSample i t) s = .next u ∧ (u.sn i).stop = true ∧
      ∀ n ∈ lanesOf i, (v.ln n).running = true → (v.ln n).com.state ≠ .stopping →
        (late n = true → Lane.Stops t ((v.ln n).stopMode .brake true) ((v.ln n).declaredMs ((v.ln n).stopMode .brake true)) true false
          (u.ln n).com) ∧
        (late n = false → Lane.Stops t ((v.ln n).stopMode (v.ln n).com.set.live.stopMode false)
          ((v.ln n).declaredMs ((v.ln n).stopMode (v.ln n).com.set.live.stopMode false)) false true (u.ln n).com) ∧
        (sensorLane i = some n → ⟨v.sensorPitch i, v.eventEntry 0x01 n.val 0x31 (word i.val) (sword (v.sn i).mean)
          (word (bit01 (late n))) (predictWord (left n))⟩ ∈ u.q.events) := by
  intro left late
  refine ⟨_, execThermalSample_cool hv settled used own sound cool, ?_, fun n acts running free => ?_⟩
  · rw [((v.valued i t).heatTaken_sn i t).2, (v.heatTaken_newly i t hot fresh).1]
  have flags : Sampling i v ((v.valued i t).flagged i) := (v.valued_sampling i t).trans (.modSn ..)
  rw [(v.heatTaken_newly i t hot fresh).2]
  have lane := v.warned_ln i t n
  have warn := LanesStep.warned (v.valued i t) i
  have predict (r : State) (step : LanesStep ((v.valued i t).warned i) r) (same : r.ln n = v.ln n) : r.predict n = left n :=
    (Predicts.valued v i n t (warn.trans step).heating same).predict
  have orderly (r : State) (step : LanesStep ((v.valued i t).warned i) r) (same : r.ln n = v.ln n) : r.orderlyAt n = !late n := by
    unfold State.orderlyAt
    rw [predict r step same, same]
  obtain ⟨a, b, c, mine⟩ := v.sn_valued i t
  have temp : (((v.valued i t).warned i).sn i).tempWord = sword (v.sn i).mean := by
    have available : (v.sn i).unavailable = false := by
      unfold Sensor.inUse at used
      simpa using (not_or.1 (not_or.1 used).2).1
    rw [warn.heating.sn, State.flagged, State.sn_modSn, mine]
    unfold Sensor.tempWord
    rw [if_neg (ne_true_of_eq_false available)]
  have pitch : ((v.valued i t).warned i).sensorPitch i = v.sensorPitch i := by
    have pit : ((v.valued i t).warned i).pit = v.pit := warn.pit.trans (by rw [flags.rest])
    unfold State.sensorPitch State.laneOwner
    rw [pit]
  have entry (w4 w5 w6 w7 : Word) : ((v.valued i t).warned i).eventEntry 0x01 n.val 0x31 w4 w5 w6 w7 = v.eventEntry 0x01 n.val 0x31 w4 w5 w6 w7 := by
    have bell : ((v.valued i t).warned i).bell = v.bell := warn.bell.trans (by rw [flags.rest])
    unfold State.eventEntry
    rw [bell]
  have tells := fun at_ => ((v.valued i t).warned i).heatStop_tells (i := i) (n := n) t at_ (lane ▸ running)
  rw [orderly _ (.refl _) lane, predict _ (.refl _) lane, temp, pitch, entry, Bool.not_not] at tells
  obtain ⟨y, steps, same, stop⟩ := ((v.valued i t).warned i).heatStop_at t acts
  have orderly := orderly y steps (same.trans lane)
  generalize ((v.valued i t).warned i).heatStop i t = x at tells stop ⊢
  generalize x.rungOf i = rung
  have kept : LanesStep (x.modSn i fun y => { y with rung := rung }) ((x.modSn i fun y => { y with rung := rung }).sampleActs i t) := .sampleActs ..
  obtain ⟨z, -, before, last⟩ := (x.modSn i fun y => { y with rung := rung }).sampleActs_at (n := n) t acts
  replace before : z.ln n = (y.heatStopOne t n).ln n := before.trans stop
  have same : y.ln n = v.ln n := same.trans lane
  have outcome : y.heatStopOne t n = if y.orderlyAt n = true then y.heatOrderly n t else y.beginStop n t .brake true none 6 false := by
    unfold State.heatStopOne
    rw [if_pos (same ▸ running), State.heatStopLane_eq]
  have stays {m : StopMode} {ms : Nat} {heat od : Bool} (h : Lane.Stops t m ms heat od (z.ln n).com) :
      (((x.modSn i fun y => { y with rung := rung }).sampleActs i t).ln n).com = (z.ln n).com := by
    rw [last]
    refine State.sampleLane_idle i t z n fun st x stopping _ _ before => ?_
    rw [h.stopping] at stopping
    split at stopping
    · cases stopping
    · cases stopping
      exact absurd before (lt_irrefl _)
  refine ⟨fun soon => ?_, fun later => ?_, fun at_ => kept.events.subset (tells at_)⟩
  · rw [soon] at orderly
    have stops := y.beginStop_stops n t .brake true none 6 false (same ▸ running) (same ▸ free)
    rw [outcome, if_neg (by rw [orderly]; decide)] at before
    rw [← before, same] at stops
    rw [stays stops]
    exact stops
  · rw [later] at orderly
    have stops := y.heatOrderly_stops n t (same ▸ running) (same ▸ free)
    dsimp only at stops
    rw [outcome, if_pos (by rw [orderly]; decide)] at before
    rw [← before, same] at stops
    rw [stays stops]
    exact stops

/-- A sensor not newly at its stop level: an orderly stop from before becomes immediate where the prediction does not cover it. -/
theorem execThermalSample_watched {st : Stopping} {x : Rat} (hv : s.lanesTick t = v) (settled : v.atSettled = true) (used : (v.sn i).inUse)
    (own : (v.sn i).substituted = false) (sound : ((v.sampled i).judge i t (v.sn i).mean).2 = none)
    (cool : i.val < 8 → (v.sn i).mean < Config.tClose) (not : ¬ ((v.levels i).2 ≤ (v.sn i).mean ∧ (v.sn i).stop = false))
    (acts : n ∈ lanesOf i) (stopping : (v.ln n).com.stopping = some st) (heat : st.orderlyHeat = true) (before : st.since < t)
    (time : (v.modSn i fun x => { x with temp := (v.sn i).mean, hasSample := true }).predict n = some x) :
    ∃ u, exec (.thermalSample i t) s = .next u ∧
      (x * Config.ticksPerMs ≤ ((st.since + st.declaredMs * Config.ticksPerMs - t : Nat) : Rat) →
        Lane.Stops t ((v.ln n).stopMode .brake true) ((v.ln n).declaredMs ((v.ln n).stopMode .brake true)) true false (u.ln n).com) ∧
      (((st.since + st.declaredMs * Config.ticksPerMs - t : Nat) : Rat) < x * Config.ticksPerMs → (u.ln n).com = (v.ln n).com) := by
  refine ⟨_, execThermalSample_cool hv settled used own sound cool, ?_⟩
  rw [v.heatTaken_otherwise i t not]
  have lane := v.warned_ln i t n
  have warn := LanesStep.warned (v.valued i t) i
  generalize hw : (v.valued i t).warned i = w at lane warn
  generalize w.rungOf i = rung
  have predict : (w.modSn i fun y => { y with rung := rung }).predict n = some x := by
    have same : Predicts n w (w.modSn i fun y => { y with rung := rung }) := by
      refine ⟨rfl, rfl, fun j => ?_⟩
      by_cases h : i = j
      · subst h
        rw [State.sn_modSn]
        exact ⟨rfl, rfl, rfl⟩
      · rw [State.sn_modSn_ne _ _ _ _ h]
        exact ⟨rfl, rfl, rfl⟩
    rw [same.predict, (Predicts.valued v i n t warn.heating lane).predict, time]
  replace lane : (w.modSn i fun y => { y with rung := rung }).ln n = v.ln n := lane
  generalize (w.modSn i fun y => { y with rung := rung }) = r at predict lane
  obtain ⟨y, step, same, last⟩ := r.sampleActs_at t acts
  rw [last]
  have time : y.predict n = some x := by
    have alike : Predicts n r y := ⟨by rw [step.heat], by rw [same], fun j => by
      rw [step.heating.sn]
      exact ⟨rfl, rfl, rfl⟩⟩
    rw [alike.predict, predict]
  replace same : y.ln n = v.ln n := same.trans lane
  rw [← same] at stopping ⊢
  refine ⟨fun due => State.sampleLane_due i t y n stopping time heat before due, fun covered => State.sampleLane_idle i t y n ?_⟩
  intro st' x' stopping' time' _ _
  obtain rfl := Option.some.inj (stopping.symm.trans stopping')
  obtain rfl := Option.some.inj (time.symm.trans time')
  exact covered

end Sys2Proof.Machine
end


section
/-! SUPPORT. Heat stops take their path: the clauses of O52. -/

namespace Sys2Proof.Machine

set_option Elab.async false

variable {s r u v : State} {n : LaneIx} {i : SensorIx} {t : Ticks}

/-! ### A substituted sensor without two usable neighbours -/

theorem State.median_sampled (s : State) (i : SensorIx) : (s.sampled i).heat.median i = s.heat.median i := by
  have same (j : SensorIx) : ((s.sampled i).heat.sensor[j]).usable = (s.heat.sensor[j]).usable ∧
      ((s.sampled i).heat.sensor[j]).temp = (s.heat.sensor[j]).temp := by
    change ((s.sampled i).sn j).usable = (s.sn j).usable ∧ ((s.sampled i).sn j).temp = (s.sn j).temp
    by_cases h : i = j
    · subst h
      rw [State.sampled, State.sn_modSn]
      exact ⟨rfl, rfl⟩
    · rw [State.sampled, State.sn_modSn_ne _ _ _ _ h]
      exact ⟨rfl, rfl⟩
  unfold Thermal.median Thermal.nearby
  refine congrArg medianOf (List.filterMap_congr fun j _ => ?_)
  rw [(same j).1, (same j).2]

/-- A sensor that becomes unavailable stops its own lane. -/
theorem State.becomeUnavailable_lane (s : State) (i : SensorIx) (t : Ticks) (at_ : sensorLane i = some n)
    (running : (s.ln n).running = true) :
    ((s.becomeUnavailable i t).ln n).com.state = .stopping ∨ ((s.becomeUnavailable i t).ln n).com.state = .stopped := by
  unfold State.becomeUnavailable
  dsimp only
  generalize hw : s.modSn i (fun x => { x with unavailable := true, warn := false, stop := false, rateFlag := false, rung := 0 }) = w
  have lane : w.lane = s.lane := by rw [← hw]; rfl
  clear hw
  generalize hr : State.heatEvent _ _ i 0x32 _ _ _ = r
  have base : r.lane = s.lane := by
    rw [← hr, State.heatEvent_lane]
    split
    · rw [State.heatEvent_lane]
      split
      · rw [State.heatEvent_lane, lane]
      · exact lane
    · split
      · rw [State.heatEvent_lane, lane]
      · exact lane
  clear hr
  have running : (r.ln n).running = true := by rw [State.ln_of_lane base n, running]
  have stops : ((r.heatOrderly n t).ln n).com.state = .stopping ∨ ((r.heatOrderly n t).ln n).com.state = .stopped := by
    unfold State.heatOrderly
    dsimp only
    rw [State.ln_modLn]
    exact State.beginStop_state _ _ _ _ _ _ _ _ running
  rw [at_]
  dsimp only
  rw [if_pos running]
  split
  · rw [State.ln_of_lane (State.heatEvent_lane ..) n]
    exact stops
  · exact stops

/-- A substituted sensor without two usable neighbours: unavailable, its value gone, its own lane stopped or stopping. -/
theorem execThermalSample_lost (hv : s.lanesTick t = v) (settled : v.atSettled = true) (used : (v.sn i).inUse)
    (sub : (v.sn i).substituted = true) (median : v.heat.median i = none) :
    ∃ u, exec (.thermalSample i t) s = .next u ∧ (u.sn i).unavailable = true ∧ (u.sn i).stop = false ∧ Sampling i v u ∧
      ∀ n, sensorLane i = some n → (v.ln n).running = true → (u.ln n).com.state = .stopping ∨ (u.ln n).com.state = .stopped := by
  have still : ((v.sampled i).sn i).substituted = true := by rw [State.sampled, State.sn_modSn]; exact sub
  have next := execThermalSample_substituted hv settled used sub
  rw [State.takeSample_none still ((v.median_sampled i).trans median)] at next
  have first := (v.sampled i).becomeUnavailable_spec i t
  have step := (first.trans (LanesStep.sampleActs ((v.sampled i).becomeUnavailable i t) i t)).heating
  refine ⟨_, next, ?_, ?_, (Sampling.modSn v i _).trans ((Sampling.modSn ..).trans (step.sampling i)), fun n at_ running => ?_⟩
  · rw [step.sn, State.sn_modSn]
  · rw [step.sn, State.sn_modSn]
  · have stops := (v.sampled i).becomeUnavailable_lane i t at_ running
    obtain ⟨w, -, same, last⟩ := ((v.sampled i).becomeUnavailable i t).sampleActs_at (n := n) t (by rw [lanesOf_of at_]; exact List.mem_singleton.2 rfl)
    rw [last]
    exact w.sampleLane_state i t n (same ▸ stops)

/-! ### The obligation -/

/-- An immediate stop, as the obligation words it. -/
theorem Lane.Stops.immediate {l k : Lane} (h : Lane.Stops t (l.stopMode .brake true) (l.declaredMs (l.stopMode .brake true)) true false k.com) :
    let quick := l.com.set.live.brakeMs = 0 ∨ ∀ j : PhaseIx, safeLow l.car.policy j = false
    (quick → k.com.state = .stopped) ∧ (¬ quick → k.com.state = .stopping ∧ k.com.stopping =
      some { mode := .brake, since := t, declaredMs := l.com.set.live.brakeMs, heat := true }) := by
  obtain ⟨state, stopping⟩ := h
  intro quick
  refine ⟨fun yes => ?_, fun no => ?_⟩
  · rw [Lane.stopMode_brake, if_pos yes, if_pos rfl] at state
    exact state
  · rw [Lane.stopMode_brake, if_neg no, if_neg (by decide)] at state stopping
    exact ⟨state, stopping⟩

/-- An orderly stop, as the obligation words it. -/
theorem Lane.Stops.orderly {l k : Lane} {m : StopMode} (h : Lane.Stops t m (l.declaredMs m) false true k.com) :
    (m = .coast → k.com.state = .stopped) ∧ (m ≠ .coast → k.com.state = .stopping ∧ k.com.stopping =
      some { mode := m, since := t, declaredMs := l.declaredMs m, heat := false, orderlyHeat := true }) := by
  obtain ⟨state, stopping⟩ := h
  refine ⟨fun yes => ?_, fun no => ?_⟩
  · rw [if_pos yes] at state
    exact state
  · rw [if_neg no] at state stopping
    exact ⟨state, stopping⟩

/-- Settles O52: the lanes of a heat stop are taken one by one, each by its own prediction, which no other lane's stop changes. -/
theorem heatStopsTakeTheirPath : Obligations.HeatStopsTakeTheirPath := by
  unfold Obligations.HeatStopsTakeTheirPath
  intro own used unbroken newly cool left quick immediate orderly told
  refine ⟨fun s i t => ?_, fun s i n t st x => ?_, State.predict_spec, fun s i t settled evaluated available fresh sub median => ?_⟩
  · intro v ⟨settled, evaluated, available, fresh, sub⟩ sound ⟨hot, clear⟩ below
    obtain ⟨u, next, stop, each⟩ := execThermalSample_newly (v := v) rfl settled (Sensor.inUse_of evaluated available fresh) sub sound below hot clear
    refine ⟨u, next, stop, fun n acts running free => ?_⟩
    obtain ⟨soon, later, tells⟩ := each n acts running free
    refine ⟨fun x time early => (soon ?_).immediate, fun h => (later ?_).orderly, tells⟩
    · change Option.any _ (left v i n) = true
      rw [time]
      exact decide_eq_true early
    · change Option.any _ (left v i n) = false
      rcases h with none | ⟨x, time, late⟩
      · rw [none]
        rfl
      · rw [time]
        exact decide_eq_false (not_le.2 late)
  · intro v ⟨settled, evaluated, available, fresh, sub⟩ sound not below acts state stopping heat before time rest
    obtain ⟨u, next, due, covered⟩ := execThermalSample_watched (v := v) rfl settled (Sensor.inUse_of evaluated available fresh) sub sound below not
      acts stopping heat before time
    refine ⟨u, next, fun h => (due h).immediate, fun h => ?_⟩
    rw [covered h]
    exact ⟨state, stopping⟩
  · intro v
    have step := LanesStep.lanesTick s t
    have settled : v.atSettled = true := by
      rw [State.lanesTick_atSettled]
      exact settled
    have hv : s.lanesTick t = v := rfl
    clear_value v
    rw [hv] at step
    have sn (j : SensorIx) : v.sn j = s.sn j := by rw [State.sn, step.heat]; rfl
    obtain ⟨u, next, lost, stop, sampling, lanes⟩ := execThermalSample_lost (i := i) hv settled
      (sn i ▸ Sensor.inUse_of evaluated available fresh) (sn i ▸ sub) (by rw [step.heat]; exact median)
    refine ⟨u, next, lost, ?_, stop, fun j h => (sampling.others j h).trans (sn j), lanes⟩
    exact if_pos lost

end Sys2Proof.Machine
end


section
/-! SUPPORT. The steps of a fuse window, and the trace port's service (chapters 05 and 17). -/

namespace Sys2Proof.Machine

set_option Elab.async false

variable {s : State}

/-! ### The fuse window -/

theorem execProgrammingSupplySettled_roll {r : FuseRun} {sp : BitVec 64} (run : s.fuse.run = some r) (phase : r.phase = .supply)
    (kind : r.op.kind = .keyRoll sp) : exec .programmingSupplySettled s = .next (s.rollStart r sp) := by
  change execProgrammingSupplySettled s = _
  unfold execProgrammingSupplySettled
  rw [run]
  dsimp only
  rw [if_pos phase, kind]

theorem execProgrammingSupplySettled_steps {r : FuseRun} (run : s.fuse.run = some r) (phase : r.phase = .supply)
    (kind : ∀ sp, r.op.kind ≠ .keyRoll sp) : exec .programmingSupplySettled s =
      .next (s.setRun ({ r with steps := r.op.kind.steps s.fuse.array }.begin s.fuse.array)) := by
  change execProgrammingSupplySettled s = _
  unfold execProgrammingSupplySettled
  rw [run]
  dsimp only
  rw [if_pos phase]
  generalize r.op.kind = k at kind
  cases k with
  | word a v => rfl
  | lifeCycle l => rfl
  | keyRoll sp => exact absurd rfl (kind sp)

theorem FuseRun.begin_op (r : FuseRun) (m : FuseMem) : (r.begin m).op = r.op := by
  unfold FuseRun.begin
  split <;> rfl

/-- A roll that begins draws from the DRBG at most, and keeps its operation. -/
theorem State.rollStart_spec (s : State) (r : FuseRun) (sp : BitVec 64) : ∃ x : FuseRun, x.op = r.op ∧
    s.rollStart r sp = { s with pit := { s.pit with drbg := (s.rollStart r sp).pit.drbg }, fuse := { s.fuse with run := some x } } := by
  have drawn : s.draw.1 = { s with pit := { s.pit with drbg := s.draw.1.pit.drbg } } := by
    unfold State.draw
    split <;> rfl
  unfold State.rollStart
  dsimp only
  split
  · exact ⟨r.stop stSeedWait, rfl, rfl⟩
  · split
    · exact ⟨r.stop stFuseLocked, rfl, rfl⟩
    · split
      · exact ⟨r.stop stInconsistent, rfl, rfl⟩
      · split
        · exact ⟨r.stop stKeyBudget, rfl, rfl⟩
        · generalize s.draw = d at drawn
          generalize hx : FuseRun.begin _ s.fuse.array = x
          have op := congrArg FuseRun.op hx
          rw [FuseRun.begin_op] at op
          refine ⟨x, op.symm, ?_⟩
          rw [drawn]
          rfl

theorem execFusePulseEnd_pulse {r : FuseRun} {x : FuseStep} {rest : List FuseStep} (rb : DWord) (ok : Bool) (run : s.fuse.run = some r)
    (phase : r.phase = .pulsing) (steps : r.steps = x :: rest) :
    let map := decide (2176 ≤ x.cell)
    let pass : Bool := if map = true then rb &&& x.value == x.value else ok && rb == x.value
    let cell : FuseCell := if map = true then ⟨(fuseAt s.fuse.array x.cell).value ||| (rb &&& x.value), true⟩ else ⟨rb, ok⟩
    let m := fusePut s.fuse.array x.cell cell
    let u : State := { s with fuse := { s.fuse with array := m } }
    exec (.fusePulseEnd rb ok) s = if (!pass) = true ∧ r.pulses < 4 then
        .next (u.setRun { r with pulses := r.pulses + 1, used := if x.role.counts then r.pulses + 1 else r.used })
      else .next (u.setRun ((r.stepDone m x rest pass).begin m)) := by
  change execFusePulseEnd rb ok s = _
  unfold execFusePulseEnd
  rw [run]
  dsimp only
  rw [phase, steps]

/-- Settles O38, by the cases of a run: the supply's phase, a pulse of the step at the head, and its end. -/
theorem fuseWindowRunsItsSteps : Obligations.FuseWindowRunsItsSteps := by
  unfold Obligations.FuseWindowRunsItsSteps
  intro set
  refine ⟨fun s p o rest window idle first => ?_, fun s r run phase => ⟨?_, execProgrammingSupplySettled_steps run phase, ?_⟩,
    fun s r x rest rb ok run phase steps => ?_, fun s r run going => ?_⟩
  · change execFuseWindowStart p s = _
    unfold execFuseWindowStart
    rw [if_pos ⟨window, idle⟩, first]
    dsimp only
    change (if (!s.supplyOk) = true ∨ s.dev.closed = true then _ else _) = _
    cases s.supplyOk <;> cases s.dev.closed <;> rfl
  · change execFuseSupplyTimeout s = _
    unfold execFuseSupplyTimeout
    rw [run]
    exact if_pos phase
  · rintro ⟨sp, kind⟩
    obtain ⟨x, op, same⟩ := s.rollStart_spec r sp
    exact ⟨_, x, execProgrammingSupplySettled_roll run phase kind, op, same⟩
  · have shape := execFusePulseEnd_pulse rb ok run phase steps
    simp only [decide_eq_true_eq, Bool.not_eq_true'] at shape
    exact shape.trans (apply_ite Host.Outcome.next _ _ _).symm
  · change Host.Outcome.next s.fuseStop = _
    unfold State.fuseStop
    rw [run]
    dsimp only
    rw [if_neg going]
    rfl

/-! ### The trace port -/

theorem execTracePacketSend_runs {v : State} {t : Ticks} (hv : s.lanesTick t = v) (runs : v.clk.rootOk = true ∧ v.obs.active = true) :
    exec (.tracePacketSend t) s = .next { v with obs := v.obs.send } := by
  change execTracePacketSend t s = _
  unfold execTracePacketSend
  rw [hv]
  exact if_pos (by rw [State.traceRuns, runs.1, runs.2]; rfl)

theorem execTracePacketSend_halted {v : State} {t : Ticks} (hv : s.lanesTick t = v) (off : v.traceRuns = false) :
    exec (.tracePacketSend t) s = .next v := by
  change execTracePacketSend t s = _
  unfold execTracePacketSend
  rw [hv]
  exact if_neg (ne_true_of_eq_false off)

theorem LanesStep.active {r : State} (h : LanesStep s r) : r.obs.active = s.obs.active := by
  rw [h.watch]
  rfl

/-- The rotation reaches a pitch after those nearer the turn. -/
theorem find_rotation {f : Pitch → Bool} {turn p : Pitch} (yes : f p = true) (no : ∀ d : Pitch, d < p - turn → f (turn + d) = false) :
    (rotation turn).find? f = some p := by
  have order : ∀ k : Pitch, ∃ pre post, pitchIxs = pre ++ k :: post ∧ ∀ d ∈ pre, d < k := by
    intro k
    exact ⟨pitchIxs.take k.val, pitchIxs.drop (k.val + 1), by revert k; decide, by revert k; decide⟩
  obtain ⟨pre, post, list, nearer⟩ := order (p - turn)
  have at_ : ∀ turn p : Pitch, turn + (p - turn) = p := by decide
  rw [rotation, list, List.map_append, List.map_cons, at_ turn p, List.find?_append, List.find?_cons_of_pos yes]
  rw [List.find?_eq_none.2, Option.none_or]
  intro q mem
  obtain ⟨d, early, rfl⟩ := List.mem_map.1 mem
  exact ne_true_of_eq_false (no d (nearer d early))

theorem Observe.send_pitch {o : Observe} {p : Pitch} {k : Packet} {r : List Packet} (dev : o.devQueue = []) (first : o.queue[p] = k :: r)
    (idle : ∀ d : Pitch, d < p - o.turn → o.queue[o.turn + d] = []) :
    o.send = { o with queue := vset o.queue p r, sent := some k, turn := p + 1 } := by
  have found := find_rotation (f := fun p => !o.queue[p].isEmpty) (turn := o.turn) (p := p)
    (by simp only [first]; rfl) (fun d near => by simp only [idle d near]; rfl)
  unfold Observe.send
  rw [dev, found]
  dsimp only
  rw [first, vmod, first]
  rfl

theorem Observe.send_idle {o : Observe} (dev : o.devQueue = []) (idle : ∀ p : Pitch, o.queue[p] = []) :
    o.send = { o with sent := none } := by
  have none : (rotation o.turn).find? (fun p => !o.queue[p].isEmpty) = none :=
    List.find?_eq_none.2 fun p _ => by simp [idle p]
  unfold Observe.send
  rw [dev, none]

theorem State.tracePins_runs (k : Nat) (runs : s.clk.rootOk = true ∧ s.obs.active = true) :
    s.tracePins k = { s.obs.sent.elim {} (fun p => p.pins k) with clk := decide (k % 2 = 0) } :=
  if_pos (by rw [State.traceRuns, runs.1, runs.2]; rfl)

/-- Settles O54: the device queue goes first, then the pitches in rotation; the pins show the word that the edge falls in. -/
theorem tracePortServesItsQueues : Obligations.TracePortServesItsQueues := by
  unfold Obligations.TracePortServesItsQueues
  intro put runs
  refine ⟨fun s t k r => ?_, fun s t p k r => ?_, fun s t => ?_, fun s t halted => ?_, fun s k on idle => ?_, fun s p k on sent => ⟨fun past => ?_, ?_⟩⟩
  · intro v on first
    rw [execTracePacketSend_runs (v := v) rfl on, Observe.send, first]
  · intro v on dev first idle
    rw [execTracePacketSend_runs (v := v) rfl on, Observe.send_pitch dev first idle]
  · intro v on dev idle
    rw [execTracePacketSend_runs (v := v) rfl on, Observe.send_idle dev idle]
  · have off (r : State) (clk : r.clk = s.clk) (active : r.obs.active = s.obs.active) : r.traceRuns = false := by
      rw [State.traceRuns, clk, active, Bool.eq_false_iff]
      intro h
      exact halted (Bool.and_eq_true_iff.1 h)
    exact ⟨execTracePacketSend_halted rfl (off _ (State.lanesTick_clk s t) (LanesStep.lanesTick s t).active),
      fun k => if_neg (ne_true_of_eq_false (off s rfl rfl))⟩
  · rw [State.tracePins_runs k on, idle]
    rfl
  · rw [State.tracePins_runs k on, sent]
    have none : p.words[k / 8]? = none := List.getElem?_eq_none (by omega)
    rw [Option.elim_some, Packet.pins, none]
  · intro j e w word_ below at_
    subst at_
    rw [State.tracePins_runs _ on, sent]
    have here : p.words[(8 * j + e) / 8]? = some w := by
      rw [show (8 * j + e) / 8 = j by omega]
      exact word_
    rw [Option.elim_some, Packet.pins, here, show (8 * j + e) % 8 = e by omega]
    dsimp only
    congr 1
    exact decide_eq_decide.2 (by omega)

end Sys2Proof.Machine
end


section
/-! SUPPORT. An angle update and its windows (R517, R528 to R537). -/

namespace Sys2Proof.Machine

set_option Elab.async false

variable {s r u : State} {n : TrkIx} {t : Ticks} {w : WinIx}

/-! ### What steps of a tracker leave -/

theorem TrkStep.dev (h : TrkStep n s r) : r.dev = s.dev := by rw [h.rest]
theorem TrkStep.clk (h : TrkStep n s r) : r.clk = s.clk := by rw [h.rest]
theorem TrkStep.bell (h : TrkStep n s r) : r.bell = s.bell := by rw [h.rest]
theorem TrkStep.trkOwner (h : TrkStep n s r) (m : TrkIx) : r.trkOwner m = s.trkOwner m := by rw [State.trkOwner, State.trkOwner, h.rest]

theorem TrkStep.wheelTicks (h : TrkStep n s r) (t : Ticks) : r.wheelTicks t = s.wheelTicks t := by
  rw [State.wheelTicks, State.wheelTicks, h.clk]

/-! ### A list of windows in turn -/

/-- An operation that is a step of the tracker and changes of it one window, on a list of windows each once; what it did at one of them. -/
theorem State.windowsInTurn (g : State → WinIx → State) (f : WinIx → Window → Window) (s : State)
    (h : ∀ r w, TrkStep n s r → TrkStep n r (g r w) ∧ (∀ v, r.tk n = { s.tk n with windows := v } → (g r w).tk n = (r.tk n).modWin w (f w)))
    (l : List WinIx) (nodup : l.Nodup) (r : State) (k : TrkStep n s r) (v : Vector Window 16) (e : r.tk n = { s.tk n with windows := v }) :
    TrkStep n r (l.foldl g r) ∧ ∃ v', (l.foldl g r).tk n = { s.tk n with windows := v' } ∧
      ∀ w : WinIx, v'[w] = if w ∈ l then f w v[w] else v[w] := by
  induction l generalizing r v with
  | nil => exact ⟨.refl n r, v, e, fun w => (if_neg List.not_mem_nil).symm⟩
  | cons y l ih =>
    obtain ⟨notin, nodup⟩ := List.nodup_cons.1 nodup
    obtain ⟨step, tk⟩ := h r y k
    have next : (g r y).tk n = { s.tk n with windows := vmod v y (f y) } := by rw [tk v e, e]; rfl
    obtain ⟨rest, v', last, each⟩ := ih nodup (g r y) (k.trans step) _ next
    refine ⟨step.trans rest, v', last, fun w => (each w).trans ?_⟩
    by_cases same : w = y
    · subst same
      have here : (vmod v w (f w))[w] = f w v[w] := vmod_self _ _ _
      rw [if_neg notin, if_pos List.mem_cons_self, here]
    · have other : (vmod v y (f y))[w] = v[w] := vmod_ne _ _ _ _ (Ne.symm same)
      rw [other]
      simp [same]

/-- One window's turn: it is met as it was, and what follows is a step of the tracker. -/
theorem State.windowTurn (g : State → WinIx → State) (f : WinIx → Window → Window) (s : State)
    (h : ∀ r w, TrkStep n s r → TrkStep n r (g r w) ∧ (∀ v, r.tk n = { s.tk n with windows := v } → (g r w).tk n = (r.tk n).modWin w (f w)))
    (w : WinIx) : ∃ (r : State) (v : Vector Window 16) (post : List WinIx), TrkStep n s r ∧ r.tk n = { s.tk n with windows := v } ∧ v[w] = (s.tk n).windows[w] ∧
      winIxs.foldl g s = post.foldl g (g r w) ∧ TrkStep n (g r w) (post.foldl g (g r w)) := by
  obtain ⟨pre, post, list⟩ := List.append_of_mem (mem_winIxs w)
  have nodup := winIxs_nodup
  rw [list] at nodup ⊢
  obtain ⟨nodup, rest, apart⟩ := List.nodup_append.1 nodup
  obtain ⟨notin, rest⟩ := List.nodup_cons.1 rest
  obtain ⟨step, v, e, each⟩ := s.windowsInTurn g f h pre nodup s (.refl n s) _ rfl
  obtain ⟨here, tk⟩ := h _ w step
  have next := (tk v e).trans (by rw [e]; rfl : _ = { s.tk n with windows := vmod v w (f w) })
  refine ⟨_, v, post, step, e, (each w).trans (if_neg fun mem => apart w mem w List.mem_cons_self rfl), ?_,
    (s.windowsInTurn g f h post rest _ (step.trans here) _ next).1⟩
  rw [List.foldl_append, List.foldl_cons]

/-! ### One window at an update -/

/-- The window is left by an update from `a` to `b`. -/
def Window.leaves (a b : Word) (v : Window) : Bool := v.isOpen && !(v.inArc b && v.inArc a)

/-- The window stays armed through the update. -/
def Window.arms (a b : Word) (v : Window) : Bool := v.armed && !(v.leaves a b && v.once)

/-- The update enters the window's arc or passes over it. -/
def Window.enters (dir : Bool) (a b : Word) (v : Window) : Bool := (v.inArc b && !v.inArc a) || v.passed dir a b

/-- The window opens at the update. -/
def Window.opens (dir : Bool) (a b : Word) (prev closed : Bool) (v : Window) : Bool :=
  v.arms a b && !(v.isOpen && !v.leaves a b) && prev && v.enters dir a b && !closed

/-- The window as the update leaves it. -/
def Window.updated (dir : Bool) (a b : Word) (prev closed : Bool) (v : Window) : Window :=
  { v with isOpen := (v.isOpen && !v.leaves a b) || v.opens dir a b prev closed, armed := v.arms a b }

theorem State.tk_startBurst (s : State) (n : TrkIx) (w : WinIx) (m : AinIx) (k : Nat) (j : TrkIx) : (s.startBurst n w m k).tk j = s.tk j := by
  unfold State.startBurst
  split <;> rfl

theorem State.tk_openWindow (s : State) (n : TrkIx) (t : Ticks) (w : WinIx) :
    (s.openWindow n t w).tk n = (s.tk n).modWin w fun v => { v with isOpen := true } := by
  unfold State.openWindow
  dsimp only
  split
  · rw [State.tk_startBurst, State.tk_traceWheel, State.tk_count, State.tk_modTk]
  · rw [State.tk_windowEdge, State.tk_traceWheel, State.tk_count, State.tk_modTk]
  · rw [State.tk_windowEdge, State.tk_traceWheel, State.tk_count, State.tk_modTk]
  · rw [State.tk_traceWheel, State.tk_count, State.tk_modTk]

/-- The state in which a window that the update leaves has closed. -/
def State.windowLeft (s : State) (n : TrkIx) (t : Ticks) (a : Word) (w : WinIx) : State :=
  if (s.tk n).windows[w].leaves a (s.tk n).angle = true then s.closeWindow n t w else s

theorem TrkStep.windowLeft (s : State) (n : TrkIx) (t : Ticks) (a : Word) (w : WinIx) : TrkStep n s (s.windowLeft n t a w) := by
  unfold State.windowLeft
  split
  · exact (TrkStep.refl n s).closeWindow ..
  · exact .refl n s

theorem State.tk_windowLeft (s : State) (n : TrkIx) (t : Ticks) (a : Word) (w : WinIx) : (s.windowLeft n t a w).tk n =
    (s.tk n).modWin w fun v => { v with isOpen := v.isOpen && !v.leaves a (s.tk n).angle, armed := v.arms a (s.tk n).angle } := by
  unfold State.windowLeft
  split
  · rename_i leaves
    rw [State.tk_closeWindow_eq]
    refine congrArg (fun z => ({ s.tk n with windows := z } : Tracker)) ?_
    have opened : (s.tk n).windows[w].isOpen = true := (Bool.and_eq_true_iff.1 leaves).1
    rw [vmod_eq, vmod_eq]
    refine congrArg (vset _ w ·) ?_
    change Window.shut false (s.tk n).windows[w] = { (s.tk n).windows[w] with
      isOpen := (s.tk n).windows[w].isOpen && !(s.tk n).windows[w].leaves a (s.tk n).angle
      armed := (s.tk n).windows[w].arms a (s.tk n).angle }
    rw [Window.shut, if_pos opened, Window.arms, leaves]
    simp
  · rename_i stays
    have stays := Bool.eq_false_iff.2 stays
    refine (Tracker.modWin_eq_self _ ?_).symm
    rw [Window.arms, stays]
    simp

/-- Leaving a window does not move its arc. -/
theorem State.evalWindow_eq (s : State) (n : TrkIx) (t : Ticks) (a : Word) (prev : Bool) (w : WinIx) : State.evalWindow n t a prev s w =
    if (s.tk n).windows[w].opens (s.tk n).dir a (s.tk n).angle prev s.dev.closed = true then (s.windowLeft n t a w).openWindow n t w
    else s.windowLeft n t a w := by
  have tk := s.tk_windowLeft n t a w
  have dev := (TrkStep.windowLeft s n t a w).dev
  have shape : State.evalWindow n t a prev s w =
      let r := s.windowLeft n t a w
      let v := (r.tk n).windows[w]
      if (v.armed && !v.isOpen && prev && ((v.inArc (s.tk n).angle && !v.inArc a) || v.passed (r.tk n).dir a (s.tk n).angle) &&
        !r.dev.closed) = true then r.openWindow n t w else r := rfl
  rw [shape]
  dsimp only
  rw [tk, dev]
  rw [Tracker.modWin_self]
  rfl

theorem State.tk_evalWindow (s : State) (n : TrkIx) (t : Ticks) (a : Word) (prev : Bool) (w : WinIx) :
    (State.evalWindow n t a prev s w).tk n = (s.tk n).modWin w (Window.updated (s.tk n).dir a (s.tk n).angle prev s.dev.closed) := by
  rw [State.evalWindow_eq]
  have finish (o : Bool) (h : (s.tk n).windows[w].opens (s.tk n).dir a (s.tk n).angle prev s.dev.closed = o) (x : Tracker)
      (hx : x = (s.tk n).modWin w fun v => { v with
        isOpen := (v.isOpen && !v.leaves a (s.tk n).angle) || o, armed := v.arms a (s.tk n).angle }) :
      x = (s.tk n).modWin w (Window.updated (s.tk n).dir a (s.tk n).angle prev s.dev.closed) := by
    rw [hx]
    unfold Tracker.modWin
    rw [vmod_eq, vmod_eq]
    congr 2
    change ({ (s.tk n).windows[w] with
      isOpen := ((s.tk n).windows[w].isOpen && !(s.tk n).windows[w].leaves a (s.tk n).angle) || o,
      armed := (s.tk n).windows[w].arms a (s.tk n).angle } : Window) = Window.updated _ _ _ _ _ (s.tk n).windows[w]
    rw [Window.updated, h]
  split
  · rename_i opens
    refine finish true opens _ ?_
    rw [State.tk_openWindow, State.tk_windowLeft, Tracker.modWin_modWin]
    simp
  · rename_i keeps
    refine finish false (Bool.eq_false_iff.2 keeps) _ ?_
    rw [State.tk_windowLeft]
    simp

/-! ### What a window tells -/

/-- The WINDOW_EDGE of a window of tracker `n` at `t` (R533). -/
def State.edgeEntry (s : State) (n : TrkIx) (w : WinIx) (opening : Bool) (t : Ticks) : Entry :=
  let k := s.wheelTicks t - s.wheelTicks s.bell.boundaryAt
  s.eventEntry 0x02 n.val 0x22 (word (w.val + bit01 opening * 2 ^ 8 + bit01 (s.tk n).dir * 2 ^ 9 + bit01 s.clk.runThrough * 2 ^ 10))
    (s.tk n).angle (word k) (word (k / 65536))

theorem State.windowEdge_tells (s : State) (n : TrkIx) (w : WinIx) (opening : Bool) (t : Ticks) {p : Pitch} (owner : s.trkOwner n = some p) :
    ⟨p, s.edgeEntry n w opening t⟩ ∈ (s.windowEdge n w opening t).q.events := by
  unfold State.windowEdge State.trkEvent
  rw [owner]
  exact List.mem_append_right _ (List.mem_singleton.2 rfl)

/-- Steps of the tracker that keep its angle and direction post the same WINDOW_EDGE. -/
theorem TrkStep.edgeEntry (h : TrkStep n s r) (dir : (r.tk n).dir = (s.tk n).dir) (angle : (r.tk n).angle = (s.tk n).angle)
    (opening : Bool) : r.edgeEntry n w opening t = s.edgeEntry n w opening t := by
  unfold State.edgeEntry State.eventEntry
  rw [h.wheelTicks, h.wheelTicks, h.bell, h.clk, dir, angle]

theorem State.closeWindow_tells (s : State) (n : TrkIx) (t : Ticks) (w : WinIx) {p : Pitch} (owner : s.trkOwner n = some p)
    (opened : (s.tk n).windows[w].isOpen = true) (both : (s.tk n).windows[w].action = 4) :
    ⟨p, s.edgeEntry n w false t⟩ ∈ (s.closeWindow n t w).q.events := by
  unfold State.closeWindow
  dsimp only
  rw [if_pos opened, if_pos both]
  generalize hr : (State.modTk s n _).traceWheel n 5 w.val _ = r
  have step : TrkStep n s r := hr ▸ ((TrkStep.refl n s).modTk _).traceWheel ..
  obtain ⟨f, tk⟩ : ∃ f, r.tk n = (s.tk n).modWin w f := ⟨_, by rw [← hr, State.tk_traceWheel, State.tk_modTk]⟩
  rw [← step.edgeEntry (by rw [tk]; rfl) (by rw [tk]; rfl) false]
  exact r.windowEdge_tells n w false t ((step.trkOwner n).trans owner)

theorem State.openWindow_tells (s : State) (n : TrkIx) (t : Ticks) (w : WinIx) {p : Pitch} (owner : s.trkOwner n = some p)
    (tells : (s.tk n).windows[w].action = 3 ∨ (s.tk n).windows[w].action = 4) :
    ⟨p, s.edgeEntry n w true t⟩ ∈ (s.openWindow n t w).q.events := by
  unfold State.openWindow
  dsimp only
  generalize hr : State.traceWheel _ n 4 w.val _ = r
  have step : TrkStep n s r := hr ▸ (((TrkStep.refl n s).modTk _).count ..).traceWheel ..
  obtain ⟨f, tk⟩ : ∃ f, r.tk n = (s.tk n).modWin w f := ⟨_, by rw [← hr, State.tk_traceWheel, State.tk_count, State.tk_modTk]⟩
  rw [← step.edgeEntry (by rw [tk]; rfl) (by rw [tk]; rfl) true]
  have told := r.windowEdge_tells n w true t ((step.trkOwner n).trans owner)
  rcases tells with h | h <;> rw [h] <;> exact told

/-! ### Bursts -/

/-- Every burst that runs goes on. -/
def State.BurstsOn (s t : State) : Prop := ∀ m : AinIx, (s.ana.burst[m]).isSome = true → (t.ana.burst[m]).isSome = true

theorem State.startBurst_on (s : State) (n : TrkIx) (w : WinIx) (m : AinIx) (k : Nat) : s.BurstsOn (s.startBurst n w m k) := by
  intro j on
  unfold State.startBurst
  split
  · by_cases same : m = j
    · subst same
      exact congrArg Option.isSome (vset_self ..)
    · exact (congrArg Option.isSome (vset_ne _ _ _ _ same)).trans on
  · exact on

theorem State.startBurst_starts (s : State) (n : TrkIx) (w : WinIx) (m : AinIx) (k : Nat) (owned : (s.trkOwner n).isSome = true) :
    ((s.startBurst n w m k).ana.burst[m]).isSome = true := by
  obtain ⟨p, owner⟩ := Option.isSome_iff_exists.1 owned
  unfold State.startBurst
  cases burst : s.ana.burst[m] with
  | none =>
    rw [owner]
    exact congrArg Option.isSome (vset_self ..)
  | some b =>
    change (s.ana.burst[m]).isSome = true
    rw [burst]
    rfl

theorem State.openWindow_ana (s : State) (n : TrkIx) (t : Ticks) (w : WinIx) : s.BurstsOn (s.openWindow n t w) ∧
    ((s.tk n).windows[w].action = 2 → (s.trkOwner n).isSome = true → ∀ m : AinIx, m.val = (s.tk n).windows[w].target →
      ((s.openWindow n t w).ana.burst[m]).isSome = true) := by
  unfold State.openWindow
  dsimp only
  generalize hr : State.traceWheel _ n 4 w.val _ = r
  have step : TrkStep n s r := hr ▸ (((TrkStep.refl n s).modTk _).count ..).traceWheel ..
  have ana : r.ana = s.ana := by
    rw [← hr]
    unfold State.traceWheel State.traceTo
    split
    · rw [State.trace_eq, State.count_eq]; rfl
    · rw [State.count_eq]; rfl
  have edge (o : Bool) : (r.windowEdge n w o t).ana = s.ana := by
    refine Eq.trans ?_ ana
    unfold State.windowEdge State.trkEvent State.eventTo
    dsimp only
    split <;> rfl
  have on {x : State} (h : x.ana = s.ana) : s.BurstsOn x := fun m h' => by rw [h]; exact h'
  split
  · rename_i burst
    refine ⟨fun m h => r.startBurst_on n w _ _ m (by rw [ana]; exact h), fun _ owned m at_ => ?_⟩
    have here : m = ⟨(s.tk n).windows[w].target, by unfold Window.target bits; omega⟩ := Fin.ext at_
    rw [here]
    exact r.startBurst_starts n w _ _ (by rw [step.trkOwner]; exact owned)
  · rename_i h
    exact ⟨on (edge _), fun h' => absurd (h.symm.trans h') (by decide)⟩
  · rename_i h
    exact ⟨on (edge _), fun h' => absurd (h.symm.trans h') (by decide)⟩
  · rename_i other _ _
    exact ⟨on ana, fun h' => absurd h' other⟩

theorem State.windowLeft_ana (s : State) (n : TrkIx) (t : Ticks) (a : Word) (w : WinIx) : (s.windowLeft n t a w).ana = s.ana := by
  unfold State.windowLeft
  split
  · exact State.closeWindow_ana ..
  · rfl

theorem State.evalWindow_on (s : State) (n : TrkIx) (t : Ticks) (a : Word) (prev : Bool) (w : WinIx) :
    s.BurstsOn (State.evalWindow n t a prev s w) := by
  rw [State.evalWindow_eq]
  have left : s.BurstsOn (s.windowLeft n t a w) := fun m h => by rw [State.windowLeft_ana]; exact h
  split
  · exact fun m h => (State.openWindow_ana ..).1 m (left m h)
  · exact left

end Sys2Proof.Machine
end


section
/-! SUPPORT. The micro-tick and the windows that follow the angle (R517, R520, R528 to R533). -/

namespace Sys2Proof.Machine

set_option Elab.async false

variable {s r u : State} {n : TrkIx} {t : Ticks} {w : WinIx}

/-! ### An angle update -/

/-- The state whose windows an update to `b` takes in turn. -/
def State.angleSet (s : State) (n : TrkIx) (b : Word) : State := s.modTk n fun x => { x with angle := b, prevSync := true }

theorem State.tk_angleSet (s : State) (n : TrkIx) (b : Word) : (s.angleSet n b).tk n = { s.tk n with angle := b, prevSync := true } :=
  State.tk_modTk ..

/-- Each window's turn in an update. -/
theorem State.evalWindow_turn (s : State) (n : TrkIx) (t : Ticks) (a : Word) (prev : Bool) (r : State) (w : WinIx) (h : TrkStep n s r) :
    TrkStep n r (State.evalWindow n t a prev r w) ∧ ∀ v, r.tk n = { s.tk n with windows := v } →
      (State.evalWindow n t a prev r w).tk n = (r.tk n).modWin w (Window.updated (s.tk n).dir a (s.tk n).angle prev s.dev.closed) := by
  refine ⟨(TrkStep.refl n r).evalWindow .., fun v e => ?_⟩
  rw [State.tk_evalWindow, h.dev, e]

theorem State.angleUpdate_tk (s : State) (n : TrkIx) (t : Ticks) (b : Word) : ∃ v,
    (s.angleUpdate n t b).tk n = { s.tk n with angle := b, prevSync := true, windows := v } ∧
    ∀ w : WinIx, v[w] = Window.updated (s.tk n).dir (s.tk n).angle b (s.tk n).prevSync s.dev.closed (s.tk n).windows[w] := by
  obtain ⟨-, v, e, each⟩ := (s.angleSet n b).eachWindow (n := n) (State.evalWindow n t (s.tk n).angle (s.tk n).prevSync)
    (fun _ => _) (State.evalWindow_turn _ n t _ _)
  rw [State.tk_angleSet] at e each
  exact ⟨v, e, each⟩

/-- A window's turn in an update: it is met as it was, and later turns keep what it told and what bursts it started. -/
theorem State.angleUpdate_turn (s : State) (n : TrkIx) (t : Ticks) (b : Word) (w : WinIx) : ∃ (r : State) (v : Vector Window 16),
    TrkStep n (s.angleSet n b) r ∧ r.tk n = { (s.angleSet n b).tk n with windows := v } ∧ v[w] = (s.tk n).windows[w] ∧
    TrkStep n (State.evalWindow n t (s.tk n).angle (s.tk n).prevSync r w) (s.angleUpdate n t b) ∧
    (State.evalWindow n t (s.tk n).angle (s.tk n).prevSync r w).BurstsOn (s.angleUpdate n t b) := by
  obtain ⟨r, v, post, step, e, same, whole, rest⟩ := (s.angleSet n b).windowTurn (n := n)
    (State.evalWindow n t (s.tk n).angle (s.tk n).prevSync) (fun _ => _) (State.evalWindow_turn _ n t _ _) w
  refine ⟨r, v, step, e, same.trans (by rw [State.tk_angleSet]), ?_, ?_⟩
  · change TrkStep n _ (winIxs.foldl (State.evalWindow n t (s.tk n).angle (s.tk n).prevSync) (s.angleSet n b))
    rw [whole]
    exact rest
  · change State.BurstsOn _ (winIxs.foldl (State.evalWindow n t (s.tk n).angle (s.tk n).prevSync) (s.angleSet n b))
    rw [whole]
    exact List.foldlRecOn post _ (motive := State.BurstsOn _) (fun _ h => h) fun x h y _ m on => x.evalWindow_on n t _ _ y m (h m on)

/-- The WINDOW_EDGE of an update of tracker `n` to `b` (R533). -/
def State.edgeAt (s : State) (n : TrkIx) (b : Word) (w : WinIx) (opening : Bool) (t : Ticks) : Entry :=
  let k := s.wheelTicks t - s.wheelTicks s.bell.boundaryAt
  s.eventEntry 0x02 n.val 0x22 (word (w.val + bit01 opening * 2 ^ 8 + bit01 (s.tk n).dir * 2 ^ 9 + bit01 s.clk.runThrough * 2 ^ 10)) b
    (word k) (word (k / 65536))

theorem State.edgeEntry_angleSet (s : State) (n : TrkIx) (b : Word) (w : WinIx) (opening : Bool) (t : Ticks) :
    (s.angleSet n b).edgeEntry n w opening t = s.edgeAt n b w opening t := by
  unfold State.edgeEntry
  rw [State.tk_angleSet]
  rfl

/-- What an update tells of a window, and the burst it starts. -/
theorem State.angleUpdate_tells (s : State) (n : TrkIx) (t : Ticks) (b : Word) (w : WinIx) :
    let v := (s.tk n).windows[w]
    let opens := v.opens (s.tk n).dir (s.tk n).angle b (s.tk n).prevSync s.dev.closed
    let told (opening : Bool) : Prop := ∀ p, s.trkOwner n = some p → ⟨p, s.edgeAt n b w opening t⟩ ∈ (s.angleUpdate n t b).q.events
    (opens = true → (v.action = 3 ∨ v.action = 4) → told true) ∧ (v.leaves (s.tk n).angle b = true → v.action = 4 → told false) ∧
    (opens = true → v.action = 2 → (s.trkOwner n).isSome = true → ∀ m : AinIx, m.val = v.target →
      ((s.angleUpdate n t b).ana.burst[m]).isSome = true) := by
  intro v opens told
  obtain ⟨r, z, step, tk, same, rest, on⟩ := s.angleUpdate_turn n t b w
  have later := List.IsPrefix.subset rest.events
  clear rest
  rw [State.tk_angleSet] at tk
  have window : (r.tk n).windows[w] = v := by rw [tk]; exact same
  have owner (m : TrkIx) : r.trkOwner m = s.trkOwner m := step.trkOwner m
  have entry (o : Bool) : r.edgeEntry n w o t = s.edgeAt n b w o t := by
    rw [← State.edgeEntry_angleSet]
    exact step.edgeEntry (by rw [tk, State.tk_angleSet]) (by rw [tk, State.tk_angleSet]) o
  have shape := r.evalWindow_eq n t (s.tk n).angle (s.tk n).prevSync w
  rw [window, show (r.tk n).dir = (s.tk n).dir by rw [tk], show (r.tk n).angle = b by rw [tk],
    show r.dev.closed = s.dev.closed from congrArg Device.closed step.dev] at shape
  have left := TrkStep.windowLeft r n t (s.tk n).angle w
  have leftTk := r.tk_windowLeft n t (s.tk n).angle w
  have cfg : ((r.windowLeft n t (s.tk n).angle w).tk n).windows[w].cfg = v.cfg := by
    rw [leftTk, Tracker.modWin_self]
    change (r.tk n).windows[w].cfg = v.cfg
    rw [window]
  have action : ((r.windowLeft n t (s.tk n).angle w).tk n).windows[w].action = v.action := congrArg (bits · 0 3) cfg
  have target : ((r.windowLeft n t (s.tk n).angle w).tk n).windows[w].target = v.target := congrArg (bits · 4 3) cfg
  clear cfg
  have leftEntry (o : Bool) : (r.windowLeft n t (s.tk n).angle w).edgeEntry n w o t = s.edgeAt n b w o t :=
    (left.edgeEntry (by rw [leftTk]; rfl) (by rw [leftTk]; rfl) o).trans (entry o)
  have leftOwner : (r.windowLeft n t (s.tk n).angle w).trkOwner n = s.trkOwner n := (left.trkOwner n).trans (owner n)
  have leaving (leaves : v.leaves (s.tk n).angle b = true) (both : v.action = 4) (p : Pitch) (own : s.trkOwner n = some p) :
      ⟨p, s.edgeAt n b w false t⟩ ∈ (r.windowLeft n t (s.tk n).angle w).q.events := by
    have opened : (r.tk n).windows[w].isOpen = true := by
      rw [window]
      exact (Bool.and_eq_true_iff.1 leaves).1
    unfold State.windowLeft
    rw [if_pos (by rw [window, show (r.tk n).angle = b by rw [tk]]; exact leaves), ← entry]
    exact r.closeWindow_tells n t w ((owner n).trans own) opened (by rw [window]; exact both)
  generalize r.windowLeft n t (s.tk n).angle w = x at shape left action target leftEntry leftOwner leaving
  have kept : TrkStep n x (State.evalWindow n t (s.tk n).angle (s.tk n).prevSync r w) := by
    rw [shape]
    split
    · exact (TrkStep.refl n x).openWindow t w
    · exact .refl n x
  refine ⟨fun yes tells p own => ?_, fun leaves both p own => ?_, fun yes burst owned m at_ => ?_⟩
  · rw [if_pos yes] at shape
    rw [shape] at later
    rw [← leftEntry]
    exact later (x.openWindow_tells n t w (leftOwner.trans own) (tells.imp action.trans action.trans))
  · exact later (kept.events.subset (leaving leaves both p own))
  · rw [if_pos yes] at shape
    refine on m ?_
    rw [shape]
    exact (x.openWindow_ana n t w).2 (action.trans burst) (by rw [leftOwner]; exact owned) m (at_.trans target.symm)

/-! ### The micro-tick -/

theorem execMicroTick_free (free : s.wheelHeld n .micro t = false) : exec (.microTick n t) s = .next (s.wheelAct n .micro t) :=
  congrArg Host.Outcome.next (if_neg (ne_true_of_eq_false free))

/-- A micro-tick that is reached moves the angle. -/
theorem State.wheelAct_micro (s : State) (n : TrkIx) (t : Ticks) (sync : (s.tk n).sync = .sync) (free : (s.tk n).hold = false)
    (reached : (s.tk n).micro < (s.tk n).microsAt ((s.tk n).since (s.wheelTicks t))) : s.wheelAct n .micro t =
      ((s.tick t).modTk n fun x => { x with micro := (s.tk n).micro + 1 }).angleUpdate n t ((s.tk n).angleAt ((s.tk n).micro + 1)) :=
  if_pos ⟨sync, by change (!(s.tk n).hold) = true; rw [free]; rfl, reached⟩

theorem Window.inArc_iff (v : Window) (c : Word) : v.inArc c = true ↔
    if v.start < v.stop then v.start ≤ c ∧ c < v.stop else v.start ≤ c ∨ c < v.stop := by
  unfold Window.inArc
  split <;> simp

theorem winLevel_iff (s : State) (m : TrkIx) : s.winLevel m = true ↔ ∃ (n : TrkIx) (w : WinIx) (p : Pitch),
    s.pit.own.win[m] = some p ∧ s.trkOwner n = some p ∧ (s.tk n).windows[w].isOpen = true ∧
    (s.tk n).windows[w].cfg.toNat % 8 = 1 ∧ (s.tk n).windows[w].cfg.toNat / 16 % 8 = m.val := by
  have all : ∀ n : TrkIx, n ∈ trkIxs := by decide
  have action (v : Window) : v.action = v.cfg.toNat % 8 := by simp [Window.action, bits]
  have target (v : Window) : v.target = v.cfg.toNat / 16 % 8 := rfl
  simp only [State.winLevel, List.any_eq_true, Bool.and_eq_true, decide_eq_true_eq, beq_iff_eq, action, target]
  constructor
  · rintro ⟨n, -, ⟨same, owned⟩, w, -, ⟨opened, pin⟩, at_⟩
    obtain ⟨p, own⟩ := Option.ne_none_iff_exists'.1 owned
    exact ⟨n, w, p, same.symm.trans own, own, opened, pin, at_⟩
  · rintro ⟨n, w, p, win, own, opened, pin, at_⟩
    exact ⟨n, all n, ⟨own.trans win.symm, by rw [own]; exact Option.some_ne_none p⟩, w, mem_winIxs w, ⟨opened, pin⟩, at_⟩

/-- Leaving sync closes every window and keeps it armed. -/
theorem State.loseSync_windows (s : State) (n : TrkIx) (reason : Word) (t : Ticks) (in_ : (s.tk n).sync ≠ .unsync) (w : WinIx) :
    ((s.loseSync n reason t).tk n).windows[w] = { (s.tk n).windows[w] with isOpen := false } := by
  obtain ⟨v, closed, each⟩ := s.closeWindows_each n t
  have left : ((s.setSync n .unsync t).tk n).windows = v := by
    unfold State.setSync
    rw [if_neg in_, if_neg (by decide), State.tk_traceWheel, State.tk_modTk, closed]
  rw [← each w]
  refine congrArg (fun z : Vector Window 16 => z[w]) ?_
  unfold State.loseSync
  dsimp only
  split
  · rw [State.tk_trkEvent, State.tk_count, State.tk_modTk, State.tk_modTk, left]
  · rw [State.tk_modTk, left]

/-- Settles O51: the windows are taken in turn, each as it was, and later ones leave what an earlier one told and started. -/
theorem windowsFollowTheAngle : Obligations.WindowsFollowTheAngle := by
  unfold Obligations.WindowsFollowTheAngle
  refine ⟨fun s n t => ?_, Window.inArc_iff, fun s n heard closed in_ => ?_, winLevel_iff⟩
  · intro x a b enters leaves arms opens told free sync hold reached
    have row : exec (.microTick n t) s = _ := (execMicroTick_free free).trans (congrArg _ (s.wheelAct_micro n t sync hold reached))
    have first := (TrkStep.refl n (s.tick t)).modTk fun x => { x with micro := (s.tk n).micro + 1 }
    have tk : ((s.tick t).modTk n fun x => { x with micro := (s.tk n).micro + 1 }).tk n = { x with micro := x.micro + 1 } := State.tk_modTk ..
    have closed := first.dev
    have owner := first.trkOwner n
    have entry (w : WinIx) (o : Bool) : ((s.tick t).modTk n fun x => { x with micro := (s.tk n).micro + 1 }).edgeAt n b w o t =
        s.edgeAt n b w o t := by
      unfold State.edgeAt
      rw [tk]
      rfl
    generalize (s.tick t).modTk n (fun x => { x with micro := (s.tk n).micro + 1 }) = y at row first tk closed owner entry
    have step := first.angleUpdate t b
    obtain ⟨v, here, each⟩ := y.angleUpdate_tk n t b
    have tells := y.angleUpdate_tells n t b
    rw [tk, show y.dev.closed = s.dev.closed from congrArg Device.closed closed] at each tells
    rw [tk] at here
    simp only [entry, owner] at tells
    change exec (.microTick n t) s = .next (y.angleUpdate n t b) at row
    generalize y.angleUpdate n t b = u at row step here tells
    refine ⟨u, row, step.trackerOnly, by rw [here], by rw [here], fun w => ⟨?_, tells w⟩⟩
    rw [here]
    exact each w
  · have row : exec (.wsOpen n) s = .next (((s.modTk n fun x => { x with wsOpen := true }).loseSync n 2 s.now).trkEvent n 0x24 1 0 0 0) :=
      if_pos ⟨heard, by rw [closed]; rfl⟩
    refine ⟨_, row, fun w => ?_⟩
    have tk : (s.modTk n fun x => { x with wsOpen := true }).tk n = { s.tk n with wsOpen := true } := State.tk_modTk ..
    generalize s.modTk n (fun x => { x with wsOpen := true }) = y at tk ⊢
    rw [State.tk_trkEvent, State.loseSync_windows _ _ _ _ (by rw [tk]; exact in_), tk]

end Sys2Proof.Machine
end


section
/-! SUPPORT. Teeth of a wheel tracker: what a commit leaves of it (R502 to R524). -/

namespace Sys2Proof.Machine

set_option Elab.async false

variable {s r u : State} {n : TrkIx} {t : Ticks} {x y z : Tracker}

/-! ### The tracker as its operations leave it -/

theorem State.tk_setSync (s : State) (n : TrkIx) (y : Sync) (t : Ticks) :
    ∃ v prev, (s.setSync n y t).tk n = { s.tk n with sync := y, windows := v, prevSync := prev } := by
  unfold State.setSync
  split
  · rename_i same
    exact ⟨_, _, by rw [← same]⟩
  · obtain ⟨v, closed⟩ := s.tk_closeWindows n t
    rw [State.tk_traceWheel, State.tk_modTk]
    split
    · exact ⟨_, _, rfl⟩
    · rw [closed]
      exact ⟨_, _, rfl⟩

theorem State.tk_commitAngle (s : State) (n : TrkIx) (t : Ticks) :
    ∃ m a prev v, (s.commitAngle n t).tk n = { s.tk n with micro := m, angle := a, prevSync := prev, windows := v } := by
  unfold State.commitAngle
  dsimp only
  split
  · generalize (if (s.tk n).hold = true then 0 else (s.tk n).microsAt ((s.tk n).since (s.wheelTicks t))) = m
    obtain ⟨v, h, -⟩ := (s.modTk n fun x => { x with micro := m }).angleUpdate_tk n t ((s.tk n).angleAt m)
    rw [h, State.tk_modTk]
    exact ⟨_, _, _, _, rfl⟩
  · exact ⟨_, _, _, _, rfl⟩

theorem State.tk_countRev (s : State) (n : TrkIx) (x : Tracker) (m : TrkIx) : (s.countRev n x).tk m = s.tk m := by
  unfold State.countRev
  split
  · exact State.tk_count ..
  · rfl

/-- A synthetic tooth. -/
theorem State.tk_syntheticTooth (s : State) (n : TrkIx) (t : Ticks) : ∃ m a prev v, (s.syntheticTooth n t).tk n =
    { (s.tk n).advance ((s.tk n).lastTooth.getD 0 + (s.tk n).expected) (s.tk n).expected true with
      synthCount := satInc (s.tk n).synthCount, pulseStart := none, pulseEnd := none, micro := m, angle := a, prevSync := prev
      windows := v } := by
  unfold State.syntheticTooth
  dsimp only
  generalize hr : (State.countRev _ n _).count 0x11 n.val = r
  have tk : r.tk n = { (s.tk n).advance ((s.tk n).lastTooth.getD 0 + (s.tk n).expected) (s.tk n).expected true with
      synthCount := satInc (s.tk n).synthCount, pulseStart := none, pulseEnd := none } := by
    rw [← hr, State.tk_count, State.tk_countRev, State.tk_modTk]
  obtain ⟨m, a, prev, v, h⟩ := r.tk_commitAngle n t
  exact ⟨m, a, prev, v, by rw [State.tk_traceWheel, h, tk]⟩

/-! ### What pulses leave of the sensor -/

/-- A tracker keeps its TRACK set, DIR_UNKNOWN and BAD_PULSE, and begins no pulse. -/
structure Tracker.Sensed (x y : Tracker) : Prop where
  live : y.live = x.live
  dirUnknown : y.dirUnknown = x.dirUnknown
  badPulse : y.badPulse = x.badPulse
  started : x.pulseStart = none → y.pulseStart = none
  ended : x.pulseEnd = none → y.pulseEnd = none

namespace Tracker.Sensed

protected theorem refl (x : Tracker) : Sensed x x := ⟨rfl, rfl, rfl, id, id⟩

theorem trans (h : Sensed x y) (k : Sensed y z) : Sensed x z :=
  ⟨k.live.trans h.live, k.dirUnknown.trans h.dirUnknown, k.badPulse.trans h.badPulse, k.started ∘ h.started, k.ended ∘ h.ended⟩

end Tracker.Sensed

/-- Operations that keep a tracker's sensor, seen from a state before them. -/
def State.Sensed (n : TrkIx) (s t : State) : Prop := (s.tk n).Sensed (t.tk n)

namespace State.Sensed

protected theorem refl (n : TrkIx) (s : State) : Sensed n s s := Tracker.Sensed.refl _

theorem trans (h : Sensed n s r) (k : Sensed n r u) : Sensed n s u := Tracker.Sensed.trans h k

theorem modTk (h : Sensed n s r) {f : Tracker → Tracker} (hf : (r.tk n).Sensed (f (r.tk n))) : Sensed n s (r.modTk n f) :=
  h.trans (by rw [Sensed, State.tk_modTk]; exact hf)

theorem count (h : Sensed n s r) (c i : Nat) (w : Option Pitch) : Sensed n s (r.count c i w) :=
  h.trans (by rw [Sensed, State.tk_count]; exact .refl _)

theorem traceWheel (h : Sensed n s r) (k d : Nat) (v : Word) : Sensed n s (r.traceWheel n k d v) :=
  h.trans (by rw [Sensed, State.tk_traceWheel]; exact .refl _)

theorem trkEvent (h : Sensed n s r) (k : Nat) (w4 w5 w6 w7 : Word) : Sensed n s (r.trkEvent n k w4 w5 w6 w7) :=
  h.trans (by rw [Sensed, State.tk_trkEvent]; exact .refl _)

theorem setSync (h : Sensed n s r) (y : Sync) (t : Ticks) : Sensed n s (r.setSync n y t) := by
  obtain ⟨v, prev, tk⟩ := r.tk_setSync n y t
  exact h.trans (by rw [Sensed, tk]; exact ⟨rfl, rfl, rfl, id, id⟩)

theorem loseSync (h : Sensed n s r) (reason : Word) (t : Ticks) : Sensed n s (r.loseSync n reason t) := by
  obtain ⟨v, prev, losses, tk⟩ := r.tk_loseSync n reason t
  exact h.trans (by rw [Sensed, tk]; exact ⟨rfl, rfl, rfl, id, id⟩)

theorem countRev (h : Sensed n s r) (x : Tracker) : Sensed n s (r.countRev n x) :=
  h.trans (by rw [Sensed, State.tk_countRev]; exact .refl _)

theorem commitAngle (h : Sensed n s r) (t : Ticks) : Sensed n s (r.commitAngle n t) := by
  obtain ⟨m, a, prev, v, tk⟩ := r.tk_commitAngle n t
  exact h.trans (by rw [Sensed, tk]; exact ⟨rfl, rfl, rfl, id, id⟩)

theorem goodTooth (h : Sensed n s r) (p : Nat) (t : Ticks) : Sensed n s (r.goodTooth n p t) := by
  unfold State.goodTooth
  dsimp only
  refine traceWheel (commitAngle ?_ t) ..
  generalize hw : (State.countRev _ n _).count 0x10 n.val = w
  have first : Sensed n s w := hw ▸ ((h.modTk ⟨rfl, rfl, rfl, id, id⟩).countRev _).count ..
  clear hw
  split
  · exact (first.setSync ..).trkEvent ..
  · exact first

theorem syntheticTooth (h : Sensed n s r) (t : Ticks) : Sensed n s (r.syntheticTooth n t) := by
  obtain ⟨m, a, prev, v, tk⟩ := r.tk_syntheticTooth n t
  exact h.trans (by rw [Sensed, tk]; exact ⟨rfl, rfl, rfl, fun _ => rfl, fun _ => rfl⟩)

theorem badTooth (h : Sensed n s r) (t : Ticks) (closed : Bool) : Sensed n s (r.badTooth n t closed) := by
  unfold State.badTooth
  dsimp only
  split
  · exact h
  · exact h.loseSync 0 t
  · split
    · exact h.loseSync 1 t
    · have marked : Sensed n s (r.modTk n fun x => { x with bad := 1, judged := true }) := h.modTk ⟨rfl, rfl, rfl, id, id⟩
      split
      · exact marked.syntheticTooth t
      · exact marked

theorem windowEnd (h : Sensed n s r) (t : Ticks) : Sensed n s (r.windowEnd n t) := by
  unfold State.windowEnd
  dsimp only
  split
  · exact h.syntheticTooth t
  · split
    · exact h
    · exact h.badTooth t true

theorem settleWindow (h : Sensed n s r) (p : Nat) : Sensed n s (r.settleWindow n p) := by
  unfold State.settleWindow
  dsimp only
  split
  · exact h.windowEnd _
  · exact h

theorem freeTooth (h : Sensed n s r) (p : Nat) (t : Ticks) (rev : Bool) : Sensed n s (r.freeTooth n p t rev) := by
  unfold State.freeTooth
  dsimp only
  refine traceWheel ?_ ..
  generalize hw : State.count _ 0x10 n.val = w
  have first : Sensed n s w := by
    rw [← hw]
    refine (h.modTk ?_).count ..
    split <;> exact ⟨rfl, rfl, rfl, id, id⟩
  clear hw
  exact iteInduction (motive := Sensed n s) (fun _ => (first.modTk ⟨rfl, rfl, rfl, id, id⟩).setSync ..) fun _ => first

theorem reversal (h : Sensed n s r) (p : Nat) (t : Ticks) (rev : Bool) : Sensed n s (r.reversal n p t rev) := by
  unfold State.reversal
  exact (((h.modTk ⟨rfl, rfl, rfl, id, id⟩).count ..).commitAngle t).traceWheel ..

theorem toothPulse (h : Sensed n s r) (p : Nat) (t : Ticks) (rev : Bool) : Sensed n s (r.toothPulse n p t rev) := by
  unfold State.toothPulse
  dsimp only
  split
  · exact h.freeTooth p t rev
  · split
    · exact h
    · split
      · split
        · exact h.reversal p t rev
        · exact (h.loseSync 0 t).freeTooth p t rev
      · split
        · exact h.goodTooth p t
        · split
          · exact h
          · split
            · exact h.badTooth ..
            · exact h.goodTooth p t

end State.Sensed

/-- A pulse decoded, by its class. -/
theorem State.pulse_spec (s : State) (n : TrkIx) (p w : Nat) (t : Ticks) (started : (s.tk n).pulseStart = none) (ended : (s.tk n).pulseEnd = none) :
    ((s.pulse n p w t).tk n).pulseStart = none ∧ ((s.pulse n p w t).tk n).pulseEnd = none ∧
    ((s.tk n).live.classify w = .forward ∨ (s.tk n).live.classify w = .reverse → ((s.pulse n p w t).tk n).dirUnknown = false) ∧
    ((s.tk n).live.classify w = .neutral → ((s.pulse n p w t).tk n).dirUnknown = true) ∧
    ((s.tk n).live.classify w = .invalid → ((s.pulse n p w t).tk n).dirUnknown = (s.tk n).dirUnknown ∧
      ((s.pulse n p w t).tk n).badPulse = satInc (s.tk n).badPulse) := by
  have settled : State.Sensed n s ((s.settleWindow n p).settleWindow n p) := ((State.Sensed.refl n s).settleWindow p).settleWindow p
  unfold State.pulse
  dsimp only
  generalize (s.settleWindow n p).settleWindow n p = r at settled
  have start := settled.started started
  have end_ := settled.ended ended
  have decoded (d rev : Bool) : State.Sensed n (r.modTk n fun x => { x with dirUnknown := d })
      ((r.modTk n fun x => { x with dirUnknown := d }).toothPulse n p t rev) := (State.Sensed.refl ..).toothPulse ..
  have tk (d : Bool) : (r.modTk n fun x => { x with dirUnknown := d }).tk n = { r.tk n with dirUnknown := d } := State.tk_modTk ..
  have class_ := congrArg (TrackSet.classify · w) settled.live
  rw [← class_]
  split
  · rename_i h
    have d := decoded false false
    refine ⟨d.started (by rw [tk]; exact start), d.ended (by rw [tk]; exact end_), fun _ => d.dirUnknown.trans (by rw [tk]),
      fun k => ?_, fun k => ?_⟩ <;> (rw [h] at k; cases k)
  · rename_i h
    have d := decoded false true
    refine ⟨d.started (by rw [tk]; exact start), d.ended (by rw [tk]; exact end_), fun _ => d.dirUnknown.trans (by rw [tk]),
      fun k => ?_, fun k => ?_⟩ <;> (rw [h] at k; cases k)
  · rename_i h
    have d := decoded true (r.tk n).dir
    refine ⟨d.started (by rw [tk]; exact start), d.ended (by rw [tk]; exact end_), fun k => ?_, fun _ => d.dirUnknown.trans (by rw [tk]),
      fun k => ?_⟩
    · rw [h] at k
      rcases k with k | k <;> cases k
    · rw [h] at k
      cases k
  · rename_i h
    have tk' : (r.modTk n fun x => { x with badPulse := satInc x.badPulse }).tk n = { r.tk n with badPulse := satInc (r.tk n).badPulse } :=
      State.tk_modTk ..
    have d (c : Prop) [Decidable c] (closed : Bool) : State.Sensed n (r.modTk n fun x => { x with badPulse := satInc x.badPulse })
        (if c then (r.modTk n fun x => { x with badPulse := satInc x.badPulse }).badTooth n t closed
          else r.modTk n fun x => { x with badPulse := satInc x.badPulse }) := by
      split
      · exact (State.Sensed.refl ..).badTooth ..
      · exact .refl ..
    refine ⟨(d _ _).started (by rw [tk']; exact start), (d _ _).ended (by rw [tk']; exact end_), fun k => ?_, fun k => ?_,
      fun _ => ⟨((d _ _).dirUnknown.trans (by rw [tk'])).trans settled.dirUnknown,
        ((d _ _).badPulse.trans (by rw [tk'])).trans (congrArg satInc settled.badPulse)⟩⟩
    · rw [h] at k
      rcases k with k | k <;> cases k
    · rw [h] at k
      cases k

/-! ### The rows -/

theorem execToothCommit_free (free : s.wheelHeld n .tooth t = false) :
    exec (.toothCommit n t) s = .next ((s.wheelAct n .tooth t).wheelServe n) :=
  congrArg Host.Outcome.next (if_neg (ne_true_of_eq_false free))

theorem execToothWindowClose_free (free : s.wheelHeld n .close t = false) :
    exec (.toothWindowClose n t) s = .next ((s.wheelAct n .close t).wheelServe n) :=
  congrArg Host.Outcome.next (if_neg (ne_true_of_eq_false free))

theorem State.wheelAct_tooth (s : State) (n : TrkIx) (t : Ticks) {p e : Nat} (start : (s.tk n).pulseStart = some p)
    (end_ : (s.tk n).pulseEnd = some e) : s.wheelAct n .tooth t =
      ((s.tick t).modTk n fun x => { x with pulseStart := none, pulseEnd := none }).pulse n p (e - p) t := by
  unfold State.wheelAct
  dsimp only
  change (match (s.tk n).pulseStart, (s.tk n).pulseEnd with
    | some p, some q => ((s.tick t).modTk n fun x => { x with pulseStart := none, pulseEnd := none }).pulse n p (q - p) t
    | _, _ => s.tick t) = _
  rw [start, end_]

theorem State.wheelAct_close (s : State) (n : TrkIx) (t : Ticks) (watched : (s.tk n).watched = true)
    (done : (s.tk n).windowOver ((s.tk n).since (s.wheelTicks t)) = true) : s.wheelAct n .close t = (s.tick t).windowEnd n t :=
  if_pos ⟨watched, done⟩

/-- The expected tooth at the close of its window: a synthetic tooth, a loss, or a pulse that is yet to come. -/
theorem State.windowEnd_spec (s : State) (n : TrkIx) (t : Ticks) :
    let x := s.tk n
    let u := s.windowEnd n t
    let missing := x.judged = false ∧ x.pulsePending = false ∧ x.slowNow = false
    (x.judged = true ∨ (missing ∧ x.sync = .sync ∧ x.bad = 0) →
      (u.tk n).synthCount = satInc x.synthCount ∧ (u.tk n).tooth = x.table.next x.dir x.tooth ∧
      (u.tk n).lastTooth = some (x.lastTooth.getD 0 + x.expected) ∧ (u.tk n).sync = x.sync) ∧
    (missing → x.sync = .confirm → (u.tk n).sync = .unsync ∧ (u.tk n).syncLossCount = x.syncLossCount) ∧
    (missing → x.sync = .sync → 1 ≤ x.bad → (u.tk n).sync = .unsync ∧ (u.tk n).syncLossCount = satInc x.syncLossCount) ∧
    (x.judged = false → (x.pulsePending = true ∨ x.slowNow = true) → u = s) := by
  intro x u missing
  have judged : x.judged = true → u = s.syntheticTooth n t := fun h => if_pos h
  have bad : missing → u = s.badTooth n t true := fun ⟨j, p, w⟩ =>
    (if_neg (ne_true_of_eq_false j)).trans (if_neg (by rw [p, w]; decide))
  have loss (reason : Word) : ((s.loseSync n reason t).tk n).syncLossCount = if x.sync = .sync then satInc x.syncLossCount else x.syncLossCount := by
    obtain ⟨v, prev, left⟩ := s.tk_setSync_unsync n t
    unfold State.loseSync
    dsimp only
    split
    · rw [State.tk_trkEvent, State.tk_count, State.tk_modTk, State.tk_modTk, left]
    · rw [State.tk_modTk, left]
  refine ⟨fun h => ?_, fun m sync => ?_, fun m sync again => ?_, fun j pending => ?_⟩
  · rcases h with h | ⟨m, sync, first⟩
    · obtain ⟨m, a, prev, v, tk⟩ := s.tk_syntheticTooth n t
      rw [judged h, tk]
      exact ⟨rfl, rfl, rfl, rfl⟩
    · have synthetic : s.badTooth n t true = (s.modTk n fun x => { x with bad := 1, judged := true }).syntheticTooth n t := by
        have sync : (s.tk n).sync = .sync := sync
        have first : ¬ 1 ≤ (s.tk n).bad := by
          change ¬ 1 ≤ x.bad
          omega
        unfold State.badTooth
        dsimp only
        rw [sync]
        dsimp only
        rw [if_neg first]
        rfl
      obtain ⟨m', a, prev, v, tk⟩ := (s.modTk n fun x => { x with bad := 1, judged := true }).tk_syntheticTooth n t
      rw [State.tk_modTk] at tk
      rw [bad m, synthetic, tk]
      exact ⟨rfl, rfl, rfl, rfl⟩
  · have lost : s.badTooth n t true = s.loseSync n 0 t := by
      have sync : (s.tk n).sync = .confirm := sync
      unfold State.badTooth
      dsimp only
      rw [sync]
    rw [bad m, lost, loss, if_neg (by rw [sync]; decide)]
    exact ⟨State.loseSync_sync .., rfl⟩
  · have lost : s.badTooth n t true = s.loseSync n 1 t := by
      have sync : (s.tk n).sync = .sync := sync
      unfold State.badTooth
      dsimp only
      rw [sync]
      exact if_pos again
    rw [bad m, lost, loss, if_pos sync]
    exact ⟨State.loseSync_sync .., rfl⟩
  · refine (if_neg (ne_true_of_eq_false j)).trans (if_pos ?_)
    rcases pending with h | h
    · exact (congrArg (· || _) h).trans (Bool.true_or _)
    · exact (congrArg (_ || ·) h).trans (Bool.or_true _)

/-- The next micro-tick is reached where its instant has come (R517). -/
theorem Tracker.micro_lt_microsAt (x : Tracker) (e : Nat) (moves : 0 < x.pBase * x.table.ahead x.dir x.tooth) :
    x.micro < x.microsAt e ↔ x.micro + 1 ≤ 2 ^ x.kNow - 1 ∧
      (x.micro + 1) * (x.pBase * x.table.ahead x.dir x.tooth) ≤ e * 2 ^ x.kNow * x.dBase := by
  unfold Tracker.microsAt
  rw [lt_min_iff, Nat.lt_iff_add_one_le, Nat.lt_iff_add_one_le, Nat.le_div_iff_mul_le moves]

theorem State.wheelAct_micro_idle (s : State) (n : TrkIx) (t : Ticks)
    (early : ¬ (s.tk n).micro < (s.tk n).microsAt ((s.tk n).since (s.wheelTicks t))) : s.wheelAct n .micro t = s.tick t :=
  if_neg fun h => early h.2.2

/-- Settles O48, event by event: the pulse's class, the verdict of a closed window, and the next micro-tick. -/
theorem wheelPulsesCommitTeeth : Obligations.WheelPulsesCommitTeeth := by
  unfold Obligations.WheelPulsesCommitTeeth
  refine ⟨fun s n level t heard new => ?_, fun s n t r mem held => ?_, fun s n t p e free start end_ => ?_,
    fun s n t free watched done => ?_, fun s n t free sync hold => ?_, fun s n => rfl⟩
  · exact if_pos ⟨heard, new⟩
  · simp only [List.mem_cons, List.not_mem_nil, or_false] at mem
    rcases mem with rfl | rfl | rfl
    · exact congrArg Host.Outcome.next (if_pos held)
    · exact congrArg Host.Outcome.next (if_pos held)
    · exact congrArg Host.Outcome.next (if_pos held)
  · have tk : ((s.tick t).modTk n fun x => { x with pulseStart := none, pulseEnd := none }).tk n =
        { s.tk n with pulseStart := none, pulseEnd := none } := State.tk_modTk ..
    have step := ((TrkStep.refl n (s.tick t)).modTk fun x => { x with pulseStart := none, pulseEnd := none }).pulse p (e - p) t
    have row := execToothCommit_free free
    rw [s.wheelAct_tooth n t start end_] at row
    generalize (s.tick t).modTk n (fun x => { x with pulseStart := none, pulseEnd := none }) = r at tk step row
    have spec := r.pulse_spec n p (e - p) t (by rw [tk]) (by rw [tk])
    rw [tk] at spec
    exact ⟨_, row, step.trackerOnly, spec⟩
  · intro x missing
    have row := execToothWindowClose_free free
    rw [s.wheelAct_close n t watched done] at row
    exact ⟨_, row, ((TrkStep.refl n (s.tick t)).windowEnd t).trackerOnly, (s.tick t).windowEnd_spec n t⟩
  · intro x m d e reached moves
    have row := execMicroTick_free free
    have iff : x.micro < x.microsAt e ↔ reached := x.micro_lt_microsAt e moves
    by_cases h : x.micro < x.microsAt e
    · rw [s.wheelAct_micro n t sync hold h] at row
      have tk : ((s.tick t).modTk n fun x => { x with micro := (s.tk n).micro + 1 }).tk n = { x with micro := m } := State.tk_modTk ..
      have step := ((TrkStep.refl n (s.tick t)).modTk fun x => { x with micro := (s.tk n).micro + 1 }).angleUpdate t (x.angleAt m)
      generalize (s.tick t).modTk n (fun x => { x with micro := (s.tk n).micro + 1 }) = r at tk step row
      obtain ⟨v, last, -⟩ := r.angleUpdate_tk n t (x.angleAt m)
      refine ⟨_, row, step.trackerOnly, fun _ => ?_, fun no => absurd (iff.1 h) no⟩
      change ((r.angleUpdate n t (x.angleAt m)).tk n).micro = m ∧ _
      have angle : ((r.angleUpdate n t (x.angleAt m)).tk n).angle = x.angleAt m := by rw [last]
      refine ⟨by rw [last, tk], fun forward => ?_, fun reverse => ?_⟩
      · refine angle.trans ?_
        unfold Tracker.angleAt
        rw [if_neg (ne_true_of_eq_false forward)]
        exact (BitVec.ofNat_add ..).symm
      · refine angle.trans ?_
        unfold Tracker.angleAt
        rw [if_pos reverse]
    · rw [s.wheelAct_micro_idle n t h] at row
      exact ⟨_, row, (TrkStep.refl n (s.tick t)).trackerOnly, fun yes => absurd (iff.2 yes) h, fun _ => rfl⟩

end Sys2Proof.Machine
end


section
/-! SUPPORT. What the operations of a boundary leave of the accesses and commands that wait: no access joins or leaves, and no command
joins (R304, R640). -/

namespace Sys2Proof.Machine

set_option Elab.async false

variable {s r u : State} {n : LaneIx} {t : Ticks}

/-- From `s` to `t` the same host accesses wait, and no command was accepted. -/
structure Calm (s t : State) : Prop where
  waiting : t.host.waiting = s.host.waiting
  accepted : t.q.accepted.Sublist s.q.accepted

namespace Calm

protected theorem refl (s : State) : Calm s s := ⟨rfl, .refl _⟩

theorem trans (h : Calm s r) (k : Calm r u) : Calm s u := ⟨k.waiting.trans h.waiting, k.accepted.trans h.accepted⟩

theorem of_eq (host : r.host.waiting = s.host.waiting) (accepted : r.q.accepted = s.q.accepted) : Calm s r :=
  ⟨host, by rw [accepted]⟩

theorem foldl {α : Type} {f : State → α → State} (hf : ∀ r x, Calm r (f r x)) (l : List α) (s : State) : Calm s (l.foldl f s) :=
  List.foldlRecOn _ _ (motive := Calm s) (.refl s) fun r h x _ => h.trans (hf r x)

theorem eachLane {f : State → LaneIx → State} (h : Calm s r) (hf : ∀ u n, Calm u (f u n)) : Calm s (r.eachLane f) :=
  h.trans (.foldl hf laneIxs r)

theorem eachTrk {f : State → TrkIx → State} (h : Calm s r) (hf : ∀ u n, Calm u (f u n)) : Calm s (r.eachTrk f) :=
  h.trans (.foldl hf trkIxs r)

theorem eachPitch {f : State → Pitch → State} (h : Calm s r) (hf : ∀ u p, Calm u (f u p)) : Calm s (r.eachPitch f) :=
  h.trans (.foldl hf pitchIxs r)

theorem each {α : Type} {f : State → α → State} {l : List α} (h : Calm s r) (hf : ∀ u x, Calm u (f u x)) : Calm s (l.foldl f r) :=
  h.trans (.foldl hf l r)

end Calm

theorem LanesStep.calm (h : LanesStep s r) : Calm s r := .of_eq (congrArg HostPort.waiting h.host) (by rw [h.queue])
theorem LaneStep.calm (h : LaneStep n s r) : Calm s r := h.lanes.calm
theorem TrkStep.calm {m : TrkIx} (h : TrkStep m s r) : Calm s r := .of_eq (by rw [h.rest]) (by rw [h.queue])

namespace State

/-! ### Lanes, closures and clocks -/

theorem calm_modLn (s : State) (n : LaneIx) (f : Lane → Lane) : Calm s (s.modLn n f) := .of_eq rfl rfl

theorem calm_trace (s : State) (c : Nat) (p : Pitch) (l : List Word) : Calm s (s.trace c p l) := by
  rw [trace_eq]
  exact .of_eq rfl rfl

theorem calm_traceDev (s : State) (c : Nat) (o : Option Pitch) (l : List Word) : Calm s (s.traceDev c o l) := by
  unfold traceDev
  dsimp only
  split
  · exact .of_eq rfl rfl
  · split
    · exact .of_eq rfl rfl
    · exact .refl s

theorem calm_closureEvents (s : State) (c : Nat) (i : Option SensorIx) : Calm s (s.closureEvents c i) := by
  unfold closureEvents
  refine Calm.eachPitch (.refl s) fun u p => ?_
  exact .of_eq rfl rfl

theorem calm_devEventSet (s : State) (w : Word) : Calm s (s.devEventSet w) := .of_eq rfl rfl

theorem calm_fuseStop (s : State) : Calm s s.fuseStop := by
  have part : Calm s s.leavePartial := by
    unfold leavePartial
    repeat' split
    all_goals exact .of_eq rfl rfl
  unfold fuseStop
  split
  · split
    · exact .refl s
    · exact part.trans (.of_eq rfl rfl)
  · exact .refl s

theorem calm_declareCause (s : State) (c : Nat) (t : Ticks) (i : Option SensorIx) : Calm s (s.declareCause c t i) := by
  have windows (r : State) : Calm r (r.eachTrk fun x m => x.closeWindows m t) :=
    Calm.eachTrk (.refl r) fun x m => ((TrkStep.refl m x).closeWindows t).calm
  have lanes (r : State) (a b : Bool) (held : Vector Bool 6) : Calm r (r.eachLane fun x m => x.closeLane a held[m] b t m) :=
    Calm.eachLane (.refl r) fun x m => ((LaneStep.refl m x).closeLane ..).calm
  have recorded : Calm s { s with dev := s.dev.recordCause c s.bell.epoch } := .of_eq rfl rfl
  unfold declareCause
  dsimp only
  split
  · exact .refl s
  · split
    · exact .refl s
    · refine Calm.trans ?_ (lanes ..)
      have told := recorded.trans (calm_closureEvents _ c i)
      split
      · exact told
      · refine Calm.trans ?_ (windows _)
        refine Calm.trans ?_ (State.abortDiags_spec _).1.calm
        refine Calm.trans ?_ (calm_fuseStop _)
        exact told.trans (.of_eq rfl rfl)

theorem calm_rootFailure (s : State) (t : Ticks) : Calm s (s.rootFailure t) := by
  by_cases ok : s.clk.rootOk = true
  · rw [State.rootFailure_eq s t ok]
    have lost : Calm s (s.rootLost t) := .of_eq rfl rfl
    refine Calm.eachLane ?_ fun x m => (LaneStep.rootLane m t x).calm
    split
    · exact lost.trans (calm_declareCause ..)
    · exact lost
  · rw [rootFailure, if_neg ok]
    exact .refl s

/-! ### Register writes -/

theorem calm_clkCtrl (s : State) (d : Word) : Calm s (s.clkCtrl d) := by
  unfold clkCtrl
  dsimp only
  split
  · unfold revert
    dsimp only
    split
    · exact .of_eq rfl rfl
    · refine Calm.trans ?_ (calm_rootFailure _ _)
      exact .of_eq rfl rfl
  · exact .of_eq rfl rfl

theorem calm_writeDevice (s : State) (host : Bool) (p : Pitch) (page a : Nat) (d : Word) : Calm s (s.writeDevice host p page a d) := by
  unfold writeDevice
  dsimp only
  split
  all_goals repeat' split
  case h_7.isTrue =>
    rw [State.flashCtrl_eq]
    exact .of_eq rfl rfl
  case h_9.isTrue => exact calm_clkCtrl ..
  all_goals exact .of_eq rfl rfl

theorem calm_writeBlockPage (s : State) (p : Pitch) (x : Selectors) (page a : Nat) (d : Word) : Calm s (s.writeBlockPage p x page a d) := by
  unfold writeBlockPage
  split
  all_goals repeat' split
  all_goals exact .of_eq rfl rfl

theorem calm_writeReg (s : State) (host : Bool) (p : Pitch) (x : Selectors) (page a : Nat) (d : Word) :
    Calm s (s.writeReg host p x page a d) := by
  unfold writeReg
  split
  · exact calm_writeDevice ..
  · split
    · split <;> exact .of_eq rfl rfl
    · exact calm_writeBlockPage ..

/-! ### Changes of owner -/

theorem calm_moveLane (s : State) (n : LaneIx) (new : Option Pitch) : Calm s (s.moveLane n new) := by
  unfold moveLane
  dsimp only
  generalize hx : List.foldl endForeign _ _ = x
  have ended : Calm s x := by
    rw [← hx]
    refine Calm.each ?_ fun u a => ?_
    · exact .of_eq rfl rfl
    · exact .of_eq rfl rfl
  clear hx
  refine Calm.trans ?_ ((LaneStep.refl n _).drive _).calm
  refine Calm.trans ?_ ((LaneStep.refl n _).rederate).calm
  generalize hy : gatesOff _ n _ = y
  have reset : Calm s y := by
    rw [← hy]
    refine Calm.trans ?_ ((LaneStep.refl n _).gatesOff _).calm
    refine Calm.trans ?_ ((LaneStep.refl n _).laneState _).calm
    split
    · exact ended.trans ((LaneStep.refl n x).laneEvent ..).calm
    · exact ended
  exact reset.trans (.of_eq rfl rfl)

theorem calm_moveTracker (s : State) (n : TrkIx) (new : Option Pitch) : Calm s (s.moveTracker n new) := by
  unfold moveTracker
  dsimp only
  have closed := ((TrkStep.refl n s).closeWindows s.now).calm
  generalize s.closeWindows n s.now = x at closed ⊢
  exact closed.trans (.of_eq rfl rfl)

theorem calm_dropWindows (f : Window → Bool) (s : State) (n : TrkIx) : Calm s (s.dropWindows f n) := by
  unfold dropWindows
  dsimp only
  split
  · exact .refl s
  · exact (((TrkStep.refl n s).disarm _).trkEvent ..).calm

theorem calm_movePin (s : State) (m : TrkIx) (new : Option Pitch) : Calm s (s.movePin m new) := by
  unfold movePin
  dsimp only
  have dropped : Calm s (s.eachTrk (dropWindows fun w => w.action == 1 && w.target == m.val)) :=
    Calm.eachTrk (.refl s) fun x m => calm_dropWindows _ x m
  generalize s.eachTrk (dropWindows fun w => w.action == 1 && w.target == m.val) = x at dropped ⊢
  exact dropped.trans (.of_eq rfl rfl)

theorem calm_moveAin (s : State) (m : AinIx) (new : Option Pitch) : Calm s (s.moveAin m new) := by
  unfold moveAin
  dsimp only
  have dropped : Calm s (s.eachTrk (dropWindows fun w => w.action == 2 && w.target == m.val)) :=
    Calm.eachTrk (.refl s) fun x m => calm_dropWindows _ x m
  generalize s.eachTrk (dropWindows fun w => w.action == 2 && w.target == m.val) = x at dropped ⊢
  exact dropped.trans (.of_eq rfl rfl)

/-- A change of owner accepts no command: one of a queue group's with FORCE discards some. -/
theorem calm_assignDo (s : State) (m : Move) : Calm s (s.assignDo m) := by
  unfold assignDo
  split
  · exact calm_moveLane ..
  · exact calm_moveTracker ..
  · exact calm_movePin ..
  · exact calm_moveAin ..
  · exact ⟨rfl, List.filter_sublist⟩
  all_goals exact .of_eq rfl rfl

theorem calm_takeOwners (s : State) : Calm s s.takeOwners := by
  have consents : Calm s.consume s.consume.takeConsents := by
    unfold takeConsents
    dsimp only
    refine Calm.eachPitch ?_ fun r p => ?_
    · exact .of_eq rfl rfl
    · split
      · exact calm_traceDev ..
      · exact .refl r
  have moves (r : State) : Calm r r.takeMoves := by
    unfold takeMoves
    refine Calm.each ?_ calm_assignDo
    exact .of_eq rfl rfl
  have consumed : Calm s s.consume := .of_eq rfl rfl
  exact (consumed.trans consents).trans (moves _)

/-! ### What takes force before the commands -/

theorem calm_lapse (s : State) (c : Cmd) (k : Nat) : Calm s (s.lapse c k) := ⟨rfl, List.erase_sublist⟩

theorem calm_lapseAll (s : State) (f : Cmd → Bool) : Calm s (s.lapseAll f) := by
  unfold lapseAll
  exact Calm.each (.refl s) fun r x => r.calm_lapse x.1 x.2

theorem calm_hostStop (s : State) (p : Pitch) (all : Bool) (w : Word) : Calm s (s.hostStop p all w) := (s.hostStop_spec p all w).1.calm

theorem calm_hostLost (s : State) (p : Pitch) (w : Word) : Calm s (s.hostLost p w) := by
  unfold hostLost
  exact ((s.calm_lapseAll _).trans (calm_hostStop _ p false w)).trans (calm_devEventSet ..)

theorem calm_takeHostPitch (s : State) : Calm s s.takeHostPitch := by
  unfold takeHostPitch
  split
  · exact .refl s
  · dsimp only
    split
    · exact .of_eq rfl rfl
    · refine Calm.trans ?_ (calm_hostLost ..)
      exact .of_eq rfl rfl

theorem calm_leaseEnds (s : State) : Calm s s.leaseEnds := by
  have old : Calm s s.oldLeasesEnd := by
    unfold oldLeasesEnd
    refine Calm.each ?_ fun r o => (r.calm_hostStop o.pitch true 2).trans (calm_devEventSet ..)
    exact .of_eq rfl rfl
  rw [leaseEnds_if]
  split
  · refine old.trans ?_
    have stop := s.oldLeasesEnd.calm_hostStop s.oldLeasesEnd.pit.hostPitch true 2
    generalize s.oldLeasesEnd.hostStop s.oldLeasesEnd.pit.hostPitch true 2 = x at stop ⊢
    exact stop.trans (.of_eq rfl rfl)
  · exact old

theorem calm_takeHold (s : State) : Calm s s.takeHold := by
  cases next : s.q.holdNext with
  | none =>
    rw [s.takeHold_none next]
    exact .refl s
  | some on =>
    by_cases same : on = s.q.hold
    · rw [s.takeHold_same next same]
      exact .of_eq rfl rfl
    · rw [s.takeHold_eq next same]
      refine Calm.eachLane ?_ fun r m => (LaneStep.holdLane on r m).calm
      exact .of_eq rfl rfl

theorem calm_fuseRefresh (s : State) (x : FuseRun) : Calm s (s.fuseRefresh x) := by
  unfold fuseRefresh
  dsimp only
  refine Calm.eachPitch ?_ fun r p => ?_
  · split
    · split <;> exact .of_eq rfl rfl
    · split <;> exact .of_eq rfl rfl
    · exact .of_eq rfl rfl
  · split <;> exact .of_eq rfl rfl

theorem calm_finishIn (s : State) (k : Nat) (a : Applied) (st : Byte) (r0 r1 r2 r3 : Word) : Calm s (s.finishIn k a st r0 r1 r2 r3) :=
  .of_eq rfl rfl

theorem calm_fuseBoundary (s : State) : Calm s s.fuseBoundary := by
  unfold fuseBoundary
  split
  · exact .refl s
  · split
    · exact .refl s
    · rename_i run _ _
      dsimp only
      have refreshed := s.calm_fuseStop.trans (s.fuseStop.calm_fuseRefresh (s.fuseStop.fuse.run.getD run))
      generalize s.fuseStop.fuseRefresh (s.fuseStop.fuse.run.getD run) = x at refreshed ⊢
      have ended : Calm s ({ x with fuse := { x.fuse with run := none } } : State) := refreshed.trans (.of_eq rfl rfl)
      split
      · refine Calm.eachLane ?_ fun r m => r.calm_moveLane m none
        exact ended.trans (calm_finishIn ..)
      · exact ended.trans (calm_finishIn ..)

theorem calm_heatBoundary (s : State) : Calm s s.heatBoundary := by
  unfold heatBoundary
  dsimp only
  refine Calm.eachLane ?_ fun r m => r.calm_modLn m _
  generalize hx : eachLane _ _ = x
  have estimated : Calm s x := by
    rw [← hx]
    refine Calm.eachLane ?_ fun r m => r.calm_modLn m _
    exact .of_eq rfl rfl
  exact estimated.trans (.of_eq rfl rfl)

theorem calm_reopenMarket (s : State) : Calm s s.reopenMarket := by
  unfold reopenMarket
  split
  · refine Calm.eachLane ?_ fun r m => (LaneStep.reopenLane r m).calm
    refine Calm.trans ?_ (calm_closureEvents _ 0 none)
    exact .of_eq rfl rfl
  · exact .refl s

theorem calm_beforeCommands (s : State) (jump first : Bool) : Calm s (s.beforeCommands jump first) := by
  unfold beforeCommands
  dsimp only
  refine Calm.trans ?_ (calm_takeHold _)
  refine Calm.trans ?_ (calm_leaseEnds _)
  generalize hx : takeHostPitch _ = x
  have base : Calm s x := by
    rw [← hx]
    refine Calm.trans ?_ (calm_takeHostPitch _)
    have market (r : State) : Calm r (leaseTick r.reopenMarket.openMarket first) := by
      refine Calm.trans r.calm_reopenMarket ?_
      unfold leaseTick openMarket
      split <;> split <;> exact .of_eq rfl rfl
    refine Calm.trans ?_ (market _)
    have settled : Calm s (s.eachLane fun r m => r.modLn m Lane.settle) :=
      Calm.eachLane (.refl s) fun r m => r.calm_modLn m _
    have sessions (r : State) : Calm r (r.sessionBoundary jump) := by
      unfold sessionBoundary
      split <;> exact .of_eq rfl rfl
    have first := ((settled.trans (calm_heatBoundary _)).trans (calm_fuseBoundary _)).trans (sessions _)
    split
    · exact first.trans (calm_lapseAll ..)
    · exact first
  split
  · refine Calm.trans ?_ (calm_hostLost ..)
    exact base.trans (.of_eq rfl rfl)
  · exact base

/-! ### What follows the commands -/

theorem calm_postDone (s : State) (d : Done) : Calm s (s.postDone d) := by
  unfold postDone
  dsimp only
  split
  · exact .refl s
  · split
    · unfold postRegister
      dsimp only
      split
      · split
        · exact calm_modLn ..
        · exact .refl s
      · exact .of_eq rfl rfl
    · refine Calm.trans ?_ (calm_trace ..)
      exact .of_eq rfl rfl

theorem calm_postCompletions (s : State) : Calm s s.postCompletions := by
  unfold postCompletions
  refine Calm.each ?_ calm_postDone
  exact .of_eq rfl rfl

theorem calm_postEvents (s : State) : Calm s s.postEvents := by
  unfold postEvents
  refine Calm.each ?_ fun r x => ?_
  · exact .of_eq rfl rfl
  · unfold postEvent
    dsimp only
    split
    · refine Calm.trans ?_ (calm_trace ..)
      exact .of_eq rfl rfl
    · exact .of_eq rfl rfl

theorem calm_traceBell (s : State) (k : Nat) : Calm s (s.traceBell k) := by
  unfold traceBell
  split
  · exact calm_traceDev ..
  · exact .refl s

theorem calm_traceLost (s : State) : Calm s s.traceLost := by
  unfold traceLost
  refine Calm.eachPitch (.refl s) fun r p => ?_
  split
  · have told := r.calm_traceDev 9 (some p) [r.obs.lostSince[p]]
    generalize r.traceDev 9 (some p) [r.obs.lostSince[p]] = x at told ⊢
    exact told.trans (.of_eq rfl rfl)
  · exact .refl r

theorem calm_reseedDue (s : State) : Calm s s.reseedDue := by
  unfold reseedDue
  split <;> exact .of_eq rfl rfl

theorem calm_wsTryAll (s : State) : Calm s s.wsTryAll := by
  rw [wsTryAll_eq]
  exact .of_eq rfl rfl

theorem calm_count (s : State) (c i : Nat) (w : Option Pitch) : Calm s (s.count c i w) := by
  rw [count_eq]
  exact .of_eq rfl rfl

theorem calm_powerBoundary (s : State) (mw : Nat) : Calm s (s.powerBoundary mw) := by
  unfold powerBoundary
  exact .of_eq rfl rfl

theorem calm_afterCommands (s : State) (mw : Nat) : Calm s (s.afterCommands mw) := by
  unfold afterCommands
  dsimp only
  refine Calm.trans ?_ (calm_reseedDue _)
  have posted : Calm s (s.wsTryAll.powerBoundary mw).postCompletions.postEvents :=
    ((s.calm_wsTryAll.trans (calm_powerBoundary _ mw)).trans (calm_postCompletions _)).trans (calm_postEvents _)
  generalize (s.wsTryAll.powerBoundary mw).postCompletions.postEvents = x at posted ⊢
  have traced := ((posted.trans (x.calm_traceBell x.stateCode)).trans (calm_traceLost _)).trans (calm_count _ 0x40 0 none)
  generalize (x.traceBell x.stateCode).traceLost.count 0x40 0 none = y at traced ⊢
  exact traced.trans (.of_eq rfl rfl)

end State

end Sys2Proof.Machine
end


section
/-! SUPPORT. What a command at its application leaves of the accesses and commands that wait: every opcode's effect is calm, and the
application takes one accepted command away (R304, R310). -/

namespace Sys2Proof.Machine

set_option Elab.async false

variable {s r u : State} {n : LaneIx}

/-! ### Lane commands (R411 to R449, R397 to R401, R475 to R483) -/

/-- A lane command that is calm on the lane it names is calm. -/
theorem calm_onLane {f : LaneIx → Applied → State → Effect} (hf : ∀ n a s, Calm s (f n a s).1) (k : Nat) (a : Applied) (s : State) :
    Calm s (onLane k f a s).1 := by
  unfold onLane
  split
  · split
    · exact hf ..
    · exact .refl s
  · exact .refl s

namespace State

theorem calm_markApplied (s : State) (n : LaneIx) (test : Bool) : Calm s (s.markApplied n test) := .of_eq rfl rfl

theorem calm_startMeasure (s : State) (n : LaneIx) (m : Measuring) : Calm s (s.startMeasure n m) := .of_eq rfl rfl

theorem calm_measureRefused (s : State) (n : LaneIx) (st : Byte) (k : Nat) : Calm s (s.measureRefused n st k).1 := by
  unfold measureRefused
  dsimp only [reason, done]
  split
  · exact calm_modLn ..
  · exact .refl s

theorem calm_laneStart (n : LaneIx) (a : Applied) (s : State) : Calm s (s.laneStart n a).1 := by
  unfold laneStart
  split
  · exact calm_markApplied ..
  · have taken := ((LaneStep.refl n s).takeAll s.now).calm
    dsimp only
    generalize s.takeAll n s.now = x at taken ⊢
    split
    · exact taken.trans (calm_markApplied ..)
    · have set : Calm s ((x.markApplied n false).modLn n fun l => l.startSet a) := taken.trans (.of_eq rfl rfl)
      exact set.trans ((LaneStep.refl n _).startTurning _).calm

theorem calm_laneStop (n : LaneIx) (a : Applied) (s : State) : Calm s (s.laneStop n a).1 := by
  unfold laneStop
  split
  · exact .refl s
  · split
    · exact ((LaneStep.refl n s).beginStop ..).calm
    · split
      · exact ((LaneStep.refl n s).endPinWait _).calm
      · exact .refl s

theorem calm_laneSetSpeed (n : LaneIx) (a : Applied) (s : State) : Calm s (s.laneSetSpeed n a).1 := by
  unfold laneSetSpeed
  dsimp only [reason, done]
  split
  · exact .refl s
  · split
    · exact .refl s
    · dsimp only
      exact calm_modLn ..

theorem calm_laneReverse (n : LaneIx) (a : Applied) (s : State) : Calm s (s.laneReverse n a).1 := by
  have set : Calm s ((s.endStart n 5).modLn n fun l => l.reverseSet a) :=
    ((LaneStep.refl n s).endStart 5).calm.trans (calm_modLn ..)
  unfold laneReverse
  dsimp only
  split
  · exact .refl s
  · split
    · exact .refl s
    · generalize (s.endStart n 5).modLn n (fun l => l.reverseSet a) = x at set ⊢
      split
      · exact set
      · exact set.trans (((LaneStep.refl n x).gatesOff _).enterAlign _).calm

theorem calm_laneCalibrate (n : LaneIx) (a : Applied) (s : State) : Calm s (s.laneCalibrate n a).1 := by
  unfold laneCalibrate
  dsimp only
  split
  · exact (s.calm_markApplied n true).trans (calm_measureRefused ..)
  · exact (s.calm_markApplied n true).trans (calm_startMeasure ..)

theorem calm_laneReseat (n : LaneIx) (a : Applied) (s : State) : Calm s (s.laneReseat n a).1 := by
  unfold laneReseat
  dsimp only
  split
  · exact (s.calm_markApplied n true).trans (calm_measureRefused ..)
  · exact (s.calm_markApplied n true).trans (calm_startMeasure ..)

theorem calm_laneDiag (n : LaneIx) (a : Applied) (s : State) : Calm s (s.laneDiag n a).1 := by
  unfold laneDiag
  dsimp only
  split
  · exact s.calm_markApplied n true
  · exact ((s.calm_markApplied n true).trans (calm_modLn ..)).trans (calm_startMeasure ..)

theorem calm_laneSelftest (n : LaneIx) (a : Applied) (s : State) : Calm s (s.laneSelftest n a).1 := by
  unfold laneSelftest
  dsimp only
  split
  · exact s.calm_markApplied n true
  · exact (s.calm_markApplied n true).trans (calm_startMeasure ..)

theorem calm_laneClearLatch (n : LaneIx) (a : Applied) (s : State) : Calm s (s.laneClearLatch n a).1 := by
  unfold laneClearLatch
  split
  · split
    · exact (((LaneStep.refl n s).modLn Lane.unlatch).setLatch ..).calm
    · exact (LaneStep.clearLatch n s _).calm
  · exact .refl s

/-! ### Blocks and battens (R320, R347 to R357, R644) -/

theorem calm_readBlock (s snap : State) (a : Applied) : Calm s (s.readBlock snap a).1 := by
  unfold readBlock
  dsimp only
  split
  · exact .refl s
  · split <;> exact .refl s

theorem calm_writeBlock (s : State) (a : Applied) : Calm s (s.writeBlock a).1 := by
  unfold writeBlock
  dsimp only
  split
  · exact .refl s
  · split
    · exact .refl s
    · exact Calm.each (.refl s) fun r w => r.calm_writeReg ..

theorem calm_armBatten (s : State) (b : BattenId) : Calm s (s.armBatten b) := by
  cases b with
  | track n =>
    unfold armBatten
    exact (TrkStep.modTk (TrkStep.refl n s) _).calm
  | policy n =>
    unfold armBatten
    exact ((((LaneStep.refl n s).modLn _).traceLane ..).drive _).calm
  | heat n =>
    unfold armBatten
    exact (((LaneStep.refl n s).modLn _).traceLane ..).calm
  | carrier n =>
    unfold armBatten
    dsimp only
    split
    · exact calm_modLn ..
    · exact ((LaneStep.refl n s).modLn _).takeCarrier.calm
  | mask n =>
    unfold armBatten
    dsimp only
    split
    · exact calm_modLn ..
    · exact ((LaneStep.refl n s).modLn _).takeMask.calm
  | sense n =>
    unfold armBatten
    dsimp only
    split
    · exact calm_modLn ..
    · exact (((LaneStep.refl n s).modLn _).takeSense.pinNewTrip _).calm
  | commut n =>
    unfold armBatten
    dsimp only
    split
    · exact calm_modLn ..
    · exact ((LaneStep.refl n s).modLn _).takeCommut.calm
  | gate n =>
    unfold armBatten
    dsimp only
    split
    · exact calm_modLn ..
    · exact (((LaneStep.refl n s).modLn _).takeGate _).calm

theorem calm_commitBatten (s : State) (a : Applied) : Calm s (s.commitBatten a).1 := by
  unfold commitBatten
  dsimp only
  split
  · split
    · exact .refl s
    · exact calm_armBatten ..
  · split <;> exact .refl s

/-! ### The other opcodes -/

theorem calm_loadTable (s : State) (p : Pitch) (d : Desc) : Calm s (s.loadTable p d).1 := by
  have seat : Calm s (s.seatTable d).1 := by
    unfold seatTable
    dsimp only
    split
    · exact .refl s
    · dsimp only
      exact (((TrkStep.refl (Desc.tracker d) s).loseSync ..).modTk _).calm
  have stage : Calm s (s.stageTable d).1 := by
    unfold stageTable
    dsimp only
    split <;> exact .of_eq rfl rfl
  unfold loadTable
  split
  · split
    · exact stage
    · exact seat
    · exact .refl s
  · exact .refl s

theorem calm_armWindow (s : State) (p : Pitch) (d : Desc) : Calm s (s.armWindow p d).1 := by
  unfold armWindow
  dsimp only
  split
  · exact .refl s
  · split
    · exact .refl s
    · dsimp only
      exact (((TrkStep.refl (Desc.tracker d) s).closeWindow ..).modTk _).calm

theorem calm_disarmWindows (s : State) (p : Pitch) (d : Desc) : Calm s (s.disarmWindows p d).1 := by
  unfold disarmWindows
  dsimp only
  split
  · exact .refl s
  · split
    · exact .refl s
    · exact ((TrkStep.refl (Desc.tracker d) s).disarm _).calm

theorem calm_reopenCommand (s : State) (p : Pitch) (d : Desc) : Calm s (s.reopenCommand p d).1 := by
  unfold reopenCommand
  dsimp only
  repeat' split
  all_goals exact .of_eq rfl rfl

theorem calm_assign (s : State) (a : Applied) : Calm s (s.assign a).1 := by
  unfold assign
  dsimp only
  repeat' split
  all_goals exact .of_eq rfl rfl

theorem calm_clearTally (snap s : State) (i : TallyIx) : Calm s (clearTally snap s i) := by
  unfold clearTally
  split
  · exact .refl s
  · exact .of_eq rfl rfl

end State

theorem calm_effTallySnapshot (snap : State) (a : Applied) (s : State) : Calm s (effTallySnapshot snap a s).1 := by
  unfold effTallySnapshot
  dsimp only
  split
  · exact .refl s
  · split
    · exact .refl s
    · split
      · exact .refl s
      · refine Calm.trans ?_ (State.calm_trace ..)
        split
        · exact Calm.each (.refl s) fun r i => State.calm_clearTally snap r i
        · exact .refl s

/-- No opcode's effect accepts a command, or lets a host access wait. -/
theorem calm_effectOf (snap : State) (o : Opcode) (a : Applied) (s : State) : Calm s (effectOf snap o a s).1 := by
  cases o with
  | readBlock => exact State.calm_readBlock ..
  | writeBatten => exact State.calm_writeBlock ..
  | commitBatten => exact State.calm_commitBatten ..
  | laneStart => exact calm_onLane State.calm_laneStart ..
  | laneStop => exact calm_onLane State.calm_laneStop ..
  | laneSetSpeed => exact calm_onLane State.calm_laneSetSpeed ..
  | laneReverse => exact calm_onLane State.calm_laneReverse ..
  | laneReseat => exact calm_onLane State.calm_laneReseat ..
  | laneCalibrate => exact calm_onLane State.calm_laneCalibrate ..
  | laneOffstateDiag => exact calm_onLane State.calm_laneDiag ..
  | laneSelftest => exact calm_onLane State.calm_laneSelftest ..
  | laneClearLatch => exact calm_onLane State.calm_laneClearLatch ..
  | wheelLoadTable => exact State.calm_loadTable ..
  | windowArm => exact State.calm_armWindow ..
  | windowDisarm => exact State.calm_disarmWindows ..
  | thermalQuery =>
    change Calm s (effThermalQuery snap a s).1
    unfold effThermalQuery
    dsimp only
    repeat' split
    all_goals exact .refl s
  | fuseRead => exact .refl s
  | fuseProgramWord =>
    change Calm s (effFuseProgramWord a s).1
    unfold effFuseProgramWord
    dsimp only
    split <;> exact .of_eq rfl rfl
  | lifecycleAdvance =>
    change Calm s (effLifecycleAdvance a s).1
    unfold effLifecycleAdvance
    split <;> exact .of_eq rfl rfl
  | sessionOpen => exact .refl s
  | keyRoll =>
    change Calm s (effKeyRoll a s).1
    unfold effKeyRoll
    dsimp only
    split <;> exact .of_eq rfl rfl
  | tallySnapshot => exact calm_effTallySnapshot ..
  | traceConsent =>
    change Calm s (effTraceConsent a s).1
    unfold effTraceConsent
    dsimp only
    repeat' split
    all_goals exact .of_eq rfl rfl
  | leaseRenew =>
    change Calm s (effLeaseRenew a s).1
    unfold effLeaseRenew
    dsimp only
    repeat' split
    all_goals exact .of_eq rfl rfl
  | benchHold =>
    change Calm s (effBench true a s).1
    unfold effBench
    repeat' split
    all_goals exact .of_eq rfl rfl
  | benchRelease =>
    change Calm s (effBench false a s).1
    unfold effBench
    repeat' split
    all_goals exact .of_eq rfl rfl
  | assign => exact State.calm_assign ..
  | reopen => exact State.calm_reopenCommand ..

theorem calm_effectFor (snap : State) (c : Cmd) (a : Applied) (s : State) : Calm s (effectFor snap c a s).1 := by
  unfold effectFor
  cases opcodeOf (Desc.opcode c.desc) with
  | some o => exact calm_effectOf ..
  | none => exact .refl s

end Sys2Proof.Machine
end


section
/-! SUPPORT. The order of commands (R306, R307): the model's insertion sort is the library's, and what follows for the commands of an epoch. -/

namespace Sys2Proof.Machine

set_option Elab.async false

section
variable {α : Type}

/-! ### The insertion sort of the model -/

theorem insertBy_eq (le : α → α → Bool) (x : α) (l : List α) : insertBy le x l = l.orderedInsert (le · ·) x := by
  induction l with
  | nil => rfl
  | cons y l ih => rw [insertBy, List.orderedInsert_cons, ih]

theorem sortBy_eq (le : α → α → Bool) (l : List α) : sortBy le l = l.insertionSort (le · ·) := by
  induction l with
  | nil => rfl
  | cons x l ih => rw [sortBy, ih, insertBy_eq, List.insertionSort_cons]

theorem sortBy_perm (le : α → α → Bool) (l : List α) : (sortBy le l).Perm l := by
  rw [sortBy_eq]
  exact List.perm_insertionSort _ l

theorem sortBy_pairwise {le : α → α → Bool} (total : ∀ a b, le a b ∨ le b a) (trans : ∀ a b c, le a b → le b c → le a c)
    (l : List α) : (sortBy le l).Pairwise (le · ·) := by
  have : Std.Total fun a b => le a b = true := ⟨total⟩
  have : IsTrans α fun a b => le a b = true := ⟨trans⟩
  rw [sortBy_eq]
  exact List.pairwise_insertionSort _ l

/-- The sort keeps the order of elements that are equal in it. -/
theorem sortBy_stable {le : α → α → Bool} (total : ∀ a b, le a b ∨ le b a) (trans : ∀ a b c, le a b → le b c → le a c)
    (l : List α) (f : α → Bool) (equal : ∀ a b, f a → f b → le a b) : (sortBy le l).filter f = l.filter f := by
  have : Std.Total fun a b => le a b = true := ⟨total⟩
  have : IsTrans α fun a b => le a b = true := ⟨trans⟩
  have sub : (l.filter f).Sublist (sortBy le l) := by
    rw [sortBy_eq]
    refine List.sublist_insertionSort ?_ List.filter_sublist
    exact List.pairwise_of_forall_mem_list fun a ha b hb => equal a b (List.mem_filter.mp ha).2 (List.mem_filter.mp hb).2
  have kept : (l.filter f).Sublist ((sortBy le l).filter f) := by
    simpa using sub.filter f
  exact (kept.eq_of_length (((sortBy_perm le l).filter f).length_eq).symm).symm

end

/-! ### Commands in the order of R306 -/

theorem place_total (a b : Cmd) : decide (Cmd.place a ≤ Cmd.place b) = true ∨ decide (Cmd.place b ≤ Cmd.place a) = true := by
  simpa using Nat.le_total _ _

theorem place_trans (a b c : Cmd) (h : decide (Cmd.place a ≤ Cmd.place b) = true) (k : decide (Cmd.place b ≤ Cmd.place c) = true) :
    decide (Cmd.place a ≤ Cmd.place c) = true := by
  simp only [decide_eq_true_eq] at h k ⊢
  exact h.trans k

theorem inOrder_perm (l : List Cmd) : (inOrder l).Perm l := sortBy_perm _ l

/-- Before or beside in the order of R306: pitch, queued before register path, queue, SEQ, TAG. -/
def Cmd.goesFirst (a b : Cmd) : Prop :=
  a.pitch < b.pitch ∨ a.pitch = b.pitch ∧
    (b.door = .register ∨ a.door ≠ .register ∧
      (a.queue < b.queue ∨ a.queue = b.queue ∧ (a.seq < b.seq ∨ a.seq = b.seq ∧ a.tag ≤ b.tag)))

/-- The place of a command is its order of R306 in mixed radix. -/
theorem Cmd.goesFirst_of_place {a b : Cmd} (h : Cmd.place a ≤ Cmd.place b) : Cmd.goesFirst a b := by
  have := a.queue.isLt
  have := b.queue.isLt
  have := a.seq.isLt
  have := b.seq.isLt
  have := a.tag.isLt
  have := b.tag.isLt
  unfold Cmd.goesFirst
  simp only [Fin.lt_def, Fin.ext_iff, BitVec.lt_def, BitVec.le_def, ← BitVec.toNat_inj]
  unfold Cmd.place bit01 at h
  by_cases ra : a.door = .register <;> by_cases rb : b.door = .register <;>
    simp only [ra, rb, beq_self_eq_true, beq_iff_eq, if_true, if_false, true_or, false_or, and_true, true_and, false_and, or_false, ne_eq,
      not_true_eq_false, not_false_eq_true] at h ⊢ <;>
    omega

theorem inOrder_pairwise (l : List Cmd) : (inOrder l).Pairwise Cmd.goesFirst :=
  (sortBy_pairwise place_total place_trans l).imp fun h => Cmd.goesFirst_of_place (of_decide_eq_true h)

/-- The register-path commands of a pitch stay in the order of their writes. -/
theorem inOrder_register (l : List Cmd) (p : Pitch) :
    (inOrder l).filter (fun c => decide (c.pitch = p ∧ c.door = .register)) = l.filter fun c => decide (c.pitch = p ∧ c.door = .register) := by
  refine sortBy_stable place_total place_trans l _ fun a b ha hb => ?_
  obtain ⟨pa, da⟩ := of_decide_eq_true ha
  obtain ⟨pb, db⟩ := of_decide_eq_true hb
  simp [Cmd.place, pa, da, pb, db]

/-! ### Order indexes (R307) -/

theorem numbered_concat (l : List Cmd) (c : Cmd) :
    numbered (l ++ [c]) = numbered l ++ [(c, (numbered l).countP fun x => x.1.pitch == c.pitch)] := by
  unfold numbered
  rw [List.foldl_append]
  simp [List.countP_eq_length_filter]

theorem numbered_map_fst (l : List Cmd) : (numbered l).map Prod.fst = l := by
  induction l using List.reverseRecOn with
  | nil => rfl
  | append_singleton l c ih => rw [numbered_concat, List.map_append, ih]; rfl

theorem numbered_length (l : List Cmd) : (numbered l).length = l.length := by
  rw [← List.length_map (as := numbered l) Prod.fst, numbered_map_fst]

theorem numbered_countP (l : List Cmd) (f : Cmd → Bool) : (numbered l).countP (fun x => f x.1) = l.countP f := by
  have h := List.countP_map (p := f) (f := Prod.fst) (l := numbered l)
  rw [numbered_map_fst] at h
  exact h.symm

/-- The order index of a command counts the earlier ones of its pitch. -/
theorem numbered_index (l : List Cmd) (i : Nat) (x : Cmd × Nat) (h : (numbered l)[i]? = some x) :
    x.2 = (l.take i).countP fun c => decide (c.pitch = x.1.pitch) := by
  induction l using List.reverseRecOn generalizing i x with
  | nil => simp [numbered] at h
  | append_singleton l c ih =>
    rw [numbered_concat, List.getElem?_append, numbered_length] at h
    split at h
    case isTrue early => rw [ih i x h, List.take_append_of_le_length early.le]
    case isFalse late =>
      have last : i = l.length := by
        by_contra other
        have beyond : 1 ≤ i - l.length := by omega
        rw [List.getElem?_eq_none beyond] at h
        cases h
      subst last
      simp only [Nat.sub_self, List.getElem?_cons_zero, Option.some.injEq] at h
      rw [← h, List.take_left]
      exact numbered_countP l fun d => d.pitch == c.pitch

end Sys2Proof.Machine
end


section
/-! SUPPORT. What a boundary does with its lists: what consumption frees, what lapses, and what is posted in which order (R304, R310 to
R315). -/

namespace Sys2Proof.Machine

set_option Elab.async false

variable {s r u : State}

/-! ### Consumption (R304, R314, R315) -/

theorem mem_freeHeld (q : QueueIx) (e : Entry) (l : List Held) (h : Held) :
    h ∈ freeHeld q e l ↔ h ∈ l ∧ (h.queue = q → e.w0 ≠ word (h.seq.toNat * 512 + h.tag.toNat)) := by
  simp only [freeHeld, List.mem_filter, Bool.not_eq_true', Bool.and_eq_false_iff, beq_eq_false_iff_ne, ne_comm (b := e.w0)]
  tauto

/-- What the consumed completions of one queue leave held. -/
theorem mem_freeQueue (q : QueueIx) (es : List Entry) (l : List Held) (h : Held) :
    h ∈ es.foldl (fun l e => freeHeld q e l) l ↔ h ∈ l ∧ (h.queue = q → ∀ e ∈ es, e.w0 ≠ word (h.seq.toNat * 512 + h.tag.toNat)) := by
  induction es generalizing l with
  | nil => simp
  | cons e es ih =>
    rw [List.foldl_cons, ih, mem_freeHeld, List.forall_mem_cons]
    tauto

/-- What the consumed completions of several queues leave held. -/
theorem mem_freeQueues (f : QueueIx → List Entry) (qs : List QueueIx) (l : List Held) (h : Held) :
    h ∈ qs.foldl (fun l q => (f q).foldl (fun l e => freeHeld q e l) l) l ↔
      h ∈ l ∧ (h.queue ∈ qs → ∀ e ∈ f h.queue, e.w0 ≠ word (h.seq.toNat * 512 + h.tag.toNat)) := by
  induction qs generalizing l with
  | nil => simp
  | cons q qs ih =>
    rw [List.foldl_cons, ih, mem_freeQueue, List.mem_cons]
    constructor
    · rintro ⟨⟨held, this⟩, later⟩
      refine ⟨held, fun here => ?_⟩
      rcases here with rfl | there
      · exact this rfl
      · exact later there
    · rintro ⟨held, all⟩
      exact ⟨⟨held, fun here => here ▸ all (.inl here)⟩, fun there => all (.inr there)⟩

theorem State.mem_consume_held (s : State) (h : Held) :
    h ∈ s.consume.q.held ↔ h ∈ s.q.held ∧
      ∀ e ∈ s.q.cq[h.queue].entries.take s.q.cq[h.queue].pops, e.w0 ≠ word (h.seq.toNat * 512 + h.tag.toNat) := by
  refine (mem_freeQueues (fun q => s.q.cq[q].entries.take s.q.cq[q].pops) (List.finRange 64) s.q.held h).trans ?_
  simp only [List.mem_finRange, forall_const]

theorem State.consume_ring (s : State) (q : QueueIx) :
    s.consume.q.cq[q].entries = s.q.cq[q].entries.drop s.q.cq[q].pops ∧ s.consume.q.cq[q].pops = 0 := by
  simp [State.consume]

theorem State.consume_fifo (s : State) (p : Pitch) :
    s.consume.q.evq[p].entries = s.q.evq[p].entries.drop s.q.evq[p].pops ∧ s.consume.q.evq[p].pops = 0 ∧
      s.consume.q.evq[p].lost = s.q.evq[p].lost := by
  simp [State.consume]

/-! ### Commands that lapse (R112, R189) -/

/-- The completion of a command that lapses in the boundary of `bellNo`. -/
def lateDone (bellNo : Nat) (x : Cmd × Nat) : Done := ⟨{ cmd := x.1, order := x.2 }, stLate, 0, 0, 0, 0, bellNo⟩

theorem State.lapses_eq (l : List (Cmd × Nat)) (s : State) :
    l.foldl (fun s x => s.lapse x.1 x.2) s = { s with q := { s.q with
      accepted := s.q.accepted.diff (l.map Prod.fst), outcomes := s.q.outcomes ++ l.map (lateDone s.bell.bellNo) } } := by
  induction l generalizing s with
  | nil => simp
  | cons x l ih =>
    rw [List.foldl_cons, ih, List.map_cons, List.diff_cons]
    simp [State.lapse, State.finishIn, lateDone]

/-- The commands of which `f` holds, in order, complete with ST_LATE. -/
theorem State.lapseAll_eq (s : State) (f : Cmd → Bool) :
    s.lapseAll f = { s with q := { s.q with
      accepted := s.q.accepted.diff (inOrder (s.q.accepted.filter f))
      outcomes := s.q.outcomes ++ (numbered (inOrder (s.q.accepted.filter f))).map (lateDone s.bell.bellNo) } } := by
  rw [State.lapseAll, State.lapses_eq, numbered_map_fst]

theorem lateDone_cmds (k : Nat) (l : List Cmd) : ((numbered l).map (lateDone k)).map (fun d => d.what.cmd) = l := by
  rw [List.map_map]
  exact numbered_map_fst l

/-- A list without the elements of which `f` holds, each taken away once for each time it stands there. -/
theorem mem_diff_of_perm_filter {α : Type} [DecidableEq α] {l d : List α} {f : α → Bool} (h : d.Perm (l.filter f)) (x : α) :
    x ∈ l.diff d ↔ x ∈ l ∧ f x = false := by
  have count : (l.diff d).count x = l.count x - (l.filter f).count x := by rw [List.count_diff, h.count_eq]
  cases hx : f x with
  | true =>
    rw [List.count_filter hx, Nat.sub_self] at count
    simp [List.count_eq_zero.mp count]
  | false =>
    have none : (l.filter f).count x = 0 := List.count_eq_zero.mpr fun mem => by simp [hx] at mem
    rw [none, Nat.sub_zero] at count
    rw [← List.count_pos_iff, count, List.count_pos_iff]
    simp

theorem State.mem_lapseAll (s : State) (f : Cmd → Bool) (c : Cmd) :
    c ∈ (s.lapseAll f).q.accepted ↔ c ∈ s.q.accepted ∧ f c = false := by
  rw [s.lapseAll_eq]
  exact mem_diff_of_perm_filter (inOrder_perm _) c

theorem State.lapseAll_true (s : State) :
    (s.lapseAll fun _ => true).q.accepted = [] ∧
    ∃ l : List Done, (s.lapseAll fun _ => true).q.outcomes = s.q.outcomes ++ l ∧ l.map (fun d => d.what.cmd) = inOrder s.q.accepted ∧
      ∀ d ∈ l, d.status = stLate ∧ d.due = s.bell.bellNo := by
  refine ⟨List.eq_nil_iff_forall_not_mem.mpr fun c mem => ?_, (numbered (inOrder s.q.accepted)).map (lateDone s.bell.bellNo), ?_,
    lateDone_cmds .., fun d mem => ?_⟩
  · rw [s.mem_lapseAll] at mem
    exact absurd mem.2 (by simp)
  · rw [s.lapseAll_eq, List.filter_true]
  · obtain ⟨x, _, rfl⟩ := List.mem_map.mp mem
    exact ⟨rfl, rfl⟩

/-! ### Completions (R310, R311) -/

/-- Earlier effective epoch first, then lower order index, as the epoch in force fixes the wrap. -/
def Done.sooner (now : DWord) (a b : Done) : Prop :=
  let x := (a.what.cmd.epoch - now).toInt
  let y := (b.what.cmd.epoch - now).toInt
  x < y ∨ x = y ∧ a.what.order ≤ b.what.order

theorem before_iff (now : DWord) (a b : Done) : Done.before now a b = true ↔ Done.sooner now a b := by
  simp [Done.before, Done.sooner]

theorem before_total (now : DWord) (a b : Done) : Done.before now a b = true ∨ Done.before now b a = true := by
  simp only [before_iff, Done.sooner]
  omega

theorem before_trans (now : DWord) (a b c : Done) (h : Done.before now a b = true) (k : Done.before now b c = true) :
    Done.before now a c = true := by
  simp only [before_iff, Done.sooner] at h k ⊢
  omega

theorem sortBy_before (now : DWord) (l : List Done) : (sortBy (Done.before now) l).Pairwise (Done.sooner now) :=
  (sortBy_pairwise (before_total now) (before_trans now) l).imp fun h => (before_iff ..).mp h

/-- The completion goes to queue `q`. -/
def Done.goesTo (q : QueueIx) (d : Done) : Bool := !d.what.mute && decide (d.what.cmd.door ≠ .register) && decide (d.what.cmd.queue = q)

/-- What a register path takes of a completion: neither ring nor fuse image. -/
theorem State.postRegister_keeps (s : State) (d : Done) :
    (s.postRegister d).q = s.q ∧ (s.postRegister d).fuse.image = s.fuse.image := by
  unfold postRegister
  split
  · dsimp only
    split
    · exact ⟨rfl, rfl⟩
    · exact ⟨rfl, rfl⟩
  · exact ⟨rfl, rfl⟩

theorem State.completionEntry_congr (image : r.fuse.image = s.fuse.image) (d : Done) : r.completionEntry d = s.completionEntry d := by
  unfold completionEntry postedR0 budgetLow
  rw [image]

theorem State.postDone_image (s : State) (d : Done) : (s.postDone d).fuse.image = s.fuse.image := by
  unfold postDone
  dsimp only
  split
  · rfl
  · split
    · exact (s.postRegister_keeps d).2
    · rw [trace_fuse]

/-- One completion joins the ring of its queue, and no other. -/
theorem State.postDone_ring (s : State) (d : Done) (q : QueueIx) :
    (s.postDone d).q.cq[q].entries = s.q.cq[q].entries ++ (if d.goesTo q then [s.completionEntry d] else []) := by
  unfold postDone Done.goesTo
  dsimp only
  by_cases mute : d.what.mute = true
  · simp [mute]
  · rw [if_neg mute]
    by_cases reg : d.what.cmd.door = .register
    · rw [if_pos reg, (s.postRegister_keeps d).1]
      simp [reg]
    · rw [if_neg reg, trace_q]
      by_cases here : d.what.cmd.queue = q
      · subst here
        simp [mute, reg]
      · have other := vmod_ne s.q.cq d.what.cmd.queue q (fun r => { r with entries := r.entries ++ [s.completionEntry d] }) here
        simp [here, other]

theorem State.postDones_ring (l : List Done) (s : State) (q : QueueIx) :
    (l.foldl postDone s).q.cq[q].entries = s.q.cq[q].entries ++ (l.filter (Done.goesTo q)).map s.completionEntry := by
  induction l generalizing s with
  | nil => simp
  | cons d l ih =>
    have same : (s.postDone d).completionEntry = s.completionEntry := funext fun x => completionEntry_congr (s.postDone_image d) x
    rw [List.foldl_cons, ih, s.postDone_ring, same, List.append_assoc, List.filter_cons]
    split <;> simp

theorem State.postCompletions_ring (s : State) : ∃ l : List Done, l.Perm (s.q.outcomes.filter fun d => decide (d.due ≤ s.bell.bellNo)) ∧
    l.Pairwise (Done.sooner s.bell.epoch) ∧
    ∀ q : QueueIx, s.postCompletions.q.cq[q].entries = s.q.cq[q].entries ++ (l.filter (Done.goesTo q)).map s.completionEntry :=
  ⟨_, sortBy_perm .., sortBy_before .., fun q => postDones_ring _ _ q⟩

/-! ### Events (R312, R313) -/

theorem satNat_full {n : Nat} (h : 255 ≤ n) : satNat 8 n = BitVec.allOnes 8 := by
  unfold satNat
  split
  · have top : n = 255 := by omega
    rw [top]
    rfl
  · rfl

/-- One more on a saturating count, and `k` more after it. -/
theorem satNat_satInc_add (x : Byte) (k : Nat) : satNat 8 ((satInc x).toNat + k) = satNat 8 (x.toNat + (k + 1)) := by
  by_cases full : x = BitVec.allOnes 8
  · have top : (BitVec.allOnes 8).toNat = 255 := rfl
    rw [satInc, if_pos full, full, top, satNat_full (Nat.le_add_right ..), satNat_full (Nat.le_add_right ..)]
  · have below : x.toNat ≠ 255 := fun top => full (BitVec.eq_of_toNat_eq top)
    have value : (satInc x).toNat = x.toNat + 1 := by
      rw [satInc, if_neg full]
      bv_omega
    rw [value]
    congr 1
    omega

theorem satNat_toNat (x : Byte) : satNat 8 x.toNat = x := by
  rw [satNat, if_pos x.isLt, BitVec.ofNat_toNat, BitVec.setWidth_eq]

/-- A FIFO that an event is posted to: it joins while there is room, and is counted elsewhere. -/
def EventFifo.taking (now : Ticks) (f : EventFifo) (e : Entry) : EventFifo :=
  if f.entries.length < 16 then { f with entries := f.entries ++ [e] } else { f with lost := satInc f.lost, fresh := f.fresh.set now 0x00FF }

theorem EventFifo.takings_entries (now : Ticks) (l : List Entry) (f : EventFifo) :
    (l.foldl (EventFifo.taking now) f).entries = f.entries ++ l.take (16 - f.entries.length) := by
  induction l generalizing f with
  | nil => simp
  | cons e l ih =>
    rw [List.foldl_cons, ih, EventFifo.taking]
    by_cases room : f.entries.length < 16
    · have more : 16 - f.entries.length = 16 - (f.entries.length + 1) + 1 := by omega
      rw [if_pos room, more]
      simp
    · have full : 16 - f.entries.length = 0 := by omega
      rw [if_neg room]
      simp [full]

theorem EventFifo.takings_lost (now : Ticks) (l : List Entry) (f : EventFifo) :
    (l.foldl (EventFifo.taking now) f).lost = satNat 8 (f.lost.toNat + (l.length - (16 - f.entries.length))) := by
  induction l generalizing f with
  | nil => simp [satNat_toNat]
  | cons e l ih =>
    rw [List.foldl_cons, ih, EventFifo.taking]
    by_cases room : f.entries.length < 16
    · rw [if_pos room]
      simp only [List.length_append, List.length_cons, List.length_nil]
      congr 2
      omega
    · have more : (e :: l).length - (16 - f.entries.length) = l.length - (16 - f.entries.length) + 1 := by
        rw [List.length_cons]
        omega
      rw [if_neg room, more]
      exact satNat_satInc_add ..

/-- An event goes to the FIFO of its pitch alone. -/
theorem State.postEvent_fifo (s : State) (x : EventOut) (p : Pitch) :
    (s.postEvent x).q.evq[p] = if x.pitch = p then s.q.evq[p].taking s.now x.entry else s.q.evq[p] := by
  have set (f : EventFifo) : (vset s.q.evq x.pitch f)[p] = if x.pitch = p then f else s.q.evq[p] := by
    split
    case isTrue here => exact here ▸ vset_self ..
    case isFalse other => exact vset_ne _ _ _ _ other
  unfold postEvent EventFifo.taking
  dsimp only
  by_cases room : s.q.evq[x.pitch].entries.length < 16
  · rw [if_pos room]
    simp only [trace_q, set]
    split
    case isTrue here => rw [← here, if_pos room]
    case isFalse other => rfl
  · rw [if_neg room]
    simp only [set]
    split
    case isTrue here => rw [← here, if_neg room]
    case isFalse other => rfl

theorem State.postEvent_now (s : State) (x : EventOut) : (s.postEvent x).now = s.now := by
  unfold postEvent
  dsimp only
  split
  · rw [trace_now]
  · rfl

theorem State.postEvents_fold (l : List EventOut) (s : State) (p : Pitch) :
    (l.foldl postEvent s).q.evq[p] =
      ((l.filter fun x => decide (x.pitch = p)).map EventOut.entry).foldl (EventFifo.taking s.now) s.q.evq[p] := by
  induction l generalizing s with
  | nil => rfl
  | cons x l ih =>
    rw [List.foldl_cons, ih, s.postEvent_fifo, s.postEvent_now, List.filter_cons]
    by_cases here : x.pitch = p
    · simp [here]
    · simp [here]

theorem State.postEvents_fifo (s : State) (p : Pitch) :
    let new := (s.q.events.filter fun x => decide (x.pitch = p)).map EventOut.entry
    let room := 16 - s.q.evq[p].entries.length
    s.postEvents.q.evq[p].entries = s.q.evq[p].entries ++ new.take room ∧
    s.postEvents.q.evq[p].lost = satNat 8 (s.q.evq[p].lost.toNat + (new.length - room)) := by
  have fold := postEvents_fold s.q.events { s with q := { s.q with events := [] } } p
  rw [← postEvents] at fold
  rw [fold]
  exact ⟨EventFifo.takings_entries .., EventFifo.takings_lost ..⟩

end Sys2Proof.Machine
end


section
/-! SUPPORT. A bell boundary from its first step to its last: every command of its epoch is applied, and what is due is posted (R101,
R306, R310 to R313). -/

namespace Sys2Proof.Machine

set_option Elab.async false

variable {s r u : State}

/-! ### The commands of the epoch (R306, R307) -/

theorem State.calm_finish (s : State) (a : Applied) (st : Byte) (r0 r1 r2 r3 : Word) : Calm s (s.finish a st r0 r1 r2 r3) := .of_eq rfl rfl

/-- A command at its application is one of the accepted ones no more. -/
def State.unaccepted (s : State) (c : Cmd) : State :=
  { s with q := { s.q with orderNext := vmod s.q.orderNext c.pitch fun k => k + 1, accepted := s.q.accepted.erase c } }

theorem State.applyWith_calm (s : State) (c : Cmd) {f : Applied → State → Effect} (hf : ∀ a r, Calm r (f a r).1) :
    Calm (s.unaccepted c) (s.applyWith c f).1 := by
  have effect := hf { cmd := c, order := s.q.orderNext[c.pitch] } (s.unaccepted c)
  unfold applyWith
  dsimp only
  rw [← unaccepted]
  split
  · exact calm_finish ..
  · split
    · rename_i heq
      rw [heq] at effect
      exact effect.trans (calm_finish ..)
    · rename_i heq
      rw [heq] at effect
      exact effect

/-- Host accesses wait as before, and of the accepted commands those of `l` are gone. -/
structure Drained (l : List Cmd) (s t : State) : Prop where
  waiting : t.host.waiting = s.host.waiting
  accepted : t.q.accepted.Sublist (s.q.accepted.diff l)

theorem applyOne_drained (snap : State) (acc : State × List (Applied × Byte)) (x : Cmd × Nat) :
    Drained [x.1] acc.1 (applyOne snap acc x).1 := by
  have step := State.applyWith_calm { acc.1 with q := { acc.1.q with orderNext := vset acc.1.q.orderNext x.1.pitch x.2 } } x.1
    fun a r => calm_effectFor snap x.1 a r
  refine ⟨step.waiting, ?_⟩
  rw [List.diff_cons, List.diff_nil]
  exact step.accepted

theorem applyAll_drained (snap : State) (l : List (Cmd × Nat)) (acc : State × List (Applied × Byte)) :
    Drained (l.map Prod.fst) acc.1 (l.foldl (applyOne snap) acc).1 := by
  induction l generalizing acc with
  | nil => exact ⟨rfl, .refl _⟩
  | cons x l ih =>
    have first := applyOne_drained snap acc x
    have others := ih (applyOne snap acc x)
    refine ⟨others.waiting.trans first.waiting, others.accepted.trans ?_⟩
    have left := first.accepted
    rw [List.diff_cons, List.diff_nil] at left
    rw [List.map_cons, List.diff_cons]
    exact left.diff_right

theorem State.calm_ledgerWrite (s : State) (a : Applied) (st : Byte) : Calm s (s.ledgerWrite a st) := by
  unfold ledgerWrite
  dsimp only
  refine Calm.trans ?_ (calm_trace ..)
  refine Calm.trans ?_ (calm_count ..)
  exact .of_eq rfl rfl

/-- The commands of an epoch in two runs, the ASSIGNs last, are all of them. -/
theorem epoch_perm (l : List Cmd) :
    (((numbered (inOrder l)).filter fun x => !Cmd.isAssign x.1).map Prod.fst ++
      ((numbered (inOrder l)).filter fun x => Cmd.isAssign x.1).map Prod.fst).Perm l := by
  rw [← List.map_append]
  have runs : (((numbered (inOrder l)).filter fun x => !Cmd.isAssign x.1) ++
      (numbered (inOrder l)).filter fun x => Cmd.isAssign x.1).Perm (numbered (inOrder l)) :=
    List.perm_append_comm.trans (List.filter_append_perm ..)
  have all := runs.map Prod.fst
  rw [numbered_map_fst] at all
  exact all.trans (inOrder_perm l)

/-- Every command of the present epoch is applied, and no other is taken away or joins. -/
theorem State.applyEpoch_drained (s : State) : s.applyEpoch.host.waiting = s.host.waiting ∧
    ∀ c ∈ s.applyEpoch.q.accepted, c ∈ s.q.accepted ∧ c.epoch ≠ s.bell.epoch := by
  unfold applyEpoch
  dsimp only
  have perm := epoch_perm (s.q.accepted.filter fun c => c.epoch == s.bell.epoch)
  generalize numbered (inOrder (s.q.accepted.filter fun c => c.epoch == s.bell.epoch)) = l at perm ⊢
  have first := applyAll_drained s.atBoundary (l.filter fun x => !Cmd.isAssign x.1) (s, [])
  generalize (l.filter fun x => !Cmd.isAssign x.1).foldl (applyOne s.atBoundary) (s, []) = x at first ⊢
  have last := applyAll_drained s.atBoundary (l.filter fun x => Cmd.isAssign x.1) x
  generalize (l.filter fun x => Cmd.isAssign x.1).foldl (applyOne s.atBoundary) x = y at last ⊢
  have ledger (es : List (Applied × Byte)) : Calm y.1 (es.foldl (fun s x => s.ledgerWrite x.1 x.2) y.1) :=
    Calm.each (.refl _) fun r e => r.calm_ledgerWrite ..
  refine ⟨(ledger _).waiting.trans (last.waiting.trans first.waiting), fun c mem => ?_⟩
  have left := first.accepted.diff_right.subset (last.accepted.subset ((ledger _).accepted.subset mem))
  rw [← List.diff_append, mem_diff_of_perm_filter perm] at left
  exact ⟨left.1, by simpa using left.2⟩

/-- What precedes, is and follows the commands of an epoch leaves none of them. -/
theorem State.epochBegins_drained (s : State) (t : Ticks) (jump first : Bool) : (s.epochBegins t jump first).host.waiting = s.host.waiting ∧
    ∀ c ∈ (s.epochBegins t jump first).q.accepted, c ∈ s.q.accepted ∧ c.epoch ≠ s.bell.epoch := by
  have before := s.calm_beforeCommands jump first
  have bell := congrArg Bell.epoch ((Keeps.refl s).beforeCommands jump first).bell
  unfold epochBegins
  generalize s.beforeCommands jump first = x at before bell ⊢
  have applied : (x.atEpoch s.obs.tally).host.waiting = x.host.waiting ∧
      ∀ c ∈ (x.atEpoch s.obs.tally).q.accepted, c ∈ x.q.accepted ∧ c.epoch ≠ x.bell.epoch :=
    applyEpoch_drained { x with start := some { x.snapshot with obs := { x.obs with tally := s.obs.tally } } }
  generalize x.atEpoch s.obs.tally = y at applied ⊢
  obtain ⟨waiting, gone⟩ := applied
  have acts : Calm y (y.lanesTick t) := (Calm.of_eq (s := y) (r := y.tick t) rfl rfl).trans (LanesStep.lanesTick y t).calm
  refine ⟨acts.waiting.trans (waiting.trans before.waiting), fun c mem => ?_⟩
  obtain ⟨there, other⟩ := gone c (acts.accepted.subset mem)
  exact ⟨before.accepted.subset there, bell ▸ other⟩

/-! ### What follows the commands (R310 to R313) -/

theorem State.postDone_q (s : State) (d : Done) : (s.postDone d).q = { s.q with cq := (s.postDone d).q.cq } := by
  unfold postDone
  dsimp only
  split
  · rfl
  · split
    · rw [(s.postRegister_keeps d).1]
    · rw [trace_q]

theorem State.postDones_q (l : List Done) (s : State) : (l.foldl postDone s).q = { s.q with cq := (l.foldl postDone s).q.cq } :=
  List.foldlRecOn l postDone (motive := fun r => r.q = { s.q with cq := r.q.cq }) rfl fun r h d _ => (r.postDone_q d).trans (by rw [h])

theorem State.postEvent_q (s : State) (x : EventOut) : (s.postEvent x).q = { s.q with evq := (s.postEvent x).q.evq } := by
  unfold postEvent
  dsimp only
  split
  · rw [trace_q]
  · rfl

theorem State.postEvents_q (s : State) : s.postEvents.q = { s.q with events := [], evq := s.postEvents.q.evq } := by
  unfold postEvents
  refine List.foldlRecOn s.q.events postEvent (motive := fun r => r.q = { s.q with events := [], evq := r.q.evq }) ?_ fun r h x _ => ?_
  · rfl
  · exact (r.postEvent_q x).trans (by rw [h])

theorem State.postCompletions_outcomes (s : State) :
    s.postCompletions.q.outcomes = s.q.outcomes.filter fun d => !decide (d.due ≤ s.bell.bellNo) := by
  unfold postCompletions
  rw [postDones_q]

theorem State.traceBell_q (s : State) (k : Nat) : (s.traceBell k).q = s.q := by
  unfold traceBell
  split
  · exact traceDev_q ..
  · rfl

theorem State.traceLost_q (s : State) : s.traceLost.q = s.q := by
  unfold traceLost eachPitch
  refine List.foldlRecOn _ _ (motive := fun r : State => r.q = s.q) rfl fun r h p _ => ?_
  dsimp only
  split
  · exact (r.traceDev_q ..).trans h
  · exact h

theorem State.reseedDue_q (s : State) : s.reseedDue.q = s.q := by
  unfold reseedDue
  split <;> rfl

theorem State.afterCommands_q (s : State) (mw : Nat) :
    (s.afterCommands mw).q = (s.wsTryAll.powerBoundary mw).postCompletions.postEvents.q := by
  unfold afterCommands
  dsimp only
  rw [reseedDue_q]
  dsimp only
  rw [State.count_q, traceLost_q, traceBell_q]

/-- After a boundary every completion due is posted, and every event. -/
theorem State.afterCommands_posted (s : State) (mw : Nat) : (∀ d ∈ (s.afterCommands mw).q.outcomes, s.bell.bellNo < d.due) ∧
    (s.afterCommands mw).q.events = [] := by
  have bell := congrArg Bell.bellNo ((Keeps.refl s).wsTryAll.powerBoundary mw).bell
  rw [afterCommands_q, postEvents_q]
  dsimp only
  rw [postCompletions_outcomes, bell]
  refine ⟨fun d mem => ?_, rfl⟩
  obtain ⟨_, late⟩ := List.mem_filter.mp mem
  simpa using late

/-! ### From the first step to the last -/

/-- The events of a lane that were due before the boundary act: only lanes change but for the instant. -/
theorem LanesStep.lanesBefore (s : State) (t : Ticks) : LanesStep (s.tick t) (s.lanesBefore t) := by
  unfold State.lanesBefore State.eachLane
  refine List.foldlRecOn _ _ (motive := fun r : State => LanesStep (s.tick t) (r.tick t)) (.refl _) fun r h n _ => ?_
  split
  · exact h
  · exact h.trans (LaneStep.release n t (Nat.sub_le t 1) _ r).lanes

/-- The reports of the rails' windows change lanes' reports alone, and the marks of a change. -/
theorem State.bulkEvents_steps (s : State) : ∃ v : State, LanesStep s v ∧
    s.bulkEvents = { v with ana := { v.ana with bulkChangedA := false, bulkChangedB := false } } := by
  refine ⟨_, LanesStep.eachLane fun r n _ => ?_, rfl⟩
  dsimp only
  split <;> split
  · exact (LaneStep.refl n r).laneEvent ..
  · exact .refl ..
  · exact (LaneStep.refl n r).laneEvent ..
  · exact .refl ..

/-- A boundary at its epoch, before consumption. -/
def State.boundaryStarts (s : State) (e : DWord) (t : Ticks) : State :=
  let s := (s.lanesBefore t).bulkEvents
  { s with
    bell := { s.bell with epoch := e, next := none, jump := false, bellNo := s.bell.bellNo + 1, seen := true, boundaryAt := s.now }
    ring.counted := Vector.replicate 8 0
    q := { s.q with orderNext := Vector.replicate 8 0 }
    obs := { s.obs with cleared := [], restarted := [] } }

/-- What the start of a boundary leaves as it was, and what it sets of the bell. -/
theorem State.boundaryStarts_spec (s : State) (e : DWord) (t : Ticks) : let v := s.boundaryStarts e t
    v.pending = s.pending ∧ v.q.accepted = s.q.accepted ∧ v.q.cq = s.q.cq ∧ v.q.held = s.q.held ∧ v.pit = s.pit ∧ v.host = s.host ∧
    v.bell = { s.bell with
      epoch := e, next := none, jump := false, bellNo := s.bell.bellNo + 1, seen := true, boundaryAt := max s.now t } := by
  have lanes := LanesStep.lanesBefore s t
  obtain ⟨v, reports, eq⟩ := (s.lanesBefore t).bulkEvents_steps
  have h := lanes.trans reports
  unfold boundaryStarts
  rw [eq]
  dsimp only
  refine ⟨h.pending, ?_, ?_, ?_, h.pit, h.host, ?_⟩
  · rw [h.queue]
    rfl
  · rw [h.queue]
    rfl
  · rw [h.queue]
    rfl
  · rw [h.bell, h.now]
    rfl

theorem State.boundary_eq (s : State) (e : DWord) (obs : BellObs) : s.boundary e obs =
    ((s.boundaryStarts e obs.at_).takeOwners.epochBegins obs.at_ (s.lanesBefore obs.at_).bulkEvents.bell.jump
      !(s.lanesBefore obs.at_).bulkEvents.bell.seen).afterCommands obs.drawMw := rfl

theorem State.bulkEvents_lanesBefore_bell (s : State) (t : Ticks) : (s.lanesBefore t).bulkEvents.bell = s.bell := by
  obtain ⟨v, reports, eq⟩ := (s.lanesBefore t).bulkEvents_steps
  rw [eq]
  exact ((LanesStep.lanesBefore s t).trans reports).bell

end Sys2Proof.Machine
end


section
/-! OBLIGATION O15 `Obligations.BoundariesApplyAndPostInOrder`: the boundaries of a received bell and of a flywheel bell, and the order in
which they apply and post. -/

namespace Sys2Proof.Machine

set_option Elab.async false

variable {s u : State}

/-- From `s` to `u` the boundary of the epoch `e` is made: its bell in force, its commands applied, all that is due posted. -/
def BoundaryMade (s u : State) (e : DWord) (obs : BellObs) : Prop :=
  u.bell.epoch = e ∧ u.bell.next = none ∧ u.bell.jump = false ∧ u.bell.bellNo = s.bell.bellNo + 1 ∧ u.bell.seen = true ∧
  u.bell.boundaryAt = max s.now obs.at_ ∧ (∀ d ∈ u.q.outcomes, u.bell.bellNo < d.due) ∧ u.q.events = [] ∧
  (∀ c ∈ u.q.accepted, c.epoch ≠ e) ∧ u.pending = s.pending ∧
  ∃ v : State, v.bell.epoch = e ∧ v.q.accepted = s.q.accepted ∧ v.q.cq = s.q.cq ∧ v.q.held = s.q.held ∧
    v.pit = s.pit ∧ v.host = s.host ∧
    u = ((v.takeOwners).epochBegins obs.at_ s.bell.jump (!s.bell.seen)).afterCommands obs.drawMw

/-- The bell of a boundary, but for its events. -/
theorem State.boundary_bell (s : State) (e : DWord) (obs : BellObs) : let b := (s.boundary e obs).bell
    b = { s.bell with
      epoch := e, next := none, jump := false, bellNo := s.bell.bellNo + 1, seen := true, boundaryAt := max s.now obs.at_
      bellEvent := b.bellEvent, fresh := b.fresh } := by
  obtain ⟨_, _, _, _, _, _, start⟩ := s.boundaryStarts_spec e obs.at_
  have kept := (((Keeps.refl (s.boundaryStarts e obs.at_)).takeOwners.epochBegins obs.at_ (s.lanesBefore obs.at_).bulkEvents.bell.jump
    !(s.lanesBefore obs.at_).bulkEvents.bell.seen).afterCommands obs.drawMw).bell
  rw [← s.boundary_eq e obs, start] at kept
  exact kept

theorem State.boundary_made (s : State) (e : DWord) (obs : BellObs) : BoundaryMade s (s.boundary e obs) e obs := by
  have bell := s.boundary_bell e obs
  obtain ⟨pending, accepted, cq, held, pit, host, start⟩ := s.boundaryStarts_spec e obs.at_
  have eq := s.boundary_eq e obs
  rw [s.bulkEvents_lanesBefore_bell] at eq
  generalize s.boundaryStarts e obs.at_ = v at pending accepted cq held pit host start eq
  have epoch : v.bell.epoch = e := by rw [start]
  have owners := (Keeps.refl v).takeOwners
  have begun := owners.epochBegins obs.at_ s.bell.jump !s.bell.seen
  have drained := (State.epochBegins_drained v.takeOwners obs.at_ s.bell.jump !s.bell.seen).2
  rw [congrArg Bell.epoch owners.bell] at drained
  have same : s.boundary e obs = (v.takeOwners.epochBegins obs.at_ s.bell.jump !s.bell.seen).afterCommands obs.drawMw := eq
  generalize v.takeOwners.epochBegins obs.at_ s.bell.jump (!s.bell.seen) = w at begun drained eq
  obtain ⟨due, events⟩ := w.afterCommands_posted obs.drawMw
  have left := (w.calm_afterCommands obs.drawMw).accepted
  have after := begun.afterCommands obs.drawMw
  rw [← eq] at due events left after
  refine ⟨?_, ?_, ?_, ?_, ?_, ?_, ?_, events, fun c mem => ?_, after.pending.trans pending, v, epoch, accepted, cq, held, pit, host, same⟩
  iterate 6 rw [bell]
  · rw [congrArg Bell.bellNo after.bell, ← congrArg Bell.bellNo begun.bell]
    exact due
  · exact epoch ▸ (drained c (left.subset mem)).2

/-! ### The rows (R101, R105 to R108) -/

theorem execBellBoundary_made {e : DWord} {k : BellKind} (next : s.bell.next = some (e, k)) (joined : s.atJoined = true) (obs : BellObs) :
    ∃ u : State, exec (.bellBoundary obs) s = .next u.serveDue ∧ BoundaryMade s u e obs ∧ u.bell.flywheel = false ∧
      u.bell.flyRun = s.bell.flyRun ∧ u.bell.aligned = (decide (k = .head) && !s.bell.alignFail && !s.bell.alignHeld) := by
  have row : exec (.bellBoundary obs) s = .next (State.boundary { s with bell := { s.bell with
      flywheel := false, aligned := decide (k = .head) && !s.bell.alignFail && !s.bell.alignHeld } } e obs).serveDue := by
    change execBellBoundary obs s = _
    unfold execBellBoundary
    rw [next]
    dsimp only
    rw [if_pos joined]
  generalize hv : ({ s with bell := _ } : State) = v at row
  have made := v.boundary_made e obs
  have bell := v.boundary_bell e obs
  refine ⟨_, row, ?_, ?_, ?_, ?_⟩
  · unfold BoundaryMade at made ⊢
    subst hv
    exact made
  all_goals rw [bell, ← hv]

theorem execFlywheelBell_made (obs : BellObs) (joined : s.atJoined = true) (seen : s.bell.seen = true) (next : s.bell.next = none)
    (few : s.bell.flyRun < 4) (ridge : s.bell.ridge = false) :
    ∃ u : State, exec (.flywheelBell obs) s = .next u.serveDue ∧ BoundaryMade s u (s.bell.epoch + 1) obs ∧
      u.bell.flyRun = s.bell.flyRun + 1 ∧ u.bell.flywheel = true ∧ u.bell.bellOk = false ∧
      u.bell.bellMissed = satInc s.bell.bellMissed := by
  have row : exec (.flywheelBell obs) s = .next (State.boundary ((State.tick { s.bellLost with
      bell := { s.bell with flyRun := s.bell.flyRun + 1, flywheel := true, bellOk := false, bellMissed := satInc s.bell.bellMissed }
      ring := s.ring.cycle s.ring.islandCycle } obs.at_).bellEventSet 0x0001) (s.bell.epoch + 1) obs).serveDue := by
    change execFlywheelBell obs s = _
    unfold execFlywheelBell
    rw [if_pos ⟨joined, seen, next, few, by simp [ridge]⟩]
  generalize hv : State.bellEventSet _ _ = v at row
  have made := v.boundary_made (s.bell.epoch + 1) obs
  have bell := v.boundary_bell (s.bell.epoch + 1) obs
  refine ⟨_, row, ?_, ?_, ?_, ?_, ?_⟩
  · unfold BoundaryMade at made ⊢
    subst hv
    have late : max (max s.now obs.at_) obs.at_ = max s.now obs.at_ := by rw [Nat.max_assoc, Nat.max_self]
    rw [← late]
    exact made
  all_goals
    rw [bell, ← hv]
    rfl

theorem execFlywheelBell_early (obs : BellObs) (settled : s.atSettled = true) (joined : s.atJoined = false) (ridge : s.bell.ridge = false) :
    exec (.flywheelBell obs) s = .next
      ({ s with bell := { s.bell with bellOk := false }, clk := { s.clk with syntonyRun := 0 } } : State).serveDue := by
  change execFlywheelBell obs s = _
  unfold execFlywheelBell
  rw [if_neg (by simp [joined]), if_pos ⟨settled, by simp [joined], by simp [ridge]⟩]
  rfl

/-! ### What waited for the commands (R534, R640) -/

theorem State.wheelServe_idle (s : State) (n : TrkIx) (idle : (s.tk n).waiting = []) : s.wheelServe n = s := by
  have same : s.modTk n (fun x => { x with waiting := [] }) = s := by
    have id : ({ s.tk n with waiting := [] } : Tracker) = s.tk n := by rw [← idle]
    change s.setTk n { s.tk n with waiting := [] } = s
    rw [id]
    unfold setTk tk
    rw [Fin.getElem_fin, vset_get_self]
  unfold wheelServe
  dsimp only
  rw [same, idle]
  rfl

theorem State.serveDue_waits (s : State) : (s.commandsWait = true → s.serveDue = s) ∧
    (s.commandsWait = false → (∀ n : TrkIx, (s.tk n).waiting = []) → s.serveDue = s.serveWaiting) := by
  unfold serveDue
  refine ⟨fun waits => if_pos waits, fun none idle => ?_⟩
  have still : s.eachTrk wheelServe = s := by
    unfold eachTrk
    exact List.foldlRecOn trkIxs wheelServe (motive := (· = s)) rfl fun r h n _ => h ▸ s.wheelServe_idle n (idle n)
  rw [if_neg (by simp [none]), still]

/-- Settles O15: a boundary is its start, the commands of its epoch, which it leaves none of, and what follows them; the orders are those
of the model's insertion sort. -/
theorem boundariesApplyAndPostInOrder : Obligations.BoundariesApplyAndPostInOrder := by
  unfold Obligations.BoundariesApplyAndPostInOrder
  intro made first sooner
  refine ⟨?_, ?_, ?_, State.serveDue_waits, ?_, ?_, State.lapseAll_true, State.postCompletions_ring, State.postEvents_fifo⟩
  · intro s obs e k next joined
    exact execBellBoundary_made next joined obs
  · intro s obs joined seen next few ridge
    exact execFlywheelBell_made obs joined seen next few ridge
  · intro s obs settled joined ridge
    exact execFlywheelBell_early obs settled joined ridge
  · intro l
    exact ⟨inOrder_perm l, inOrder_pairwise l, inOrder_register l, numbered_map_fst l, numbered_index l⟩
  · intro s
    exact ⟨rfl, s.consume_ring, s.consume_fifo, s.mem_consume_held⟩

end Sys2Proof.Machine
end


section
/-! OBLIGATION O56 `Obligations.HostStepAndHoldTakeForce`: the host step, a host loss, the lease tick and a bench hold at a boundary, and
IRQ_N after it. -/

namespace Sys2Proof.Machine

set_option Elab.async false

variable {s r u : State} {n : TrkIx}

/-! ### IRQ_N (R317) -/

/-- From `s` to `t` neither a source of IRQ_N nor its level changed, and the same host accesses wait. -/
structure IrqSame (s t : State) : Prop where
  host : t.host = s.host
  pit : t.pit = s.pit
  rings : t.q.cq = s.q.cq
  fifos : t.q.evq = s.q.evq

namespace IrqSame

protected theorem refl (s : State) : IrqSame s s := ⟨rfl, rfl, rfl, rfl⟩

theorem trans (h : IrqSame s r) (k : IrqSame r u) : IrqSame s u :=
  ⟨k.host.trans h.host, k.pit.trans h.pit, k.rings.trans h.rings, k.fifos.trans h.fifos⟩

theorem foldl {α : Type} {f : State → α → State} (hf : ∀ r x, IrqSame r (f r x)) (l : List α) (s : State) : IrqSame s (l.foldl f s) :=
  List.foldlRecOn l f (motive := IrqSame s) (.refl s) fun r h x _ => h.trans (hf r x)

end IrqSame

theorem TrkStep.irqSame (h : TrkStep n s r) : IrqSame s r where
  host := by rw [h.rest]
  pit := by rw [h.rest]
  rings := by rw [h.queue]
  fifos := by rw [h.queue]

theorem TrkStep.wheelAct (s : State) (n : TrkIx) (e : WheelEvent) (t : Ticks) : TrkStep n (s.tick t) (s.wheelAct n e t) := by
  have start := TrkStep.refl n (s.tick t)
  unfold State.wheelAct
  dsimp only
  split
  · split
    · exact (start.modTk _).pulse ..
    · exact start
  · split
    · exact start.windowEnd t
    · exact start
  · split
    · exact (start.modTk _).angleUpdate ..
    · exact start

theorem IrqSame.wheelAct (s : State) (n : TrkIx) (e : WheelEvent) (t : Ticks) : IrqSame s (s.wheelAct n e t) := by
  have later : IrqSame s (s.tick t) := ⟨rfl, rfl, rfl, rfl⟩
  exact later.trans (TrkStep.wheelAct s n e t).irqSame

/-- The events of a tracker that waited act without touching the port, the rings or the FIFOs. -/
theorem IrqSame.wheelServe (s : State) (n : TrkIx) : IrqSame s (s.wheelServe n) := by
  have micro (r : State) (t : Ticks) : IrqSame r (r.wheelMicro n t) := by
    unfold State.wheelMicro
    split
    · exact ((TrkStep.refl n r).modTk _).irqSame
    · exact .wheelAct ..
  have first := ((TrkStep.refl n s).modTk fun x => { x with waiting := [] }).irqSame
  exact (first.trans (.foldl (fun r (x : WheelWait) => .wheelAct r n x.event x.at_) _ _)).trans (.foldl (fun r (x : WheelWait) => micro r x.at_) _ _)

/-- What IRQ_N shows of a state rests on the enables, the lease, the host pitch, the groups it owns, the rings and the FIFOs. -/
theorem State.irqPending_congr (irqEn : r.host.irqEn = s.host.irqEn) (leaseOn : r.host.leaseOn = s.host.leaseOn)
    (leaseLeft : r.host.leaseLeft = s.host.leaseLeft) (hostPitch : r.pit.hostPitch = s.pit.hostPitch) (own : r.pit.own = s.pit.own)
    (rings : r.q.cq = s.q.cq) (fifos : r.q.evq = s.q.evq) : r.irqPending = s.irqPending := by
  unfold irqPending cqPending evqPending ownsQueue
  rw [irqEn, leaseOn, leaseLeft, hostPitch, own, rings, fifos]

theorem IrqSame.irqPending (h : IrqSame s r) : r.irqPending = s.irqPending := by
  refine State.irqPending_congr ?_ ?_ ?_ ?_ ?_ h.rings h.fifos
  iterate 3 rw [h.host]
  iterate 2 rw [h.pit]

/-- After a boundary's commands IRQ_N is as its sources then say. -/
theorem State.afterCommands_irq (s : State) (mw : Nat) : (s.afterCommands mw).host.irqBell = (s.afterCommands mw).irqPending := by
  unfold afterCommands
  dsimp only
  generalize ((_ : State).count 0x40 0 none) = x
  unfold reseedDue
  split
  · exact (irqPending_congr rfl rfl rfl rfl rfl rfl rfl).symm
  · exact (irqPending_congr rfl rfl rfl rfl rfl rfl rfl).symm

/-- A boundary lets no host access wait that did not. -/
theorem State.boundary_waiting (s : State) (e : DWord) (obs : BellObs) : (s.boundary e obs).host.waiting = s.host.waiting := by
  obtain ⟨_, _, _, _, _, host, _⟩ := s.boundaryStarts_spec e obs.at_
  rw [s.boundary_eq]
  rw [(calm_afterCommands ..).waiting, (epochBegins_drained ..).1, (calm_takeOwners _).waiting, host]

/-- What waited for a boundary's commands leaves IRQ_N as it is where no host access waits. -/
theorem State.serveDue_irq (s : State) (idle : s.host.waiting = []) :
    s.serveDue.host.irqBell = s.host.irqBell ∧ s.serveDue.irqPending = s.irqPending := by
  have served : IrqSame s (s.eachTrk wheelServe) := .foldl IrqSame.wheelServe trkIxs s
  unfold serveDue
  split
  · exact ⟨rfl, rfl⟩
  · generalize s.eachTrk wheelServe = x at served ⊢
    have none : x.host.waiting = [] := by rw [served.host, idle]
    have same : x.serveWaiting = { x with host.waiting := [] } := by
      rw [serveWaiting, none]
      rfl
    have level : x.host.irqBell = s.host.irqBell := by rw [served.host]
    rw [same]
    exact ⟨level, (irqPending_congr rfl rfl rfl rfl rfl rfl rfl).trans served.irqPending⟩

theorem execBellBoundary_irq {e : DWord} {k : BellKind} (next : s.bell.next = some (e, k)) (joined : s.atJoined = true)
    (idle : s.host.waiting = []) (obs : BellObs) :
    ∃ u : State, exec (.bellBoundary obs) s = .next u ∧ u.host.irqBell = u.irqPending := by
  obtain ⟨v, same, row⟩ : ∃ v : State, v.host = s.host ∧ exec (.bellBoundary obs) s = .next (v.boundary e obs).serveDue := by
    refine ⟨{ s with bell := { s.bell with
      flywheel := false, aligned := decide (k = .head) && !s.bell.alignFail && !s.bell.alignHeld } }, rfl, ?_⟩
    change execBellBoundary obs s = _
    unfold execBellBoundary
    rw [next]
    dsimp only
    rw [if_pos joined]
  have waiting : (v.boundary e obs).host.waiting = [] := by rw [State.boundary_waiting, same, idle]
  have irq : (v.boundary e obs).host.irqBell = (v.boundary e obs).irqPending := by
    rw [State.boundary_eq]
    exact State.afterCommands_irq ..
  obtain ⟨level, sources⟩ := State.serveDue_irq _ waiting
  exact ⟨_, row, level.trans (irq.trans sources.symm)⟩

/-- IRQ_N has a source pending: a completion, an event, or a lease of two bells or fewer, enabled for the host pitch. -/
theorem State.irqPending_iff (s : State) : s.irqPending = true ↔
    (s.host.irqEn.getLsbD 0 = true ∧ ∃ q : QueueIx, s.ownsQueue s.pit.hostPitch q = true ∧ s.q.cq[q].entries ≠ []) ∨
    (s.host.irqEn.getLsbD 1 = true ∧ s.q.evq[s.pit.hostPitch].entries ≠ []) ∨
    (s.host.irqEn.getLsbD 2 = true ∧ s.host.leaseOn = true ∧ s.host.leaseLeft ≤ 2) := by
  have rings : s.cqPending s.pit.hostPitch = true ↔
      ∃ q : QueueIx, s.ownsQueue s.pit.hostPitch q = true ∧ s.q.cq[q].entries ≠ [] := by
    simp only [cqPending, List.any_eq_true, List.mem_finRange, true_and, Bool.and_eq_true, Bool.not_eq_true', List.isEmpty_eq_false_iff,
      ne_eq]
  have fifo : s.evqPending s.pit.hostPitch = true ↔ s.q.evq[s.pit.hostPitch].entries ≠ [] := by
    simp only [evqPending, Bool.not_eq_true', List.isEmpty_eq_false_iff, ne_eq]
  simp only [irqPending, bit, Bool.or_eq_true, Bool.and_eq_true, rings, fifo, decide_eq_true_eq, and_assoc, or_assoc]

theorem State.irqLow_iff (s : State) : s.irqLow = true ↔ s.atSettled = true ∧
    (s.host.irqBell = true ∨ (s.host.irqEn.getLsbD 3 = true ∧ (s.host.crcErr = true ∨ s.host.frameErr = true))) := by
  simp only [irqLow, bit, Bool.or_eq_true, Bool.and_eq_true]

end Sys2Proof.Machine
end


section
/-! OBLIGATION O56 `Obligations.HostStepAndHoldTakeForce`, continued: the host pitch, its loss, and the bench hold. -/

namespace Sys2Proof.Machine

set_option Elab.async false

variable {s r u : State} {n : LaneIx}

/-! ### The host pitch (R187, R262, R321) -/

/-- The state in which a new host pitch has taken its place, a whole lease with it, and the old one keeps its lease end. -/
def State.hostMoved (s : State) (new : Pitch) : State :=
  { s with
    pit := { s.pit with hostPitch := new, hostPitchNext := none }
    host := { s.host with
      leaseOn := true
      leaseOut := false
      leaseLeft := s.host.leaseLen.toNat
      oldLeases := (s.host.oldLeases ++
        if s.host.leaseOn && !s.host.leaseOut then [({ pitch := s.pit.hostPitch, left := s.host.leaseLeft } : OldLease)] else []).filter
          fun o => o.pitch != new } }

theorem State.takeHostPitch_none (s : State) (next : s.pit.hostPitchNext = none) : s.takeHostPitch = s := by
  unfold takeHostPitch
  rw [next]

theorem State.takeHostPitch_same (s : State) {new : Pitch} (next : s.pit.hostPitchNext = some new) (same : new = s.pit.hostPitch) :
    s.takeHostPitch = { s with pit := { s.pit with hostPitchNext := none } } := by
  unfold takeHostPitch
  rw [next]
  exact if_pos same

theorem State.takeHostPitch_new (s : State) {new : Pitch} (next : s.pit.hostPitchNext = some new) (other : new ≠ s.pit.hostPitch) :
    s.takeHostPitch = (s.hostMoved new).hostLost s.pit.hostPitch 1 := by
  unfold takeHostPitch
  rw [next]
  exact if_neg other

theorem State.mem_hostMoved_oldLeases (s : State) (new : Pitch) (o : OldLease) : o ∈ (s.hostMoved new).host.oldLeases ↔
    o.pitch ≠ new ∧ (o ∈ s.host.oldLeases ∨
      (s.host.leaseOn = true ∧ s.host.leaseOut = false ∧ o = ⟨s.pit.hostPitch, s.host.leaseLeft⟩)) := by
  have kept : (o ∈ if s.host.leaseOn && !s.host.leaseOut then [({ pitch := s.pit.hostPitch, left := s.host.leaseLeft } : OldLease)] else []) ↔
      s.host.leaseOn = true ∧ s.host.leaseOut = false ∧ o = ⟨s.pit.hostPitch, s.host.leaseLeft⟩ := by
    split
    case isTrue on => simp only [Bool.and_eq_true, Bool.not_eq_true'] at on; simp [on]
    case isFalse off => simp only [Bool.and_eq_true, Bool.not_eq_true', not_and] at off; simp; tauto
  simp only [hostMoved, List.mem_filter, List.mem_append, kept, bne_iff_ne]
  tauto

/-! ### A report that a lane's owner gets -/

theorem State.mem_laneEvent (s : State) (n : LaneIx) (k : Nat) (w4 w5 w6 w7 : Word) {p : Pitch} (own : s.laneOwner n = some p) :
    ⟨p, s.eventEntry 0x01 n.val k w4 w5 w6 w7⟩ ∈ (s.laneEvent n k w4 w5 w6 w7).q.events := by
  rw [laneEvent, own]
  exact List.mem_append_right _ (List.mem_singleton.mpr rfl)

/-- A host stop tells the owner of a lane that does not keep a sooner stop. -/
theorem State.hostStop_told (s : State) (n : LaneIx) {p : Pitch} {all : Bool} (word4 : Word)
    (acts : s.laneOwner n = some p ∧ (s.ln n).running = true ∧ (all = true ∨ bit (s.ln n).car.policy 2 = false))
    (sooner : (s.ln n).keepsStop s.now .ramp false = false) :
    ⟨p, s.eventEntry 0x01 n.val 0x02 word4 0 0 0⟩ ∈ (s.hostStop p all word4).q.events := by
  obtain ⟨w, before, lane, after, _⟩ :=
    State.eachLane_at (s := s) (fun r m _ => LaneStep.hostStopLane p all word4 r m) n
  have here : w.laneOwner n = some p ∧ (w.ln n).running = true ∧ (all = true ∨ bit (w.ln n).car.policy 2 = false) := by
    rw [before.laneOwner, lane]
    exact acts
  have free : ¬ (w.ln n).keepsStop w.now .ramp false = true := by
    rw [before.now, lane, sooner]
    exact Bool.false_ne_true
  have stopped := ((LaneStep.refl n w).beginStop w.now .ramp false none 4 false).lanes
  have told := State.mem_laneEvent (w.beginStop n w.now .ramp false none 4 false) n 0x02 word4 0 0 0 ((stopped.laneOwner n).trans here.1)
  rw [stopped.eventEntry, before.eventEntry] at told
  have acted : w.hostStopLane p all word4 n = (w.beginStop n w.now .ramp false none 4 false).laneEvent n 0x02 word4 0 0 0 := by
    rw [hostStopLane, if_pos here, if_neg free]
  rw [acted] at after
  rw [hostStop_eq]
  exact after.events.subset told

/-! ### A host loss (R186, R188 to R190) -/

/-- What a host loss of pitch `p` leaves: its commands of the port lapsed, its ORDERLY lanes stopped. -/
theorem State.hostLost_spec (s : State) (p : Pitch) (w : Word) :
    let u := s.hostLost p w
    let goes (c : Cmd) : Prop := c.pitch = p ∧ c.door ≠ .ring
    u.dev.devEvent = s.dev.devEvent ||| 0x0004 ∧
    (∀ c, c ∈ u.q.accepted ↔ c ∈ s.q.accepted ∧ ¬ goes c) ∧
    (∀ c ∈ s.q.accepted, goes c → ∃ d ∈ u.q.outcomes, d.what.cmd = c ∧ d.status = stLate ∧ d.due = s.bell.bellNo) ∧
    ∀ n : LaneIx,
      let stops : Prop := s.laneOwner n = some p ∧ (s.ln n).running = true ∧ (s.ln n).car.policy.getLsbD 2 = false
      (stops → ((u.ln n).com.state = .stopping ∨ (u.ln n).com.state = .stopped) ∧
        ((s.ln n).keepsStop s.now .ramp false = false → ⟨p, s.eventEntry 0x01 n.val 0x02 w 0 0 0⟩ ∈ u.q.events)) ∧
      (¬ stops → u.ln n = s.ln n) := by
  intro u goes
  have goes_iff (c : Cmd) : (c.pitch == p && c.door != .ring) = true ↔ goes c := by simp [goes]
  have lapsed := s.lapseAll_eq fun c => c.pitch == p && c.door != .ring
  have gone := s.mem_lapseAll fun c => c.pitch == p && c.door != .ring
  have all : u = ((s.lapseAll fun c => c.pitch == p && c.door != .ring).hostStop p false w).devEventSet 0x0004 := rfl
  generalize (s.lapseAll fun c => c.pitch == p && c.door != .ring) = x at lapsed gone all
  obtain ⟨steps, lanes⟩ := x.hostStop_spec p false w
  have told (n : LaneIx) := x.hostStop_told n (p := p) (all := false) w
  generalize x.hostStop p false w = y at steps lanes told all
  have dev : x.dev = s.dev := by rw [lapsed]
  have lane (n : LaneIx) : x.ln n = s.ln n := by rw [lapsed]; rfl
  have owner (n : LaneIx) : x.laneOwner n = s.laneOwner n := by rw [lapsed]; rfl
  have now : x.now = s.now := by rw [lapsed]
  have entry (n : LaneIx) : x.eventEntry 0x01 n.val 0x02 w 0 0 0 = s.eventEntry 0x01 n.val 0x02 w 0 0 0 := by rw [lapsed]; rfl
  rw [all]
  refine ⟨?_, fun c => ?_, fun c mem leaves => ?_, fun n => ⟨fun stops => ?_, fun rests => ?_⟩⟩
  · change y.dev.devEvent ||| 0x0004 = _
    rw [steps.dev, dev]
  · change c ∈ y.q.accepted ↔ _
    have same : y.q.accepted = x.q.accepted := by rw [steps.queue]
    rw [same, gone, ← goes_iff, Bool.not_eq_true]
  · have there : c ∈ inOrder (s.q.accepted.filter fun c => c.pitch == p && c.door != .ring) :=
      (inOrder_perm _).mem_iff.mpr (List.mem_filter.mpr ⟨mem, (goes_iff c).mpr leaves⟩)
    rw [← numbered_map_fst (inOrder _)] at there
    obtain ⟨k, index, rfl⟩ := List.mem_map.mp there
    refine ⟨lateDone s.bell.bellNo k, steps.outcomes.subset ?_, rfl, rfl, rfl⟩
    rw [lapsed]
    exact List.mem_append_right _ (List.mem_map_of_mem index)
  · obtain ⟨own, running, orderly⟩ := stops
    have acts : x.laneOwner n = some p ∧ (x.ln n).running = true ∧ (false = true ∨ bit (x.ln n).car.policy 2 = false) := by
      rw [owner, lane]
      exact ⟨own, running, .inr orderly⟩
    refine ⟨(lanes n).1 acts, fun sooner => ?_⟩
    rw [← entry]
    refine told n acts ?_
    rw [lane, now]
    exact sooner
  · refine ((lanes n).2 fun acts => rests ?_).trans (lane n)
    obtain ⟨own, running, orderly⟩ := acts
    rw [owner] at own
    rw [lane] at running orderly
    exact ⟨own, running, orderly.resolve_left Bool.false_ne_true⟩

/-! ### A bench hold (R326, R368, R370, R463) -/

/-- The state in which a bench hold has begun or ended, its lanes as they were. -/
def State.holdSet (s : State) (on : Bool) : State := { s with q := { s.q with holdNext := none, hold := on } }

/-- A bench hold, seen at one lane. -/
theorem State.holdLane_at (s : State) (on : Bool) (n : LaneIx) : ∃ w, LanesStep (s.holdSet on) w ∧ w.ln n = s.ln n ∧
    LanesStep (w.holdLane on n) ((s.holdSet on).eachLane (State.holdLane on)) ∧
    ((s.holdSet on).eachLane (State.holdLane on)).ln n = (w.holdLane on n).ln n :=
  State.eachLane_at (s := s.holdSet on) (fun r m _ => LaneStep.holdLane on r m) n

theorem State.holds_queue (s : State) (on : Bool) : ((s.holdSet on).eachLane (State.holdLane on)).q.hold = on ∧
    ((s.holdSet on).eachLane (State.holdLane on)).q.holdNext = none := by
  have steps : LanesStep (s.holdSet on) ((s.holdSet on).eachLane (State.holdLane on)) :=
    LanesStep.eachLane fun r m _ => LaneStep.holdLane on r m
  rw [steps.queue]
  exact ⟨rfl, rfl⟩

theorem State.takeHold_on (s : State) (next : s.q.holdNext = some true) (off : s.q.hold = false) :
    let u := s.takeHold
    u.q.hold = true ∧ u.q.holdNext = none ∧ ∀ n : LaneIx,
      let safe : Prop := (s.laneOwner n).isSome = true ∧ (s.ln n).car.policy.getLsbD 1 = false ∧
        ((s.ln n).running = true ∨ (s.ln n).pin = true)
      (safe → (u.ln n).latch.safeHold = true ∧ (u.ln n).com.state = .stopped ∧
        ∀ p, s.laneOwner n = some p → ⟨p, s.eventEntry 0x01 n.val 0x11 0 0 0 0⟩ ∈ u.q.events) ∧
      (¬ safe → u.ln n = s.ln n) := by
  intro u
  have all : u = (s.holdSet true).eachLane (State.holdLane true) := s.takeHold_eq next (by simp [off])
  rw [all]
  refine ⟨(s.holds_queue true).1, (s.holds_queue true).2, fun n => ?_⟩
  obtain ⟨w, before, lane, after, here⟩ := s.holdLane_at true n
  have owner : w.laneOwner n = s.laneOwner n := before.laneOwner n
  have entry : w.eventEntry 0x01 n.val 0x11 0 0 0 0 = s.eventEntry 0x01 n.val 0x11 0 0 0 0 := before.eventEntry ..
  have safe_iff : ((w.laneOwner n).isSome && !bit (w.ln n).car.policy 1 && ((w.ln n).running || (w.ln n).pin)) = true ↔
      (s.laneOwner n).isSome = true ∧ (s.ln n).car.policy.getLsbD 1 = false ∧ ((s.ln n).running = true ∨ (s.ln n).pin = true) := by
    simp only [owner, lane, bit, Bool.and_eq_true, Bool.or_eq_true, Bool.not_eq_true', and_assoc]
  rw [here]
  refine ⟨fun safe => ?_, fun exempt => ?_⟩
  · have forced : w.holdLane true n = (w.forceSafe n w.now 3 fun s => s.modLn n fun l => { l with latch.safeHold := true }).laneEvent n
        0x11 0 0 0 0 := by
      unfold holdLane
      rw [if_pos rfl, if_pos (safe_iff.mpr safe)]
    have levels := w.forceSafe_spec n w.now 3 fun l => { l with latch.safeHold := true }
    have steps := ((LaneStep.refl n w).forceSafe w.now 3 (fun s => s.modLn n fun l => { l with latch.safeHold := true })
      fun _ h => h.modLn _).lanes
    rw [forced]
    rw [forced] at after
    generalize (w.forceSafe n w.now 3 fun s => s.modLn n fun l => { l with latch.safeHold := true }) = x at levels steps after ⊢
    refine ⟨?_, ?_, fun p own => after.events.subset ?_⟩
    · rw [ln_laneEvent, levels.2]
      rfl
    · rw [ln_laneEvent]
      exact levels.1
    · have told := x.mem_laneEvent n 0x11 0 0 0 0 ((steps.laneOwner n).trans (owner.trans own))
      rw [steps.eventEntry, entry] at told
      exact told
  · have rests : w.holdLane true n = w := by
      unfold holdLane
      rw [if_pos rfl, if_neg fun safe => exempt (safe_iff.mp safe)]
    rw [rests, lane]

theorem State.takeHold_off (s : State) (next : s.q.holdNext = some false) (on : s.q.hold = true) :
    let u := s.takeHold
    u.q.hold = false ∧ u.q.holdNext = none ∧ ∀ n : LaneIx,
      ((s.ln n).latch.safeHold = true → (u.ln n).latch.safeHold = false ∧ (u.ln n).com.state = (s.ln n).com.state) ∧
      ((s.ln n).latch.safeHold = false → u.ln n = s.ln n) := by
  intro u
  have all : u = (s.holdSet false).eachLane (State.holdLane false) := s.takeHold_eq next (by simp [on])
  rw [all]
  refine ⟨(s.holds_queue false).1, (s.holds_queue false).2, fun n => ?_⟩
  obtain ⟨w, _, lane, _, here⟩ := s.holdLane_at false n
  rw [here, ← lane]
  unfold holdLane
  rw [if_neg Bool.false_ne_true]
  refine ⟨fun safe => ?_, fun free => ?_⟩
  · obtain ⟨_, com, latch, _⟩ := w.releaseSafe_spec n w.now fun l => { l with latch.safeHold := false }
    rw [if_pos safe]
    exact ⟨by rw [latch], by rw [com]⟩
  · rw [if_neg (by simp [free])]

/-- Settles O56: each part of the boundary by the lemma of its operation, and IRQ_N by what the boundary leaves of its sources. -/
theorem hostStepAndHoldTakeForce : Obligations.HostStepAndHoldTakeForce := by
  unfold Obligations.HostStepAndHoldTakeForce
  refine ⟨?_, State.takeHostPitch_none, State.hostLost_spec, fun s => ⟨rfl, rfl⟩, State.takeHold_on, State.takeHold_off, ?_,
    State.irqPending_iff, State.irqLow_iff⟩
  · intro s new next
    refine ⟨fun same => s.takeHostPitch_same next same, fun other => ⟨s.hostMoved new, s.takeHostPitch_new next other, rfl, ?_⟩⟩
    exact fun o => s.mem_hostMoved_oldLeases new o
  · intro s obs e k next joined idle
    exact execBellBoundary_irq next joined idle obs

end Sys2Proof.Machine
end
